-- ==== Sys2Proof/Word.lean ====
section
/-!
DEFINITION. The words that the LS-410 really handles as bits: the octets of a link frame, the 32-bit entries of a
hull data page, and the counts that wrap (the condition serial, the elapsed-seconds count, the channel mask).
Every physical quantity is an exact integer (R2, R3) and is an `Int`.
-/

namespace Sys2Proof

/-- One octet of a frame (R172). -/
abbrev Byte := BitVec 8

/-- One entry of a hull data page (R181). -/
abbrev Entry := BitVec 32

/-- The condition serial: a 16-bit count that goes to 0 after 65,535 (R33). -/
abbrev Serial := BitVec 16

/-- The elapsed-seconds count: 32 bits, to 0 after 4,294,967,295 (R4). -/
abbrev Seconds := BitVec 32

/-- The channel mask setting: one bit for each gauging channel 0 to 35 (R167). -/
abbrev Mask := BitVec 36

end Sys2Proof
end

