-- ==== Sys2Proof/Syntax.lean ====
section
/-!
DEFINITION. The commands of the part: one constructor for each row of spec/opcode_table.json. A command is one whole
step: a reset event, a link event, the taking of a frame by the block that serves its port, a timer's expiry, the
end of a conversion, or the completion of a job. The fields of a message travel in the frame that is taken, which
FRAME_RECEIVED has put into the port's inbound buffer (R173, R174), so a frame command names only its port where
several ports serve the kind (assumption 6).
-/

namespace Sys2Proof

/-- The six station links (R172, R178): the console, the four cranes, the ballast system. -/
inductive Port where
  | p | c1 | c2 | c3 | c4 | b
  deriving DecidableEq, Repr

/-- The four cranes; crane n serves port Cn and stands at address 7/(n - 1) (R6). -/
inductive Crane where
  | k1 | k2 | k3 | k4
  deriving DecidableEq, Repr

/-- What holds the part in reset (R184): power-good low, or the reset line. -/
inductive HoldCause where
  | power | line
  deriving DecidableEq, Repr

/-- The commands, in the order of spec/opcode_table.json. `comm` is the level of the COMM strap when a reset ends
(R180); it is used only by a command that ends a reset. -/
inductive Instr where
  /-- POWER_ON (R184). -/
  | powerOn (comm : Bool)
  /-- LINE_RESET (R184). -/
  | lineReset (comm : Bool)
  /-- RESET_HOLD (R184). -/
  | resetHold (cause : HoldCause)
  /-- FRAME_RECEIVED (R173): the octets read since the frame-mark, up to the frame's end or its failure. -/
  | frameReceived (port : Port) (octets : List Byte)
  /-- LINK_BREAK (R177). -/
  | linkBreak (port : Port) (comm : Bool)
  /-- SILENCE_TIMER_EXPIRY (R177). -/
  | silenceTimerExpiry (port : Port)
  /-- FRAME_SENT (R174). -/
  | frameSent (port : Port) (comm : Bool)
  /-- SUMMARY_TIMER_EXPIRY (R176). -/
  | summaryTimerExpiry
  /-- UNKNOWN_KIND (R173). -/
  | unknownKind (port : Port)
  /-- READ_ITEM (R161). -/
  | readItem
  /-- READ_RUN (R161). -/
  | readRun
  /-- READ_STOW (R162). -/
  | readStow
  /-- READ_LOT (R163). -/
  | readLot
  /-- READ_RESULT (R164). -/
  | readResult
  /-- READ_STRENGTH (R165). -/
  | readStrength
  /-- READ_ALARMS (R159). -/
  | readAlarms
  /-- READ_SETTING (R165). -/
  | readSetting
  /-- SET_CONSTANT (R30). -/
  | setConstant
  /-- ENTER_LOT (R19). -/
  | enterLot
  /-- REMOVE_LOT (R21). -/
  | removeLot
  /-- SHIFT_LOT (R22). -/
  | shiftLot
  /-- SET_DENSITY (R27). -/
  | setDensity
  /-- SET_MANUAL (R28). -/
  | setManual
  /-- RELEASE_MANUAL (R28). -/
  | releaseManual
  /-- SET_SETTING (R167). -/
  | setSetting
  /-- TRIAL_BEGIN (R169). -/
  | trialBegin
  /-- TRIAL_ADD (R169). -/
  | trialAdd
  /-- TRIAL_RUN (R170). -/
  | trialRun
  /-- ACK_ALARM (R158). -/
  | ackAlarm
  /-- RESTART (R171). -/
  | restart
  /-- STORE_LOAD (R182). -/
  | storeLoad
  /-- STORE_PROGRAM (R183). -/
  | storeProgram
  /-- STORE_DISCARD (R182). -/
  | storeDiscard
  /-- STORE_READ (R182). -/
  | storeRead
  /-- PROGRAM_COMPLETE (R183). -/
  | programComplete
  /-- LIFT_REQUEST (R83). -/
  | liftRequest (crane : Crane)
  /-- LIFT_CANCEL (R93). -/
  | liftCancel (crane : Crane)
  /-- HOOK_LOADED (R96). -/
  | hookLoaded (crane : Crane)
  /-- HOOK_POSITION (R112). -/
  | hookPosition (crane : Crane)
  /-- HOOK_LANDED (R101). -/
  | hookLanded (crane : Crane)
  /-- STOP_ACK (R147), on a crane port or port B. -/
  | stopAck (port : Port)
  /-- TRANSFER_START (R134). -/
  | transferStart
  /-- TRANSFER_END (R135). -/
  | transferEnd
  /-- TRANSFER_CLEAR (R135). -/
  | transferClear
  /-- RESERVATION_EXPIRY (R92). -/
  | reservationExpiry (crane : Crane)
  /-- ACK_TIMER_EXPIRY (R148). -/
  | ackTimerExpiry (port : Port)
  /-- SWEEP_TIMER_EXPIRY (R122). -/
  | sweepTimerExpiry
  /-- CONVERSION_END (R125): the count that the converter gives. -/
  | conversionEnd (count : Nat)
  /-- HOLD_TIMER_EXPIRY (R130): the tank's address octet. -/
  | holdTimerExpiry (tank : Nat)
  /-- PERMIT_JOB_COMPLETE (R45). -/
  | permitJobComplete
  /-- LIVE_JOB_COMPLETE (R46). -/
  | liveJobComplete
  /-- TRIAL_JOB_COMPLETE (R47). -/
  | trialJobComplete
  /-- TEST_JOB_COMPLETE (R48). -/
  | testJobComplete
  deriving DecidableEq, Repr

end Sys2Proof
end

