-- ==== Sys2Proof/Decode.lean ====
section
/-!
DEFINITION. The opcode table of this part gives no row any bits: its rows are events and frame takings, not words
(spec/opcode_table.json, every `fields` list empty). No word spells a command; the octets of the message kinds are
read in Machine/Operands.lean.
-/

namespace Sys2Proof

/-- The command that a word spells by the opcode table's bits: none, since no row has bits. -/
def decodeTableWord (_nbits _w : Nat) : Option Instr := none

end Sys2Proof
end

