-- ==== Sys2Proof/Config.lean ====
section
/-!
DEFINITION. The fixed sizes of the part, each with the rule that gives it, and the one value that the manual leaves
open for the model to keep free: what a page torn by a reset holds (R183, assumption 4).
-/

namespace Sys2Proof.Config

/-- Lot records in the pool (R15). -/
def poolSize : Nat := 512

/-- Frames an inbound buffer holds (R174). -/
def inboundSize : Nat := 4

/-- Frames an outbound queue holds (R174). -/
def outboundSize : Nat := 8

/-- The greatest payload length (R172). -/
def maxPayload : Nat := 56

/-- Requests the permit queue holds (R85). -/
def permitQueueSize : Nat := 8

/-- Stale completions after which a request is refused (R90). -/
def maxAttempts : Nat := 3

/-- Places of the alarm list for ADVISORY and LIMIT entries together (R154). -/
def lowerAlarms : Nat := 24

/-- Alarm entries one ALARMS reply carries (R159). -/
def alarmsPerRead : Nat := 4

/-- Trial changes the trial list holds (R169). -/
def trialSize : Nat := 16

/-- Entries of a hull data page (R181). -/
def pageEntries : Nat := 64

/-- Pages of the hull data store (R181). -/
def pageCount : Nat := 256

/-- Duration of a programming operation, ms (R183). -/
def programMs : Nat := 8

/-- What an entry of a page holds after a reset has torn the page: the manual gives no value (R183). The first
argument tells one torn page from another, the second is the entry's index. FREE VALUE (assumption 4). -/
opaque tornWord : Nat → Nat → Entry

end Sys2Proof.Config
end

