-- ==== Sys2Proof/Machine/State.lean ====
section
/-!
DEFINITION. The state of the LS-410 as plain data, block by block (the nine blocks of 00_scope.md), the faults and
refusals of a step, and the state that waits for the first POWER_ON.
-/

namespace Sys2Proof.Machine

/-! ### Positions, ends, and one value for each crane or port -/

/-- A horizontal point, mm in the vessel frame (R1). -/
structure Pt where
  x : Int
  y : Int
  deriving DecidableEq, Repr

/-- A position, mm in the vessel frame (R1). -/
structure Pos where
  x : Int
  y : Int
  z : Int
  deriving DecidableEq, Repr

/-- An end of a lift: QUAY or a cargo space (R5, R82). -/
inductive LiftEnd where
  | quay
  | space (addr : Nat)
  deriving DecidableEq, Repr

/-- An end of a ballast transfer: SEA or a tank (R5, R134). -/
inductive TransferEnd where
  | sea
  | tank (addr : Nat)
  deriving DecidableEq, Repr

/-- One value for each crane. -/
structure PerCrane (α : Type) where
  k1 : α
  k2 : α
  k3 : α
  k4 : α
  deriving DecidableEq, Repr

/-- One value for each port. -/
structure PerPort (α : Type) where
  p : α
  c1 : α
  c2 : α
  c3 : α
  c4 : α
  b : α
  deriving DecidableEq, Repr

/-! ### Hull data: the working tables (R6 to R9, R57, R60, R73, R121, R139) -/

/-- A bounds box (R7). -/
structure Box where
  xAft : Int
  xFwd : Int
  yPort : Int
  yStbd : Int
  zLow : Int
  zHigh : Int
  deriving DecidableEq, Repr

/-- One point of a tank table (R8). -/
structure TankPoint where
  sounding : Int
  volume : Int
  liqZ : Int
  inertia : Int
  deriving DecidableEq, Repr

/-- The fields a TANK entry adds (R8); `maxInertia` and `depth` are derived at load. -/
structure TankDef where
  table : List TankPoint
  cx : Int
  cy : Int
  channel : Option Nat
  density : Int
  maxInertia : Int
  depth : Int
  deriving DecidableEq, Repr

/-- The fields a CRANE entry adds (R9). -/
structure CraneDef where
  px : Int
  py : Int
  weight : Int
  z : Int
  boom : Int
  outreach : Int
  swl : Int
  deriving DecidableEq, Repr

/-- The fields a CONSTANT entry adds: its defaults (R7). -/
structure ConstDef where
  weight : Int
  pos : Pos
  deriving DecidableEq, Repr

/-- What a compartment entry adds by its kind (R6 to R9). -/
inductive Body where
  | cargo (capacity : Int)
  | tank (d : TankDef)
  | crane (d : CraneDef)
  | constant (d : ConstDef)
  deriving DecidableEq, Repr

/-- A defined compartment: box, segment span, and the fields of its kind (R7). -/
structure Compartment where
  box : Box
  first : Nat
  last : Nat
  body : Body
  deriving DecidableEq, Repr

/-- LBP, the lightship record, and the stations and midpoints derived from LBP at load (R49, R65, R68). -/
structure Hull where
  lbp : Int
  weight : Int
  pos : Pos
  segments : List Int
  stations : List Int
  mids : List Int
  deriving DecidableEq, Repr

/-- One hydrostatic row with its 20 buoyancy shares (R60, R69). -/
structure HydroRow where
  disp : Int
  t : Int
  km : Int
  lcb : Int
  lcf : Int
  mct : Int
  shares : List Int
  deriving DecidableEq, Repr

/-- The three allowables of one station (R73). -/
structure Allowable where
  sf : Int
  hog : Int
  sag : Int
  deriving DecidableEq, Repr

/-- The two sets of allowables at the 21 stations (R73). -/
structure StrengthTable where
  harbour : List Allowable
  seagoing : List Allowable
  deriving DecidableEq, Repr

/-- The limit record (R139). -/
structure LimitRecord where
  stopHeel : Int
  liftHeel : Int
  gmStop : Int
  gmLift : Int
  deriving DecidableEq, Repr

/-- A channel calibration (R121). -/
structure Calibration where
  zero : Int
  span : Int
  range : Int
  low : Int
  high : Int
  deriving DecidableEq, Repr

/-- One item of a stored test condition; no span means the mark "point" (R57). -/
structure TestItem where
  weight : Int
  pos : Pos
  span : Option (Nat × Nat)
  deriving DecidableEq, Repr

/-- The expected figures of a test condition (R186). -/
structure Expected where
  disp : Int
  kg : Int
  gmf : Int
  trim : Int
  ta : Int
  tf : Int
  sfPm : Int
  bmPm : Int
  sfStation : Nat
  bmStation : Nat
  deriving DecidableEq, Repr

/-- A stored test condition, and whether it passed its own check (R186). -/
structure TestCondition where
  items : List TestItem
  fsm : Int
  expected : Expected
  runnable : Bool
  deriving DecidableEq, Repr

/-- The working tables loaded at start-up (R181, R185). A table that is missing or failed its check is `none`; the
compartments are the defined addresses in rising order, the calibrations the calibrated channels in rising order. -/
structure Tables where
  hull : Option Hull
  hydro : Option (List HydroRow)
  strength : Option StrengthTable
  limits : Option LimitRecord
  comps : List (Nat × Compartment)
  calib : List (Nat × Calibration)
  tests : List TestCondition
  deriving DecidableEq, Repr

/-! ### The Condition Table (R13 to R37) -/

/-- Who entered a lot (R15). -/
inductive EnteredBy where
  | console
  | crane (c : Crane)
  deriving DecidableEq, Repr

/-- A lot record in use (R15). -/
structure Lot where
  num : Nat
  weight : Int
  pos : Pos
  loc : Nat
  entered : EnteredBy
  landed : Seconds
  deriving DecidableEq, Repr

/-- A filing list entry (R23). -/
structure Filing where
  crane : Crane
  num : Nat
  weight : Int
  pos : Pos
  dest : Nat
  landed : Seconds
  deriving DecidableEq, Repr

/-- The capacity state of a space (R18). -/
inductive CapState where
  | within | over
  deriving DecidableEq, Repr

/-- Where a tank's sounding came from (R24). -/
inductive Source where
  | none | sensor | held | manual
  deriving DecidableEq, Repr

/-- The live fields of a tank (R24). -/
structure TankLive where
  sounding : Int
  source : Source
  density : Int
  volume : Int
  liqZ : Int
  inertia : Int
  weight : Int
  inTransfer : Bool
  deriving DecidableEq, Repr

/-- The live fields of a constant (R30). -/
structure ConstLive where
  weight : Int
  pos : Pos
  deriving DecidableEq, Repr

/-- The Condition Table. `lots` holds the records in use; the stow list of a space is the lots located there, in this
list's order, which is the order of joining (R14). The free records are `Config.poolSize` less its length, the lot
directory is the lookup by number in it, and total weights are sums over it (assumption 28). -/
structure CondTable where
  lots : List Lot
  filing : List Filing
  spaces : List (Nat × CapState)
  tanks : List (Nat × TankLive)
  consts : List (Nat × ConstLive)
  structs : PerCrane (Option Pos)
  serial : Serial
  deriving DecidableEq, Repr

/-! ### The Lift Control Unit (R78, R79, R105, R107, R112) -/

/-- One candidate of a request: the requesting crane's point, and the partner's for a tandem request (R84, R108). -/
structure Candidate where
  own : Pt
  partner : Option Pt
  deriving DecidableEq, Repr

/-- The shares of a tandem lift, and the permille they were formed from (R107). -/
structure Shares where
  permille : Int
  lower : Int
  upper : Int
  deriving DecidableEq, Repr

/-- What a PENDING or GRANTED record holds of its request (R79, R84). -/
structure Request where
  lot : Nat
  weight : Int
  origin : LiftEnd
  dest : LiftEnd
  cands : List Candidate
  susp : Int
  tandem : Option Shares
  deriving DecidableEq, Repr

/-- What a HOOKED record holds. Its suspension height is the height of the crane's held hook position (R112), and the
upper suspension height of a tandem lift that of the upper crane's. -/
structure Load where
  permit : Nat
  lot : Nat
  weight : Int
  origin : LiftEnd
  dest : Option LiftEnd
  unpermitted : Bool
  tandem : Option Shares
  deriving DecidableEq, Repr

/-- A lift record: each state with the fields it uses (R79). -/
inductive LiftRec where
  | idle
  | pending (r : Request) (attempts : Nat)
  | granted (r : Request) (permit reserved : Nat) (deadline : Nat)
  | hooked (l : Load)
  | unfiled (lot : Nat) (weight : Int)
  | partner (lot : Nat) (lower : Crane)
  deriving DecidableEq, Repr

/-- The source of a hook position (R79). -/
inductive HookSource where
  | reported | unknown
  deriving DecidableEq, Repr

/-- The held hook position of a crane (R112). -/
structure Hook where
  x : Int
  y : Int
  h : Int
  source : HookSource
  deriving DecidableEq, Repr

/-- The Lift Control Unit. `inHand` is the evaluation in hand with its discard mark (R78). The LCU's copy of stop
standing is the Limit Monitor's own (R138, assumption 28). -/
structure Lcu where
  recs : PerCrane LiftRec
  hooks : PerCrane Hook
  queue : List Crane
  inHand : Option (Crane × Bool)
  counter : Nat
  pairA : Bool
  pairB : Bool
  deriving DecidableEq, Repr

/-! ### Trial changes, settings (R167, R169) -/

/-- A trial change (R169). -/
inductive TrialChange where
  | addLot (num space : Nat) (weight : Int) (pos : Pos)
  | removeLot (num : Nat)
  | shiftLot (num space : Nat) (pos : Pos)
  | setSounding (tank : Nat) (sounding : Int)
  | setConst (slot : Nat) (weight : Int) (pos : Pos)
  | hang (crane : Crane) (weight : Int) (pt : Pt) (h : Int)
  deriving DecidableEq, Repr

/-- The strength set (R73). -/
inductive StrengthSet where
  | harbour | seagoing
  deriving DecidableEq, Repr

/-- Settings 1 to 14, each in the unit of R167. -/
structure Settings where
  reservation : Nat
  ackWindow : Nat
  summaryPeriod : Nat
  silenceWindow : Nat
  mask : Mask
  resolution : Nat
  sweepPeriod : Nat
  soundingDeadband : Nat
  stepLimit : Nat
  holdLimit : Nat
  draughtTolerance : Nat
  draughtLimit : Nat
  strength : StrengthSet
  hookDeadband : Nat
  deriving DecidableEq, Repr

/-! ### The Stability Evaluator (R38, R51, R63) -/

/-- The kinds of job (R39). -/
inductive JobKind where
  | live | permit | trial | test
  deriving DecidableEq, Repr

/-- The image of a job (R51): the Condition Table and the lift records as they stood when it was taken, with what
else the job's kind records. -/
structure Image where
  kind : JobKind
  serial : Serial
  strength : StrengthSet
  table : CondTable
  recs : PerCrane LiftRec
  hooks : PerCrane Hook
  crane : Option Crane
  trial : List TrialChange
  test : Option TestCondition
  deriving DecidableEq, Repr

/-- The flags of a result (R63). -/
structure Flags where
  hydroLow : Bool
  hydroHigh : Bool
  gmNegative : Bool
  heelClamped : Bool
  deriving DecidableEq, Repr

/-- The strength fields of a result (R77). -/
structure Strength where
  sf : List Int
  bm : List Int
  sfPm : List Int
  bmPm : List Int
  worstSf : Nat
  worstSfPm : Int
  worstBm : Nat
  worstBmPm : Int
  set : StrengthSet
  deriving DecidableEq, Repr

/-- A result record (R63). `candidate` is 0 but in a PERMIT pass. -/
structure Result where
  kind : JobKind
  serial : Serial
  candidate : Nat
  disp : Int
  mx : Int
  my : Int
  mz : Int
  lcg : Int
  tcg : Int
  kg : Int
  fsm : Int
  fsc : Int
  t : Int
  km : Int
  lcb : Int
  lcf : Int
  mct : Int
  gms : Int
  gmf : Int
  heel : Int
  trim : Int
  ta : Int
  tf : Int
  maxDraught : Int
  strength : Strength
  flags : Flags
  deriving DecidableEq, Repr

/-- The evaluator state; a BUSY evaluator holds its job's image (R38). -/
inductive EvState where
  | disabled
  | idle
  | busy (img : Image)
  deriving DecidableEq, Repr

/-- The Stability Evaluator (R38). -/
structure Sev where
  state : EvState
  taken : Option Serial
  trialWanted : Bool
  last : Option JobKind
  live : Option Result
  deriving DecidableEq, Repr

/-! ### The Tank Gauging and Transfer unit (R120) -/

/-- The state of a gauging channel (R120). -/
inductive ChanState where
  | unswept | good | fault
  deriving DecidableEq, Repr

/-- A gauging channel: its state, the last good value of a draught channel, the candidate of a tank channel (R120). -/
structure Channel where
  state : ChanState
  lastGood : Option Int
  candidate : Option Int
  deriving DecidableEq, Repr

/-- The sweep state (R120): the channels still to be converted, the one being converted first, the sweep's
resolution, and the time base value at which the conversion ends. -/
inductive Sweep where
  | idle
  | running (chans : List Nat) (resolution : Nat) (ends : Nat)
  deriving DecidableEq, Repr

/-- What the TGT keeps for a tank: release mark and hold timer (R120). -/
structure TankGauge where
  release : Bool
  hold : Option Nat
  deriving DecidableEq, Repr

/-- An active transfer (R134). -/
structure Transfer where
  id : Nat
  src : TransferEnd
  dst : TransferEnd
  deriving DecidableEq, Repr

/-- The Tank Gauging and Transfer unit (R120). Measured draughts are formed from the channels (R132). -/
structure Tgt where
  sweep : Sweep
  active : List Nat
  timer : Option Nat
  chans : List (Nat × Channel)
  gauges : List (Nat × TankGauge)
  firstSweep : Bool
  transfers : List Transfer
  deriving DecidableEq, Repr

/-! ### The Limit Monitor (R138) -/

/-- The stop criteria, in their order (R140). -/
inductive Criterion where
  | heel | gm | draught | shear | bending
  deriving DecidableEq, Repr

/-- The stop state of a port (R146). -/
inductive StopState where
  | none | sent | acked | unanswered
  deriving DecidableEq, Repr

/-- A port's stop state and acknowledge timer (R138). -/
structure StopPort where
  state : StopState
  timer : Option Nat
  deriving DecidableEq, Repr

/-- The Limit Monitor (R138). Port P is never sent STOP, and its entry stays NONE. -/
structure Lmn where
  stop : Option (Criterion × Serial)
  ports : PerPort StopPort
  deriving DecidableEq, Repr

/-! ### The Alarm List (R150, R151) -/

/-- The alarm levels (R151). -/
inductive Level where
  | advisory | limit | hard
  deriving DecidableEq, Repr

/-- The 25 alarm kinds, in the order of their codes (R151). -/
inductive AlarmKind where
  | linkDegraded | portSilent | overrun | sensorFault | draughtDisagree | positionClamped | positionImplausible
  | destinationChanged | lotRenumbered | hydroRange | noTestCondition | heelLimit | gmLimit | draughtLimit
  | shearLimit | bendingLimit | overCapacity | unpermittedLift | sensorLost | positionUnknown | landedUnfiled
  | gmNegative | stopUnanswered | storeFault | testConditionFail
  deriving DecidableEq, Repr

/-- The subject of an alarm (R151). -/
inductive Subject where
  | none
  | port (q : Port)
  | crane (c : Crane)
  | addr (a : Nat)
  | aft
  | forward
  | station (n : Nat)
  deriving DecidableEq, Repr

/-- A kind and subject: what an entry, a raise, a clear and an acknowledgement name (R150, R152). -/
structure AlarmKey where
  kind : AlarmKind
  subject : Subject
  deriving DecidableEq, Repr

/-- The states of an entry (R150). -/
inductive EntryState where
  | activeUnack | activeAck | clearedUnack
  deriving DecidableEq, Repr

/-- An alarm entry; its level is fixed by its kind (R150, R151). -/
structure AlarmEntry where
  key : AlarmKey
  state : EntryState
  raised : Seconds
  deriving DecidableEq, Repr

/-- The Alarm List (R150, R155). `held` is the conditions that their blocks hold raised, listed or not: a block raises
a condition when it begins and clears it when it ends (ch. 9, R138, R154; assumption 12). -/
structure Als where
  entries : List AlarmEntry
  markAdvisory : Bool
  markLimit : Bool
  held : List AlarmKey
  deriving DecidableEq, Repr

/-! ### Messages (R178, R179) -/

/-- An inbound frame: kind and payload; its check has been judged (R172, R173). -/
structure Frame where
  kind : Byte
  payload : List Byte
  deriving DecidableEq, Repr

/-- The refusal codes 1 to 23, in order (R178). -/
inductive Code where
  | unknownKind | badField | notInService | wrongMode | portPaired | craneBusy | queueFull | overSwl | outOfReach
  | stopped | noPermit | conditionUnsettled | portsBusy | duplicateLot | noSuchLot | badSpace | outOfSpace
  | poolFull | lotInMotion | storeBusy | bufferHeld | trialBusy | trialFull
  deriving DecidableEq, Repr

/-- The filing state of a landing's DONE (R102, R103). -/
inductive FilingState where
  | offVessel | filed | unfiled
  deriving DecidableEq, Repr

/-- The report state of a hook report's DONE (R112 to R114). -/
inductive ReportState where
  | implausible | withinDeadband | applied
  deriving DecidableEq, Repr

/-- The state of a page (R181). -/
inductive PageState where
  | blank | written | torn
  deriving DecidableEq, Repr

/-- What a DONE carries, by the kind it answers (R133, R147, R158, R166 to R170, R182, R183, R93, R97, R103, R112). -/
inductive DoneBody where
  | plain
  | entry (serial : Serial)
  | stored (serial : Serial) (value : Int)
  | setting (id : Nat) (value : Nat)
  | count (n : Nat)
  | loaded (page count : Nat) (overrun : Bool)
  | page (page : Nat) (state : PageState)
  | permit (n : Nat)
  | landed (state : FilingState) (pos : Option Pos)
  | report (state : ReportState)
  | stop (state : StopState)
  | transfer (id active : Nat)
  deriving DecidableEq, Repr

/-- The outcome an ALARM_NOTICE carries (R157). -/
inductive NoticeOutcome where
  | state (s : EntryState)
  | removed
  | displaced
  | notListed
  deriving DecidableEq, Repr

/-- An ALARM_NOTICE (R157). -/
structure Notice where
  key : AlarmKey
  outcome : NoticeOutcome
  raised : Seconds
  count : Nat
  markAdvisory : Bool
  markLimit : Bool
  deriving DecidableEq, Repr

/-- The part modes (R180). -/
inductive Mode where
  | starting | service | commissioning | degraded
  deriving DecidableEq, Repr

/-- The causes of a reset (R184). -/
inductive Cause where
  | powerOn | line | restart
  deriving DecidableEq, Repr

/-- The summary fields of the live result that SUMMARY carries (R176). -/
structure LiveSummary where
  serial : Serial
  disp : Int
  heel : Int
  gmf : Int
  trim : Int
  ta : Int
  tf : Int
  worstSfPm : Int
  worstBmPm : Int
  deriving DecidableEq, Repr

/-- A SUMMARY (R176, R179). -/
structure Summary where
  serial : Serial
  mode : Mode
  live : Option LiveSummary
  stop : Bool
  ala : Bool
  all : Bool
  alh : Bool
  markAdvisory : Bool
  markLimit : Bool
  deriving DecidableEq, Repr

/-- The failing value of a LIFT_REFUSED (R88). -/
inductive FailValue where
  | heel (heel moment : Int)
  | gm (gmf : Int)
  | draught (mm : Int)
  | shear (pm : Int) (station : Nat)
  | bending (pm : Int) (station : Nat)
  | capacity (weight capacity : Int)
  deriving DecidableEq, Repr

/-- Where READ_LOT found a lot, with the fields that the holder carries (R163). -/
inductive LotInfo where
  | stowed (lot : Lot) (position : Nat)
  | hooked (crane : Crane) (load : Load) (hook : Hook)
  | unfiled (f : Filing)
  deriving DecidableEq, Repr

/-- The status of a RESULT, STRENGTH or TRIAL_RESULT (R160, R164). -/
inductive ResultStatus where
  | none | pending | result | invalid
  deriving DecidableEq, Repr

/-- One station's values in a STRENGTH reply (R165). -/
structure StationValues where
  sf : Int
  bm : Int
  sfPm : Int
  bmPm : Int
  deriving DecidableEq, Repr

/-- The verdict on one stored test condition; a failure names its first failing figure, in the order of R186. -/
inductive Verdict where
  | pass
  | fail (figure : Nat)
  | notRun
  deriving DecidableEq, Repr

/-- What START_REPORT carries (R187). -/
structure StartReport where
  cause : Cause
  mode : Mode
  strap : Bool
  usable : Bool
  storeFault : Bool
  written : Nat
  torn : Nat
  tests : List Verdict
  kept : Nat
  dropped : Nat
  free : Nat
  deriving DecidableEq, Repr

/-- The outbound messages of the six ports (R178). An absent marker is `none`. -/
inductive OutMsg where
  | done (answers : Byte) (body : DoneBody)
  | refused (kind : Byte) (code : Code)
  | summary (s : Summary)
  | value (addr field : Nat) (run : Bool) (items : List (Nat × Option Int))
  | stow (addr kind : Nat) (size : Option (Nat × Int)) (start : Nat) (lots : List (Nat × Int))
  | lotInfo (info : LotInfo)
  | result (trial : Bool) (status : ResultStatus) (rec : Option Result) (aft fwd : Option Int) (index : Option Nat)
  | strength (trial : Bool) (status : ResultStatus) (head : Option (Serial × StrengthSet)) (first count : Nat)
      (values : List StationValues)
  | alarms (count : Nat) (markAdvisory markLimit ala all alh : Bool) (items : List (Nat × AlarmEntry))
  | setting (id : Nat) (value : Nat)
  | storeData (page : Nat) (state : PageState) (words : List Entry)
  | trialResult (serial : Serial) (status : ResultStatus) (rec : Option Result) (index : Option Nat)
  | notice (n : Notice)
  | startReport (r : StartReport)
  | liftGranted (permit reserved window : Nat) (serial : Serial)
  | liftRefused (criterion : Nat) (candidate : Nat) (serial : Serial) (value : FailValue)
  | liftExpired (permit : Nat)
  | liftWithdrawn (permit : Nat) (criterion : Criterion)
  | late (lot permit : Nat)
  | counterAdvice (crane : Crane) (moment : Int) (serial : Serial)
  deriving DecidableEq, Repr

/-! ### Station Link Interface (R172 to R177) -/

/-- A STOP or RESUME order (R143, R149). -/
inductive Order where
  | stop (criterion : Criterion) (serial : Serial)
  | resume (serial : Serial)
  deriving DecidableEq, Repr

/-- What a transmitter is sending: the order slot's order, or a frame taken from the queue (R174, R175). -/
inductive Tx where
  | order
  | frame (m : OutMsg)
  deriving DecidableEq, Repr

/-- The port states (R177). -/
inductive PortState where
  | active | silent | restarting
  deriving DecidableEq, Repr

/-- One port: state, consecutive-bad count, silence timer, inbound buffer, outbound queue, entries of the queue held
for a reply (R174, R183), order slot, its waiting place, and the transmitter (R173 to R177). -/
structure Link where
  state : PortState
  bad : Nat
  silence : Option Nat
  inbound : List Frame
  queue : List OutMsg
  reserved : Nat
  slot : Option Order
  waiting : Option Order
  sending : Option Tx
  deriving DecidableEq, Repr

/-- The Station Link Interface (R176, R177). -/
structure Sli where
  links : PerPort Link
  summary : Option Nat
  deriving DecidableEq, Repr

/-! ### Console Services (R160) -/

/-- The trial state (R160). -/
inductive TrialState where
  | idle | wanted | running
  deriving DecidableEq, Repr

/-- The trial outcome; a RESULT or INVALID outcome keeps the job's image serial (R160, R170). -/
inductive TrialOutcome where
  | none
  | pending
  | result (r : Result)
  | invalid (index : Nat) (serial : Serial)
  deriving DecidableEq, Repr

/-- Console Services (R160). Settings 15 and 16 are the LCU's pairings. -/
structure Csv where
  settings : Settings
  trial : List TrialChange
  trialState : TrialState
  outcome : TrialOutcome
  restartPending : Bool
  deriving DecidableEq, Repr

/-! ### The Hull Data Store (R180 to R187) -/

/-- The page store: its entries that are not blank, keyed by page number × 64 + index, keys rising; and the pages left
torn by a reset, each with the name of its free contents (R181, R183, assumption 4). -/
structure Store where
  cells : List (Nat × Entry)
  torn : List (Nat × Nat)
  deriving DecidableEq, Repr

/-- The page buffer: its page number, and the loaded entries by index (R182). -/
structure Buffer where
  page : Nat
  loaded : List (Nat × Entry)
  deriving DecidableEq, Repr

/-- How far a start-up has come (R185): steps 4, 5 and 6, or past step 7. -/
inductive Stage where
  | entered
  | sweep
  | tests (todo : List TestCondition)
  | firstLive
  deriving DecidableEq, Repr

/-- The Hull Data Store. `storeFault` and `testFail` are the conditions of R180, held until the next reset; `freeId`
is the MODEL's own counter, which names the free contents of the next torn page (assumption 4). -/
structure Hds where
  store : Store
  buffer : Buffer
  prog : Option (Nat × Nat)
  mode : Mode
  strap : Bool
  cause : Cause
  tables : Tables
  stage : Stage
  storeFault : Bool
  testFail : Bool
  written : Nat
  torn : Nat
  verdicts : List Verdict
  kept : Nat
  dropped : Nat
  freeId : Nat
  deriving DecidableEq, Repr

/-! ### The whole part -/

/-- Whether the part is in reset (R184): power-good low, the reset line held while power is good, or out of reset. -/
inductive Phase where
  | off | held | running
  deriving DecidableEq, Repr

/-- The state of the part: the commands that wait, the reset inputs, the time base, and the nine blocks. `line` is
whether the reset line is held, which counts while power-good is low too (R184). `elapsed` is the time base value from
which the elapsed-seconds count runs; none while it is held at 0 (R4). -/
structure State where
  pending : List Instr
  phase : Phase
  line : Bool
  now : Nat
  elapsed : Option Nat
  sli : Sli
  ct : CondTable
  sev : Sev
  lcu : Lcu
  tgt : Tgt
  lmn : Lmn
  als : Als
  csv : Csv
  hds : Hds
  deriving DecidableEq, Repr

/-- Faults of the machine: none. No rule of the manual stops the part: what it cannot do it answers with REFUSED,
which is a message and a next state. -/
inductive Fault where
  deriving DecidableEq, Repr

/-- Refusals of the model. -/
inductive Refusal where
  /-- Raised by `exec` for a command that has no meaning yet, by its mnemonic. Safe: the model stops. -/
  | notModelled (mnemonic : String)
  deriving DecidableEq, Repr

/-! ### Reset values -/

/-- The defaults of the settings (R167); the mask's default, every calibrated channel, is set when the calibrations
are loaded (R137). -/
def Settings.initial : Settings where
  reservation := 120
  ackWindow := 30
  summaryPeriod := 10
  silenceWindow := 20
  mask := 0
  resolution := 14
  sweepPeriod := 10
  soundingDeadband := 5
  stepLimit := 200
  holdLimit := 60
  draughtTolerance := 100
  draughtLimit := 0
  strength := .harbour
  hookDeadband := 100

/-- No table loaded. -/
def Tables.empty : Tables where
  hull := none
  hydro := none
  strength := none
  limits := none
  comps := []
  calib := []
  tests := []

/-- A port after reset, its silence timer not yet started (R177). -/
def Link.initial : Link where
  state := .silent
  bad := 0
  silence := none
  inbound := []
  queue := []
  reserved := 0
  slot := none
  waiting := none
  sending := none

/-- The evaluator after reset (R38). -/
def Sev.initial : Sev where
  state := .idle
  taken := none
  trialWanted := false
  last := none
  live := none

/-- The TGT after reset (R120). -/
def Tgt.initial : Tgt where
  sweep := .idle
  active := []
  timer := none
  chans := (List.range 36).map fun c => (c, ⟨.unswept, none, none⟩)
  gauges := (List.range 32).map fun t => (80 + t, ⟨false, none⟩)
  firstSweep := false
  transfers := []

/-- The Limit Monitor after reset (R138). -/
def Lmn.initial : Lmn where
  stop := none
  ports := ⟨⟨.none, none⟩, ⟨.none, none⟩, ⟨.none, none⟩, ⟨.none, none⟩, ⟨.none, none⟩, ⟨.none, none⟩⟩

/-- The Alarm List after reset (R150). -/
def Als.initial : Als where
  entries := []
  markAdvisory := false
  markLimit := false
  held := []

/-- Console Services after reset (R160). -/
def Csv.initial : Csv where
  settings := .initial
  trial := []
  trialState := .idle
  outcome := .none
  restartPending := false

/-- The Condition Table of a POWER_ON reset before any definition is loaded (R35). -/
def CondTable.initial : CondTable where
  lots := []
  filing := []
  spaces := []
  tanks := []
  consts := []
  structs := ⟨none, none, none, none⟩
  serial := 0

/-- A hook at no known place before the start-up sets it to its pedestal (R115). -/
def Hook.initial : Hook := ⟨0, 0, 0, .reported⟩

/-- The LCU after a POWER_ON reset (R78, R12). -/
def Lcu.initial : Lcu where
  recs := ⟨.idle, .idle, .idle, .idle⟩
  hooks := ⟨.initial, .initial, .initial, .initial⟩
  queue := []
  inHand := none
  counter := 1
  pairA := false
  pairB := false

/-- The Hull Data Store of an unpowered part whose pages have not been programmed (assumptions 1 and 2). -/
def Hds.initial : Hds where
  store := ⟨[], []⟩
  buffer := ⟨0, []⟩
  prog := none
  mode := .starting
  strap := false
  cause := .powerOn
  tables := .empty
  stage := .entered
  storeFault := false
  testFail := false
  written := 0
  torn := 0
  verdicts := []
  kept := 0
  dropped := 0
  freeId := 0

/-- The part before its power-good input rises: in reset, every block at its POWER_ON value, every page blank, no
command waiting (R184, R35, R38, R78, R120, R138, R150, R160, R177; assumptions 1 and 2). -/
def State.reset : State where
  pending := []
  phase := .off
  line := false
  now := 0
  elapsed := none
  sli := ⟨⟨.initial, .initial, .initial, .initial, .initial, .initial⟩, none⟩
  ct := .initial
  sev := .initial
  lcu := .initial
  tgt := .initial
  lmn := .initial
  als := .initial
  csv := .initial
  hds := .initial

end Sys2Proof.Machine
end

