-- ==== Sys2Proof/Machine/Ops.lean ====
section
/-!
DEFINITION. The plain named operations that every block uses: one value for each port or crane, keyed lists, the
rounding of R3, ranges, time, the frame's axis ranges, and lookups in the working tables.
-/

namespace Sys2Proof.Machine

/-! ### Ports and cranes -/

/-- The value held for a port. -/
def PerPort.get {α : Type} (m : PerPort α) : Port → α
  | .p => m.p
  | .c1 => m.c1
  | .c2 => m.c2
  | .c3 => m.c3
  | .c4 => m.c4
  | .b => m.b

/-- The values with one port's replaced. -/
def PerPort.set {α : Type} (m : PerPort α) (q : Port) (v : α) : PerPort α :=
  match q with
  | .p => { m with p := v }
  | .c1 => { m with c1 := v }
  | .c2 => { m with c2 := v }
  | .c3 => { m with c3 := v }
  | .c4 => { m with c4 := v }
  | .b => { m with b := v }

/-- The value held for a crane. -/
def PerCrane.get {α : Type} (m : PerCrane α) : Crane → α
  | .k1 => m.k1
  | .k2 => m.k2
  | .k3 => m.k3
  | .k4 => m.k4

/-- The values with one crane's replaced. -/
def PerCrane.set {α : Type} (m : PerCrane α) (c : Crane) (v : α) : PerCrane α :=
  match c with
  | .k1 => { m with k1 := v }
  | .k2 => { m with k2 := v }
  | .k3 => { m with k3 := v }
  | .k4 => { m with k4 := v }

/-- The four cranes in order. -/
def cranes : List Crane := [.k1, .k2, .k3, .k4]

/-- The six ports in the order P, C1 to C4, B (R151). -/
def ports : List Port := [.p, .c1, .c2, .c3, .c4, .b]

/-- The port a crane serves (R6). -/
def craneOfPort : Port → Option Crane
  | .c1 => some .k1
  | .c2 => some .k2
  | .c3 => some .k3
  | .c4 => some .k4
  | .p | .b => none

/-- The crane's port Cn (R6). -/
def portOf : Crane → Port
  | .k1 => .c1
  | .k2 => .c2
  | .k3 => .c3
  | .k4 => .c4

/-- The crane's number, 1 to 4. -/
def craneNum : Crane → Nat
  | .k1 => 1
  | .k2 => 2
  | .k3 => 3
  | .k4 => 4

/-- The crane of a number 1 to 4. -/
def craneOfNum : Nat → Option Crane
  | 1 => some .k1
  | 2 => some .k2
  | 3 => some .k3
  | 4 => some .k4
  | _ => none

/-- The crane's address 7/(n - 1) (R6). -/
def craneAddr (c : Crane) : Nat := 111 + craneNum c

/-- The other crane of the crane's pair (R105). -/
def mate : Crane → Crane
  | .k1 => .k2
  | .k2 => .k1
  | .k3 => .k4
  | .k4 => .k3

/-- Whether a crane is the upper one of its pair (R105). -/
def isUpper : Crane → Bool
  | .k2 | .k4 => true
  | .k1 | .k3 => false

/-- The pairing state of a crane's pair (R105). -/
def Lcu.paired (l : Lcu) : Crane → Bool
  | .k1 | .k2 => l.pairA
  | .k3 | .k4 => l.pairB

/-! ### Keyed lists -/

/-- The value kept under a key. -/
def lookup {α : Type} (l : List (Nat × α)) (k : Nat) : Option α :=
  (l.find? fun e => e.1 == k).map Prod.snd

/-- The list with the value under a key changed, if there is one. -/
def adjust {α : Type} (l : List (Nat × α)) (k : Nat) (f : α → α) : List (Nat × α) :=
  l.map fun e => if e.1 = k then (k, f e.2) else e

/-- A keyed list, keys rising, with the value under a key replaced or put in its place. -/
def insertKey {α : Type} (k : Nat) (v : α) : List (Nat × α) → List (Nat × α)
  | [] => [(k, v)]
  | e :: rest => if k < e.1 then (k, v) :: e :: rest else if e.1 = k then (k, v) :: rest else e :: insertKey k v rest

/-! ### Arithmetic (R3) -/

/-- The part-wide rounding (R3): to nearest, ties away from zero. The divisor is positive wherever a formula
divides. -/
def rdiv (n d : Int) : Int :=
  if 0 ≤ n then (2 * n + d) / (2 * d) else -((2 * -n + d) / (2 * d))

/-- Rounding away from zero of a quotient that is not negative (R3, counter-ballast moment). -/
def cdiv (n d : Int) : Int := (n + d - 1) / d

/-- The nearer end of a range for a value outside it. -/
def clamp (lo hi v : Int) : Int := if v < lo then lo else if hi < v then hi else v

/-- The interpolation of R25 and R60 between (s0, v0) and (s1, v1). -/
def interpolate (v0 v1 s0 s1 s : Int) : Int := v0 + rdiv ((v1 - v0) * (s - s0)) (s1 - s0)

/-- The magnitude of an integer. -/
def mag (v : Int) : Int := if 0 ≤ v then v else -v

/-- The sum of a list of integers. -/
def sumOf (l : List Int) : Int := l.foldl (· + ·) 0

/-! ### The vessel frame (R1) -/

/-- Whether a value is in a range, both ends included. -/
def within (lo hi v : Int) : Bool := decide (lo ≤ v) && decide (v ≤ hi)

/-- x in the frame (R1). -/
def frameX (x : Int) : Bool := within 0 250000 x

/-- y in the frame (R1). -/
def frameY (y : Int) : Bool := within (-25000) 25000 y

/-- z in the frame (R1). -/
def frameZ (z : Int) : Bool := within 0 80000 z

/-- A horizontal point in the frame. -/
def Pt.inFrame (q : Pt) : Bool := frameX q.x && frameY q.y

/-- A position in the frame. -/
def Pos.inFrame (q : Pos) : Bool := frameX q.x && frameY q.y && frameZ q.z

/-- A reported point, clamped to the frame (R1). -/
def Pt.clampFrame (q : Pt) : Pt := ⟨clamp 0 250000 q.x, clamp (-25000) 25000 q.y⟩

/-- A reported position, clamped to the frame (R1). -/
def Pos.clampFrame (q : Pos) : Pos := ⟨clamp 0 250000 q.x, clamp (-25000) 25000 q.y, clamp 0 80000 q.z⟩

/-- Whether a position lies in a box, faces included (R7). -/
def Box.holds (b : Box) (q : Pos) : Bool := within b.xAft b.xFwd q.x && within b.yPort b.yStbd q.y && within b.zLow b.zHigh q.z

/-- A position with each coordinate outside the box at the nearer face (R20). -/
def Box.clampPos (b : Box) (q : Pos) : Pos := ⟨clamp b.xAft b.xFwd q.x, clamp b.yPort b.yStbd q.y, clamp b.zLow b.zHigh q.z⟩

/-- The square of a point's distance from a pedestal (R3). -/
def CraneDef.distSq (d : CraneDef) (q : Pt) : Int := (q.x - d.px) * (q.x - d.px) + (q.y - d.py) * (q.y - d.py)

/-- Whether a point lies within the crane's maximum outreach (R3). -/
def CraneDef.reaches (d : CraneDef) (q : Pt) : Bool := decide (d.distSq q ≤ d.outreach * d.outreach)

/-- The structure centroid that matches a hook point (R9). -/
def CraneDef.centroid (d : CraneDef) (q : Pt) : Pos :=
  ⟨d.px + rdiv ((q.x - d.px) * d.boom) 1000, d.py + rdiv ((q.y - d.py) * d.boom) 1000, d.z⟩

/-- The pedestal as a point. -/
def CraneDef.pedestal (d : CraneDef) : Pt := ⟨d.px, d.py⟩

/-! ### The working tables by address (R5, R6) -/

/-- The definition at an address, if it is defined. -/
def Tables.comp (t : Tables) (a : Nat) : Option Compartment := lookup t.comps a

/-- The box and capacity of a defined CARGO space. -/
def Tables.cargo (t : Tables) (a : Nat) : Option (Box × Int) :=
  match t.comp a with
  | some ⟨b, _, _, .cargo cap⟩ => some (b, cap)
  | _ => none

/-- The definition of a defined TANK. -/
def Tables.tank (t : Tables) (a : Nat) : Option TankDef :=
  match t.comp a with
  | some ⟨_, _, _, .tank d⟩ => some d
  | _ => none

/-- The definition of a defined crane. -/
def Tables.crane (t : Tables) (c : Crane) : Option CraneDef :=
  match t.comp (craneAddr c) with
  | some ⟨_, _, _, .crane d⟩ => some d
  | _ => none

/-- The box and defaults of a defined CONSTANT. -/
def Tables.const (t : Tables) (a : Nat) : Option (Box × ConstDef) :=
  match t.comp a with
  | some ⟨b, _, _, .constant d⟩ => some (b, d)
  | _ => none

/-- The segment span at an address (R7). -/
def Tables.span (t : Tables) (a : Nat) : Nat × Nat :=
  match t.comp a with
  | some e => (e.first, e.last)
  | none => (0, 0)

/-- Whether the evaluation tables are all usable (R49). -/
def Tables.usable (t : Tables) : Bool := t.hull.isSome && t.hydro.isSome && t.strength.isSome

/-- The defined addresses of kind CARGO, in rising order. -/
def Tables.cargoAddrs (t : Tables) : List Nat := (t.comps.map Prod.fst).filter fun a => (t.cargo a).isSome

/-- The defined addresses of kind TANK, in rising order. -/
def Tables.tankAddrs (t : Tables) : List Nat := (t.comps.map Prod.fst).filter fun a => (t.tank a).isSome

/-- The defined addresses of kind CONSTANT, in rising order. -/
def Tables.constAddrs (t : Tables) : List Nat := (t.comps.map Prod.fst).filter fun a => (t.const a).isSome

/-! ### The whole part -/

/-- The working tables in force. -/
def State.tables (s : State) : Tables := s.hds.tables

/-- One port's link. -/
def State.link (s : State) (q : Port) : Link := s.sli.links.get q

/-- The state with one port's link replaced. -/
def State.setLink (s : State) (q : Port) (l : Link) : State := { s with sli.links := s.sli.links.set q l }

/-- A crane's lift record. -/
def State.lift (s : State) (c : Crane) : LiftRec := s.lcu.recs.get c

/-- The state with one lift record replaced. -/
def State.setLift (s : State) (c : Crane) (r : LiftRec) : State := { s with lcu.recs := s.lcu.recs.set c r }

/-- A crane's held hook position. -/
def State.hook (s : State) (c : Crane) : Hook := s.lcu.hooks.get c

/-- The state with one held hook position replaced. -/
def State.setHook (s : State) (c : Crane) (h : Hook) : State := { s with lcu.hooks := s.lcu.hooks.set c h }

/-- A port's stop state and timer. -/
def State.stopPort (s : State) (q : Port) : StopPort := s.lmn.ports.get q

/-- The state with one port's stop state replaced. -/
def State.setStopPort (s : State) (q : Port) (v : StopPort) : State := { s with lmn.ports := s.lmn.ports.set q v }

/-- The settings in force. -/
def State.settings (s : State) : Settings := s.csv.settings

/-! ### Time (R4) -/

/-- The time base brought to a deadline that is reached (assumption 7). -/
def State.reach (s : State) (deadline : Nat) : State := { s with now := max s.now deadline }

/-- One millisecond of the time base, which runs while power is good (R4). -/
def State.tick (s : State) : State := if s.phase = .off then s else { s with now := s.now + 1 }

/-- The elapsed-seconds count (R4). -/
def State.seconds (s : State) : Seconds :=
  match s.elapsed with
  | some start => BitVec.ofNat 32 ((s.now - start) / 1000)
  | none => 0

/-! ### The condition serial (R33) -/

/-- The serial moved on by one operation. -/
def State.bump (s : State) : State := { s with ct.serial := s.ct.serial + 1 }

end Sys2Proof.Machine
end

