-- ==== Sys2Proof/Machine/Strength.lean ====
section
/-!
DEFINITION. Longitudinal strength (ch. 4): stations and segments, the weight and buoyancy of the segments, shear force,
bending moment and closure, utilisation and the worst stations (R65 to R77).
-/

namespace Sys2Proof.Machine

/-- How an item reaches the strength calculation (R52, R66 to R68). -/
inductive Reach where
  | spread (first last : Nat)
  | point
  | arrayed
  deriving DecidableEq, Repr

/-- An item of an image: weight, position, and how it reaches strength (ch. 3.3). -/
structure Item where
  w : Int
  pos : Pos
  reach : Reach
  deriving DecidableEq, Repr

/-- The value at an index of a list of figures. -/
def nth (l : List Int) (i : Nat) : Int := l.getD i 0

/-- The stations x_0 to x_20 (R65). -/
def stationsOf (lbp : Int) : List Int := (List.range 21).map fun k => rdiv (Int.ofNat k * lbp) 20

/-- The midpoints m_0 to m_19 (R65). -/
def midsOf (stations : List Int) : List Int :=
  (List.range 20).map fun j => rdiv (nth stations j + nth stations (j + 1)) 2

/-- The segment that holds an x (R65): as many as the inner stations at or aft of it. -/
def segmentOf (stations : List Int) (x : Int) : Nat := (List.range 19).countP fun i => decide (nth stations (i + 1) ≤ x)

/-- What a spread item gives one segment (R66). -/
def spreadShare (w : Int) (first last j : Nat) : Int :=
  if first ≤ j ∧ j ≤ last then
    let n := Int.ofNat (last + 1 - first)
    w / n + (if Int.ofNat (j - first) < w % n then 1 else 0)
  else 0

/-- What an item gives segment j (R66, R67, R68). -/
def Item.share (it : Item) (h : Hull) (j : Nat) : Int :=
  match it.reach with
  | .spread f l => spreadShare it.w f l j
  | .point => if segmentOf h.stations it.pos.x = j then it.w else 0
  | .arrayed => nth h.segments j

/-- The segment weights w_0 to w_19. -/
def segmentWeights (h : Hull) (items : List Item) : List Int :=
  (List.range 20).map fun j => sumOf (items.map fun it => it.share h j)

/-- The row nearest to a displacement, the lower of two at the same distance (R69). -/
def nearestRow (disp : Int) : HydroRow → List HydroRow → HydroRow
  | best, [] => best
  | best, r :: rest => nearestRow disp (if mag (disp - r.disp) < mag (disp - best.disp) then r else best) rest

/-- The buoyancies of segments 0 to 18 by floor, segment 19 taking what is left (R70). -/
def buoyancies (disp : Int) (shares : List Int) : List Int :=
  let aft := (List.range 19).map fun j => disp * nth shares j / 1000
  aft ++ [disp - sumOf aft]

/-- The net loads n_j = b_j - w_j (R71). -/
def netLoads (b w : List Int) : List Int := (List.range 20).map fun j => nth b j - nth w j

/-- The shear force at station k (R71). -/
def shearAt (net : List Int) (k : Nat) : Int := sumOf (net.take k)

/-- The raw bending moment at station k (R72). -/
def rawMoment (h : Hull) (net : List Int) (k : Nat) : Int :=
  sumOf ((List.range k).map fun j => nth net j * (nth h.stations k - nth h.mids j))

/-- The bending moment at station k, the closing error spread along the stations (R72). -/
def momentAt (h : Hull) (net : List Int) (k : Nat) : Int :=
  rawMoment h net k - rdiv (rawMoment h net 20 * Int.ofNat k) 20

/-- Whether a station divides by its allowables: 1 to 19 (R74, R75). -/
def innerStation (k : Nat) : Bool := decide (1 ≤ k ∧ k ≤ 19)

/-- A permille value: floored, then clamped to 9,999 (R3, R74). -/
def permille (n d : Int) : Int := min 9999 (n * 1000 / d)

/-- The allowables of station k. -/
def allowableAt (l : List Allowable) (k : Nat) : Allowable := l.getD k ⟨1, 1, 1⟩

/-- The shear force utilisation at station k (R74). -/
def shearPm (a : List Allowable) (sf : Int) (k : Nat) : Int :=
  if innerStation k then permille (mag sf) (allowableAt a k).sf else 0

/-- The bending moment utilisation at station k, against hog or sag by sign (R75). -/
def bendingPm (a : List Allowable) (bm : Int) (k : Nat) : Int :=
  if innerStation k then
    permille (mag bm) ((if 0 ≤ bm then (allowableAt a k).hog else (allowableAt a k).sag) * 10000)
  else 0

/-- The highest value from an index on and its lowest index, against the best so far (R76). -/
def worstFrom (best : Nat × Int) (i : Nat) : List Int → Nat × Int
  | [] => best
  | v :: rest => worstFrom (if best.2 < v then (i, v) else best) (i + 1) rest

/-- The worst station and its ‰ (R76). -/
def worstOf : List Int → Nat × Int
  | [] => (0, 0)
  | v :: rest => worstFrom (0, v) 1 rest

/-- The allowables of a strength set (R73). -/
def StrengthTable.of (t : StrengthTable) : StrengthSet → List Allowable
  | .harbour => t.harbour
  | .seagoing => t.seagoing

/-- The strength fields of a pass (R71 to R77). -/
def strengthOf (h : Hull) (rows : List HydroRow) (t : StrengthTable) (set : StrengthSet) (disp : Int)
    (items : List Item) : Strength :=
  let shares := match rows with
    | r :: rest => (nearestRow disp r rest).shares
    | [] => []
  let net := netLoads (buoyancies disp shares) (segmentWeights h items)
  let sf := (List.range 21).map (shearAt net)
  let bm := (List.range 21).map (momentAt h net)
  let sfPm := (List.range 21).map fun k => shearPm (t.of set) (nth sf k) k
  let bmPm := (List.range 21).map fun k => bendingPm (t.of set) (nth bm k) k
  { sf := sf, bm := bm, sfPm := sfPm, bmPm := bmPm
    worstSf := (worstOf sfPm).1, worstSfPm := (worstOf sfPm).2
    worstBm := (worstOf bmPm).1, worstBmPm := (worstOf bmPm).2, set := set }

end Sys2Proof.Machine
end

