-- ==== Sys2Proof/Machine/Stability.lean ====
section
/-!
DEFINITION. The arithmetic of a pass (ch. 3.4): sums, centres, hydrostatics, metacentric heights, heel, trim and
draughts, and the result record (R58 to R63).
-/

namespace Sys2Proof.Machine

/-- The hydrostatic values at a displacement (R60). -/
structure Hydro where
  t : Int
  km : Int
  lcb : Int
  lcf : Int
  mct : Int
  low : Bool
  high : Bool
  deriving DecidableEq, Repr

/-- The values of a row, with the range flags given. -/
def HydroRow.values (r : HydroRow) (low high : Bool) : Hydro := ⟨r.t, r.km, r.lcb, r.lcf, r.mct, low, high⟩

/-- The values between two neighbouring rows (R60). -/
def HydroRow.between (a b : HydroRow) (disp : Int) : Hydro where
  t := interpolate a.t b.t a.disp b.disp disp
  km := interpolate a.km b.km a.disp b.disp disp
  lcb := interpolate a.lcb b.lcb a.disp b.disp disp
  lcf := interpolate a.lcf b.lcf a.disp b.disp disp
  mct := interpolate a.mct b.mct a.disp b.disp disp
  low := false
  high := false

/-- The values at a displacement not below a row, from that row on (R60). -/
def hydroFrom (disp : Int) : HydroRow → List HydroRow → Hydro
  | a, [] => a.values false (decide (a.disp < disp))
  | a, b :: rest =>
    if disp = a.disp then a.values false false
    else if disp < b.disp then a.between b disp
    else hydroFrom disp b rest

/-- The hydrostatic values at a displacement (R60): on a row, between rows, or the end row's with its flag. -/
def hydroAt (rows : List HydroRow) (disp : Int) : Hydro :=
  match rows with
  | r :: rest => if disp < r.disp then r.values true false else hydroFrom disp r rest
  | [] => ⟨0, 0, 0, 0, 1, false, false⟩

/-- The heel and the flags GM_NEGATIVE and HEEL_CLAMPED (R61). -/
def heelOf (my disp gmf : Int) : Int × Bool × Bool :=
  if 0 < gmf then
    let h := rdiv (my * 10000) (disp * gmf)
    (clamp (-10000) 10000 h, false, decide (h < -10000) || decide (10000 < h))
  else (if 0 ≤ my then 10000 else -10000, true, false)

/-- The sum of item weights, Δ (R58). -/
def dispOf (items : List Item) : Int := sumOf (items.map Item.w)

/-- The sum of weight times y over items, My (R58, R117). -/
def momentY (items : List Item) : Int := sumOf (items.map fun it => it.w * it.pos.y)

/-- One pass (R58 to R63): the result record of one image's items and free-surface moment. -/
def evaluate (h : Hull) (rows : List HydroRow) (t : StrengthTable) (set : StrengthSet) (kind : JobKind)
    (serial : Serial) (candidate : Nat) (items : List Item) (fsm : Int) : Result :=
  let disp := dispOf items
  let mx := sumOf (items.map fun it => it.w * it.pos.x)
  let my := momentY items
  let mz := sumOf (items.map fun it => it.w * it.pos.z)
  let kg := rdiv mz disp
  let fsc := rdiv fsm disp
  let hyd := hydroAt rows disp
  let gms := hyd.km - kg
  let gmf := gms - fsc
  let heel := heelOf my disp gmf
  let trim := rdiv (disp * hyd.lcb - mx) hyd.mct
  let ta := hyd.t + rdiv (trim * hyd.lcf) h.lbp
  let tf := ta - trim
  { kind := kind, serial := serial, candidate := candidate
    disp := disp, mx := mx, my := my, mz := mz
    lcg := rdiv mx disp, tcg := rdiv my disp, kg := kg, fsm := fsm, fsc := fsc
    t := hyd.t, km := hyd.km, lcb := hyd.lcb, lcf := hyd.lcf, mct := hyd.mct
    gms := gms, gmf := gmf, heel := heel.1
    trim := trim, ta := ta, tf := tf, maxDraught := max ta tf
    strength := strengthOf h rows t set disp items
    flags := ⟨hyd.low, hyd.high, heel.2.1, heel.2.2⟩ }

end Sys2Proof.Machine
end

