-- ==== Sys2Proof/Machine/Flags.lean ====
section
/-!
DEFINITION. The status flags the part shows: level and code of each alarm kind (R151), the three alarm lines (R156),
and the octets in which lines, markers and result flags travel (R179).
-/

namespace Sys2Proof.Machine

/-- The level of a kind (R151). -/
def AlarmKind.level : AlarmKind → Level
  | .linkDegraded | .portSilent | .overrun | .sensorFault | .draughtDisagree | .positionClamped
  | .positionImplausible | .destinationChanged | .lotRenumbered | .hydroRange | .noTestCondition => .advisory
  | .heelLimit | .gmLimit | .draughtLimit | .shearLimit | .bendingLimit | .overCapacity | .unpermittedLift
  | .sensorLost | .positionUnknown | .landedUnfiled => .limit
  | .gmNegative | .stopUnanswered | .storeFault | .testConditionFail => .hard

/-- The code of a kind (R151). -/
def AlarmKind.code : AlarmKind → Nat
  | .linkDegraded => 1
  | .portSilent => 2
  | .overrun => 3
  | .sensorFault => 4
  | .draughtDisagree => 5
  | .positionClamped => 6
  | .positionImplausible => 7
  | .destinationChanged => 8
  | .lotRenumbered => 9
  | .hydroRange => 10
  | .noTestCondition => 11
  | .heelLimit => 12
  | .gmLimit => 13
  | .draughtLimit => 14
  | .shearLimit => 15
  | .bendingLimit => 16
  | .overCapacity => 17
  | .unpermittedLift => 18
  | .sensorLost => 19
  | .positionUnknown => 20
  | .landedUnfiled => 21
  | .gmNegative => 22
  | .stopUnanswered => 23
  | .storeFault => 24
  | .testConditionFail => 25

/-- A port's subject octet (R151). -/
def portOctet : Port → Nat
  | .p => 0
  | .c1 => 1
  | .c2 => 2
  | .c3 => 3
  | .c4 => 4
  | .b => 5

/-- The octet in which a subject travels (R151). -/
def Subject.octet : Subject → Nat
  | .none => 255
  | .port q => portOctet q
  | .crane c => craneNum c
  | .addr a => a
  | .aft => 0
  | .forward => 1
  | .station n => n

/-- Whether an entry has not been acknowledged (R154). -/
def EntryState.unack : EntryState → Bool
  | .activeUnack | .clearedUnack => true
  | .activeAck => false

/-- Whether an entry's condition is active (R156). -/
def EntryState.active : EntryState → Bool
  | .activeUnack | .activeAck => true
  | .clearedUnack => false

/-- The level of an entry. -/
def AlarmEntry.level (e : AlarmEntry) : Level := e.key.kind.level

/-- ALA: an unacknowledged ADVISORY entry, or the ADVISORY marker (R156). -/
def Als.lineA (a : Als) : Bool := a.markAdvisory || a.entries.any fun e => e.level == .advisory && e.state.unack

/-- ALL: an unacknowledged LIMIT entry, or the LIMIT marker (R156). -/
def Als.lineL (a : Als) : Bool := a.markLimit || a.entries.any fun e => e.level == .limit && e.state.unack

/-- ALH: an active HARD entry, acknowledged or not (R156). -/
def Als.lineH (a : Als) : Bool := a.entries.any fun e => e.level == .hard && e.state.active

/-- A bit's weight in a flag octet. -/
def bitOf (b : Bool) (weight : Nat) : Nat := if b then weight else 0

/-- The lines octet of SUMMARY (R179): bit 0 ALA, bit 1 ALL, bit 2 ALH. -/
def linesOctet (a l h : Bool) : Nat := bitOf a 1 + bitOf l 2 + bitOf h 4

/-- The markers octet of SUMMARY (R179): bit 0 ADVISORY, bit 1 LIMIT. -/
def markersOctet (a l : Bool) : Nat := bitOf a 1 + bitOf l 2

/-- The four flags of a result in one octet, in the order of R63 (assumption 16). -/
def Flags.octet (f : Flags) : Nat :=
  bitOf f.hydroLow 1 + bitOf f.hydroHigh 2 + bitOf f.gmNegative 4 + bitOf f.heelClamped 8

end Sys2Proof.Machine
end

