-- ==== Sys2Proof/Machine/Links.lean ====
section
/-!
DEFINITION. The Station Link Interface: the frame check (R172), the judgement of a received frame (R173), the
transmitter, the outbound queue and the order slot (R174, R175), and what a break does to a port (R177).
-/

namespace Sys2Proof.Machine

/-! ### The frame check (R172) -/

/-- One bit through the CRC register: generator x^16 + x^12 + x^5 + 1, most significant bit first. -/
def crcBit (r : BitVec 16) (bit : Bool) : BitVec 16 :=
  if r.msb != bit then (r <<< 1) ^^^ 0x1021#16 else r <<< 1

/-- One octet through the CRC register, most significant bit first. -/
def crcOctet (r : BitVec 16) (o : Byte) : BitVec 16 :=
  [7, 6, 5, 4, 3, 2, 1, 0].foldl (fun r i => crcBit r (o.getLsbD i)) r

/-- Octets through the CRC register from a value. -/
def crcFrom (r : BitVec 16) (l : List Byte) : BitVec 16 := l.foldl crcOctet r

/-- The check of a frame's octets: the register starts at all ones and is not inverted at the end. -/
def crc (l : List Byte) : BitVec 16 := crcFrom 0xFFFF#16 l

/-- The two octets of a check, most significant first. -/
def checkOctets (r : BitVec 16) : List Byte := [r.extractLsb' 8 8, r.extractLsb' 0 8]

/-- A frame as it travels: kind, length, payload, check (R172). -/
def frameOctets (kind : Byte) (payload : List Byte) : List Byte :=
  let head := kind :: BitVec.ofNat 8 payload.length :: payload
  head ++ checkOctets (crc head)

/-- What the receiver makes of the octets read since a frame-mark (R173), before it looks at the buffer. -/
inductive Judgement where
  | length
  | truncated
  | check
  | whole (f : Frame)
  deriving DecidableEq, Repr

/-- The receiver's judgement (R172, R173): a length octet above 56 fails at once; a frame cut by the next frame-mark is
TRUNCATED; the same computation over an intact frame and its check gives 0. -/
def judgeFrame : List Byte → Judgement
  | kind :: len :: rest =>
    if Config.maxPayload < len.toNat then .length
    else if rest.length < len.toNat + 2 then .truncated
    else if crc (kind :: len :: rest.take (len.toNat + 2)) = 0 then .whole ⟨kind, rest.take len.toNat⟩
    else .check
  | _ => .truncated

/-! ### The transmitter, the queue and the order slot (R174, R175) -/

/-- The transmitter, when it is free, takes the order slot's order, or else the head of the queue (R174,
assumption 9). -/
def Link.start (l : Link) : Link :=
  match l.sending with
  | some _ => l
  | none =>
    match l.slot with
    | some _ => { l with sending := some .order }
    | none =>
      match l.queue with
      | m :: rest => { l with sending := some (.frame m), queue := rest }
      | [] => l

/-- Whether the outbound queue has a free entry (R174); an entry held for a reply is not free (R183). -/
def Link.hasRoom (l : Link) : Bool := decide (l.queue.length + l.reserved < Config.outboundSize)

/-- A message at the tail of the queue. -/
def Link.put (l : Link) (m : OutMsg) : Link := { l with queue := l.queue ++ [m] }.start

/-- A message made when no frame is being taken: lost when the queue has no free entry (R81, R157, R160). -/
def Link.offer (l : Link) (m : OutMsg) : Link := if l.hasRoom then l.put m else l

/-- Whether a message is a SUMMARY. -/
def OutMsg.isSummary : OutMsg → Bool
  | .summary _ => true
  | _ => false

/-- A SUMMARY (R176): in place of a waiting one, else at the tail, else skipped. -/
def Link.offerSummary (l : Link) (m : Summary) : Link :=
  if l.queue.any OutMsg.isSummary then
    { l with queue := l.queue.map fun q => if q.isSummary then .summary m else q }
  else l.offer (.summary m)

/-- An order placed in the slot (R175): while the slot's order is being sent it takes the waiting place, and otherwise
it replaces an order not begun. -/
def Link.placeOrder (l : Link) (o : Order) : Link :=
  if l.sending = some .order then { l with waiting := some o } else { l with slot := some o }.start

/-- The last bit of what is being sent has left (R174, R175). -/
def Link.sent (l : Link) : Link :=
  match l.sending with
  | none => l
  | some .order => { l with sending := none, slot := l.waiting, waiting := none }.start
  | some (.frame _) => { l with sending := none }.start

/-- A break (R177, R174, R175): buffer and queue are emptied, a frame being sent is abandoned, and the order slot keeps
its order, to be sent whole. -/
def Link.broken (l : Link) : Link :=
  { l with state := .restarting, inbound := [], queue := [], sending := none }.start

/-- Place a message at a port when no frame of it is being taken. -/
def State.offer (s : State) (q : Port) (m : OutMsg) : State := s.setLink q ((s.link q).offer m)

/-- Place an order in a port's slot. -/
def State.placeOrder (s : State) (q : Port) (o : Order) : State := s.setLink q ((s.link q).placeOrder o)

end Sys2Proof.Machine
end

