-- ==== Sys2Proof/Machine/Alarms.lean ====
section
/-!
DEFINITION. The Alarm List: raise, clear, event and acknowledgement of a kind and subject (R152, R153), the room in
the list and displacement (R154), the overflow markers (R155), and the notices of each change (R157).
-/

namespace Sys2Proof.Machine

/-- The entry of a kind and subject, if the list holds one. -/
def Als.find (a : Als) (k : AlarmKey) : Option AlarmEntry := a.entries.find? fun e => e.key == k

/-- The list with the entry of a kind and subject changed in its place. -/
def Als.change (a : Als) (k : AlarmKey) (f : AlarmEntry → AlarmEntry) : Als :=
  { a with entries := a.entries.map fun e => if e.key = k then f e else e }

/-- The list without the entry of a kind and subject. -/
def Als.drop (a : Als) (k : AlarmKey) : Als := { a with entries := a.entries.eraseP fun e => e.key == k }

/-- The entries of the two lower levels (R154). -/
def Als.lowerCount (a : Als) : Nat := a.entries.countP fun e => e.level != .hard

/-- The marker of a level set (R155); HARD has none. -/
def Als.mark (a : Als) : Level → Als
  | .advisory => { a with markAdvisory := true }
  | .limit => { a with markLimit := true }
  | .hard => a

/-- Both markers cleared by the removal of a lower-level entry (R155). -/
def Als.unmark (a : Als) (k : AlarmKey) : Als :=
  if k.kind.level = .hard then a else { a with markAdvisory := false, markLimit := false }

/-- The notice of a change, made after it (R157). -/
def Als.noticeOf (a : Als) (k : AlarmKey) (o : NoticeOutcome) (raised : Seconds) : Notice where
  key := k
  outcome := o
  raised := raised
  count := a.entries.length
  markAdvisory := a.markAdvisory
  markLimit := a.markLimit

/-- The entry that a new entry of a level displaces when the lower levels are full (R154). -/
def Als.victim (a : Als) : Level → Option AlarmEntry
  | .limit =>
    match a.entries.find? fun e => e.level == .advisory with
    | some e => some e
    | none => a.entries.find? fun e => e.level == .limit && e.state == .clearedUnack
  | .advisory => a.entries.find? fun e => e.level == .advisory && e.state == .clearedUnack
  | .hard => none

/-- A new entry: created at the tail, by displacement, or not listed (R154, R155, R157). -/
def Als.create (a : Als) (k : AlarmKey) (st : EntryState) (now : Seconds) : Als × List Notice :=
  let level := k.kind.level
  if level = .hard ∨ a.lowerCount < Config.lowerAlarms then
    let a' := { a with entries := a.entries ++ [⟨k, st, now⟩] }
    (a', [a'.noticeOf k (.state st) now])
  else
    match a.victim level with
    | some v =>
      let a1 := a.drop v.key
      let a2 := if v.state.unack then a1.mark v.level else a1
      let a' := { a2 with entries := a2.entries ++ [⟨k, st, now⟩] }
      (a', [a'.noticeOf v.key .displaced v.raised, a'.noticeOf k (.state st) now])
    | none =>
      let a' := a.mark level
      (a', [a'.noticeOf k .notListed 0])

/-- A raise (R152). -/
def Als.raise (a : Als) (k : AlarmKey) (now : Seconds) : Als × List Notice :=
  match a.find k with
  | none => a.create k .activeUnack now
  | some e =>
    if e.state = .clearedUnack then
      let a' := a.change k fun e => { e with state := .activeUnack, raised := now }
      (a', [a'.noticeOf k (.state .activeUnack) now])
    else (a, [])

/-- A clear (R152, R155). -/
def Als.clear (a : Als) (k : AlarmKey) : Als × List Notice :=
  match a.find k with
  | none => (a, [])
  | some e =>
    match e.state with
    | .activeUnack =>
      let a' := a.change k fun e => { e with state := .clearedUnack }
      (a', [a'.noticeOf k (.state .clearedUnack) e.raised])
    | .activeAck =>
      let a' := (a.drop k).unmark k
      (a', [a'.noticeOf k .removed e.raised])
    | .clearedUnack => (a, [])

/-- An event: a raise followed at once by a clear, as one change (R153). -/
def Als.event (a : Als) (k : AlarmKey) (now : Seconds) : Als × List Notice :=
  match a.find k with
  | none => a.create k .clearedUnack now
  | some _ =>
    let a' := a.change k fun e => { e with state := .clearedUnack, raised := now }
    (a', [a'.noticeOf k (.state .clearedUnack) now])

/-- An acknowledgement of one entry (R152, R155). -/
def Als.ack (a : Als) (k : AlarmKey) : Als × List Notice :=
  match a.find k with
  | none => (a, [])
  | some e =>
    match e.state with
    | .activeUnack =>
      let a' := a.change k fun e => { e with state := .activeAck }
      (a', [a'.noticeOf k (.state .activeAck) e.raised])
    | .activeAck => (a, [])
    | .clearedUnack =>
      let a' := (a.drop k).unmark k
      (a', [a'.noticeOf k .removed e.raised])

/-- Each key acknowledged in turn, with the notices of all the changes. -/
def Als.ackEach (a : Als) : List AlarmKey → Als × List Notice
  | [] => (a, [])
  | k :: rest =>
    let r := a.ack k
    let r' := r.1.ackEach rest
    (r'.1, r.2 ++ r'.2)

/-- The notices of a change, placed in port P's queue one after another, or skipped (R157). -/
def State.notify (s : State) : List Notice → State
  | [] => s
  | n :: rest => (s.offer .p (.notice n)).notify rest

/-- A change of the alarm list with its notices. -/
def State.alarm (s : State) (r : Als × List Notice) : State := { s with als := r.1 }.notify r.2

/-- A block raises a condition (ch. 9, R152). A raise of a condition that the block holds raised already reaches the
list as well, and lists the condition again when its entry was lost (R154, R155). -/
def State.raise (s : State) (k : AlarmKey) : State :=
  s.alarm (Als.raise { s.als with held := if k ∈ s.als.held then s.als.held else s.als.held ++ [k] } k s.seconds)

/-- A block clears a condition that it holds raised (ch. 9, R152). -/
def State.clear (s : State) (k : AlarmKey) : State :=
  if k ∈ s.als.held then s.alarm (Als.clear { s.als with held := s.als.held.erase k } k) else s

/-- A block raises or clears a condition at each judgement (R46, R142). -/
def State.judge (s : State) (k : AlarmKey) (holds : Bool) : State := if holds then s.raise k else s.clear k

/-- A block keeps a condition raised while it holds: raised when it begins, cleared when it ends (R18, R129, R141, R173;
assumption 12). -/
def State.keep (s : State) (k : AlarmKey) (holds : Bool) : State :=
  if holds then (if k ∈ s.als.held then s else s.raise k) else s.clear k

/-- A block reports an event (R153). -/
def State.event (s : State) (k : AlarmKey) : State := s.alarm (s.als.event k s.seconds)

end Sys2Proof.Machine
end

