-- ==== Sys2Proof/Machine/Table.lean ====
section
/-!
DEFINITION. The Condition Table: stow lists, weights and capacity (R14 to R18), takes and filing (R21, R23), the tank
tables and the live tank fields (R24, R25), the gauging's commit and hold (R26), in-transfer flags (R29) and crane
structures (R31).
-/

namespace Sys2Proof.Machine

/-! ### Cargo spaces (R14 to R18) -/

/-- The stow list of a space, oldest first (R14). -/
def CondTable.stow (t : CondTable) (a : Nat) : List Lot := t.lots.filter fun l => l.loc == a

/-- The total weight of a space (R17). -/
def CondTable.total (t : CondTable) (a : Nat) : Int := sumOf ((t.stow a).map Lot.weight)

/-- The weight of the filing list entries for a space (R18). -/
def filingWeight (f : List Filing) (a : Nat) : Int := sumOf ((f.filter fun e => e.dest == a).map Filing.weight)

/-- The space load (R18). -/
def CondTable.load (t : CondTable) (a : Nat) : Int := t.total a + filingWeight t.filing a

/-- The lot directory (R16). -/
def CondTable.lot (t : CondTable) (n : Nat) : Option Lot := t.lots.find? fun l => l.num == n

/-- The free pool records (R15). -/
def CondTable.free (t : CondTable) : Nat := Config.poolSize - t.lots.length

/-- The capacity state that a space load gives (R18). -/
def capStateOf (load capacity : Int) : CapState := if capacity < load then .over else .within

/-- The capacity state of a space judged again (R18). -/
def State.judgeSpace (s : State) (a : Nat) : State :=
  match s.tables.cargo a with
  | some (_, capacity) =>
    let st := capStateOf (s.ct.load a) capacity
    if lookup s.ct.spaces a = some st then s
    else { s with ct.spaces := adjust s.ct.spaces a fun _ => st }.keep ⟨.overCapacity, .addr a⟩ (decide (st = CapState.over))
  | none => s

/-- A lot at the tail of its space's stow list, in a free record (R14, R15, R16). -/
def State.stowLot (s : State) (l : Lot) : State := { s with ct.lots := s.ct.lots ++ [l] }

/-- A lot taken from its stow list; its record frees and its space is judged (R21). The serial and the filing are the
caller's. -/
def State.takeLot (s : State) (n : Nat) : State :=
  match s.ct.lot n with
  | some l => { s with ct.lots := s.ct.lots.eraseP fun e => e.num == n }.judgeSpace l.loc
  | none => s

/-- The pool record that files a waiting load (R23). -/
def Filing.lot (f : Filing) : Lot := ⟨f.num, f.weight, f.pos, f.dest, .crane f.crane, f.landed⟩

/-- The load at the head of the filing list is filed into a freed record, as one operation (R23, R104). -/
def State.fileHead (s : State) : State :=
  match s.ct.filing with
  | f :: rest =>
    if s.ct.lots.length < Config.poolSize then
      (({ s with ct.filing := rest }.stowLot f.lot).setLift f.crane .idle).bump.clear ⟨.landedUnfiled, .crane f.crane⟩
    else s
  | [] => s

/-- Freed records file waiting loads in list order (R36). -/
def State.fileWaiting : Nat → State → State
  | 0, s => s
  | n + 1, s => State.fileWaiting n s.fileHead

/-! ### Tanks (R24 to R26, R29) -/

/-- The values of a tank table at a sounding, from a point on (R25). -/
def tankFrom (s : Int) : TankPoint → List TankPoint → TankPoint
  | a, [] => a
  | a, b :: rest =>
    if s ≤ a.sounding then a
    else if s < b.sounding then
      { sounding := s
        volume := interpolate a.volume b.volume a.sounding b.sounding s
        liqZ := interpolate a.liqZ b.liqZ a.sounding b.sounding s
        inertia := interpolate a.inertia b.inertia a.sounding b.sounding s }
    else tankFrom s b rest

/-- The values of a tank table at a sounding (R25). -/
def TankDef.values (d : TankDef) (s : Int) : TankPoint :=
  match d.table with
  | a :: rest => tankFrom s a rest
  | [] => ⟨0, 0, 0, 0⟩

/-- The liquid z of the table's first point (R24). -/
def TankDef.firstZ (d : TankDef) : Int :=
  match d.table with
  | a :: _ => a.liqZ
  | [] => 0

/-- The weight of a volume at a density (R24). -/
def liquidWeight (volume density : Int) : Int := rdiv (volume * density) 100000

/-- The live fields that follow from sounding, source and density (R24). -/
def TankLive.derive (d : TankDef) (t : TankLive) : TankLive :=
  if t.source = .none then { t with sounding := 0, volume := 0, liqZ := d.firstZ, inertia := 0, weight := 0 }
  else
    let v := d.values t.sounding
    { t with volume := v.volume, liqZ := v.liqZ, inertia := v.inertia, weight := liquidWeight v.volume t.density }

/-- A tank with no sounding at its default density (R35). -/
def TankDef.empty (d : TankDef) : TankLive :=
  TankLive.derive d ⟨0, .none, d.density, 0, 0, 0, 0, false⟩

/-- The live fields of a tank. -/
def State.tank (s : State) (a : Nat) : Option TankLive := lookup s.ct.tanks a

/-- The state with the live fields of a tank changed. -/
def State.onTank (s : State) (a : Nat) (f : TankLive → TankLive) : State :=
  { s with ct.tanks := adjust s.ct.tanks a f }

/-- Whether a tank's weight, liquid z or inertia differs (R26). -/
def TankLive.differs (a b : TankLive) : Bool :=
  a.weight != b.weight || a.liqZ != b.liqZ || a.inertia != b.inertia

/-- A sounding written to a tank with a source; the serial moves when weight, liquid z or inertia changes (R26, R28). -/
def State.sound (s : State) (a : Nat) (d : TankDef) (sounding : Int) (src : Source) : State :=
  match s.tank a with
  | some t =>
    let t' := TankLive.derive d { t with sounding := sounding, source := src }
    let s' := s.onTank a fun _ => t'
    if t.differs t' then s'.bump else s'
  | none => s

/-- The in-transfer flags brought in line with the tanks that transfers name, as one flag operation (R29). -/
def State.flagTanks (s : State) (named : Nat → Bool) : State :=
  let s' := { s with ct.tanks := s.ct.tanks.map fun e => (e.1, { e.2 with inTransfer := named e.1 }) }
  if s.ct.tanks.any fun e => e.2.inTransfer != named e.1 then s'.bump else s'

/-! ### Crane structures (R31) -/

/-- The crane's structure moved to match a hook point; the operation's serial step is the caller's. -/
def State.moveStructure (s : State) (c : Crane) (q : Pt) : State :=
  match s.tables.crane c with
  | some d => { s with ct.structs := s.ct.structs.set c (some (d.centroid q)) }
  | none => s

end Sys2Proof.Machine
end

