-- ==== Sys2Proof/Machine/Image.lean ====
section
/-!
DEFINITION. The items of an image (R51 to R57): the live condition, hook loads, hooks at their worst point (R117),
reservations and candidates (R55, R108), trial changes (R56) and test conditions (R57).
-/

namespace Sys2Proof.Machine

/-- An image under work: what reservations, candidates and trial changes alter of it, the crane structures they place,
and the loads they hang (R55, R56). -/
structure Scene where
  lots : List Lot
  filing : List Filing
  tanks : List (Nat × TankLive)
  consts : List (Nat × ConstLive)
  place : PerCrane (Option Pt)
  hung : List Item
  deriving DecidableEq, Repr

/-- The live condition of an image, nothing hung (R52). -/
def Image.live (i : Image) : Scene where
  lots := i.table.lots
  filing := i.table.filing
  tanks := i.table.tanks
  consts := i.table.consts
  place := ⟨none, none, none, none⟩
  hung := []

/-! ### The items (R52 to R54, R117) -/

/-- The weight that hangs on a crane's own hook: a single load, or its share of a tandem lift (R54). -/
def carried (recs : PerCrane LiftRec) (c : Crane) : Option Int :=
  match recs.get c with
  | .hooked l => some (match l.tandem with
    | some t => t.lower
    | none => l.weight)
  | .partner _ lower =>
    match recs.get lower with
    | .hooked l => l.tandem.map Shares.upper
    | _ => none
  | _ => none

/-- Whether a crane carries a load or share whose hook is UNKNOWN (R54). -/
def adrift (recs : PerCrane LiftRec) (hooks : PerCrane Hook) (c : Crane) : Bool :=
  (carried recs c).isSome && (hooks.get c).source == .unknown

/-- A point item (R67). -/
def pointItem (w : Int) (q : Pt) (h : Int) : Item := ⟨w, ⟨q.x, q.y, h⟩, .point⟩

/-- The lightship item (R52, R68); none when the hull record is unusable (assumption 24). -/
def lightship (t : Tables) : List Item :=
  match t.hull with
  | some h => [⟨h.weight, h.pos, .arrayed⟩]
  | none => []

/-- A spread item over the span of its compartment (R52, R66). -/
def spreadItem (t : Tables) (a : Nat) (w : Int) (q : Pos) : Item := ⟨w, q, .spread (t.span a).1 (t.span a).2⟩

/-- A tank's item (R53). -/
def tankItem (t : Tables) (e : Nat × TankLive) : List Item :=
  match t.tank e.1 with
  | some d => [spreadItem t e.1 e.2.weight ⟨d.cx, d.cy, e.2.liqZ⟩]
  | none => []

/-- A tank's free-surface moment (R53). -/
def tankFsm (t : Tables) (e : Nat × TankLive) : Int :=
  match t.tank e.1 with
  | some d =>
    if e.2.source = .none then 0
    else e.2.density * (if e.2.inTransfer then d.maxInertia else e.2.inertia)
  | none => 0

/-- The free-surface moment of an image (R53, R58). -/
def Scene.fsm (sc : Scene) (t : Tables) : Int := sumOf (sc.tanks.map (tankFsm t))

/-- The items whose places do not depend on a crane's hook (R52). -/
def Scene.fixed (sc : Scene) (t : Tables) : List Item :=
  lightship t
    ++ sc.lots.map (fun l => spreadItem t l.loc l.weight l.pos)
    ++ sc.tanks.flatMap (tankItem t)
    ++ sc.consts.map (fun e => spreadItem t e.1 e.2.weight e.2.pos)
    ++ sc.filing.map (fun f => ⟨f.weight, f.pos, .point⟩)
    ++ sc.hung

/-- A crane's structure item at a place (R52). -/
def structureItem (t : Tables) (c : Crane) (q : Pos) : List Item :=
  match t.crane c with
  | some d => [⟨d.weight, q, .point⟩]
  | none => []

/-- The items of a crane whose hook is not adrift: its hook load at the held position, and its structure where the
image places it, or else where the table holds it (R54, R55). -/
def Scene.craneItems (sc : Scene) (t : Tables) (recs : PerCrane LiftRec) (hooks : PerCrane Hook)
    (structs : PerCrane (Option Pos)) (c : Crane) : List Item :=
  let load := match carried recs c with
    | some w => [pointItem w ⟨(hooks.get c).x, (hooks.get c).y⟩ (hooks.get c).h]
    | none => []
  let place := match sc.place.get c, t.crane c with
    | some q, some d => some (d.centroid q)
    | _, _ => structs.get c
  load ++ (match place with
    | some q => structureItem t c q
    | none => [])

/-- The worst point of a crane's reach to one side (R117). -/
def worstPoint (d : CraneDef) (side : Int) : Pt := ⟨d.px, d.py + side * d.outreach⟩

/-- The items of a crane whose hook is adrift: its load at the worst point, and its structure to match (R54, R117). -/
def Scene.adriftItems (sc : Scene) (t : Tables) (recs : PerCrane LiftRec) (hooks : PerCrane Hook) (side : Int)
    (c : Crane) : List Item :=
  match carried recs c, t.crane c with
  | some w, some d =>
    pointItem w (worstPoint d side) (hooks.get c).h
      :: structureItem t c (d.centroid ((sc.place.get c).getD (worstPoint d side)))
  | _, _ => []

/-- The items that the rest moment counts (R117): all but the loads adrift and those cranes' structures. -/
def Scene.rest (sc : Scene) (t : Tables) (recs : PerCrane LiftRec) (hooks : PerCrane Hook)
    (structs : PerCrane (Option Pos)) : List Item :=
  sc.fixed t ++ (cranes.filter fun c => !adrift recs hooks c).flatMap (sc.craneItems t recs hooks structs)

/-- The side of the worst points: the sign of the rest moment (R117). -/
def sideOf (rest : List Item) : Int := if 0 ≤ momentY rest then 1 else -1

/-- Every item of an image (R52 to R56). -/
def Scene.items (sc : Scene) (t : Tables) (recs : PerCrane LiftRec) (hooks : PerCrane Hook)
    (structs : PerCrane (Option Pos)) : List Item :=
  let rest := sc.rest t recs hooks structs
  rest ++ (cranes.filter (adrift recs hooks)).flatMap (sc.adriftItems t recs hooks (sideOf rest))

/-! ### Reservations and candidates (R55, R108) -/

/-- A hold pickup's origin lot taken out, when it stands in the origin's stow list (R55). -/
def Scene.takeOut (sc : Scene) (r : Request) : Scene :=
  match r.origin with
  | .space a => { sc with lots := sc.lots.eraseP fun l => l.num == r.lot && l.loc == a }
  | .quay => sc

/-- A request's load hung at a candidate, with the crane structures placed to match (R55, R108). -/
def Scene.hang (sc : Scene) (c : Crane) (r : Request) (index : Nat) : Scene :=
  match r.cands[index - 1]? with
  | some q =>
    match r.tandem, q.partner with
    | some t, some q' =>
      { sc with
        hung := sc.hung ++ [pointItem t.lower q.own r.susp, pointItem t.upper q' r.susp]
        place := (sc.place.set c (some q.own)).set (mate c) (some q') }
    | _, _ =>
      { sc with hung := sc.hung ++ [pointItem r.weight q.own r.susp], place := sc.place.set c (some q.own) }
  | none => sc

/-- The reservation of one crane's record, if it is GRANTED (R55). -/
def Scene.reserve (recs : PerCrane LiftRec) (sc : Scene) (c : Crane) : Scene :=
  match recs.get c with
  | .granted r _ index _ => (sc.takeOut r).hang c r index
  | _ => sc

/-- The live condition with every GRANTED reservation (R55). -/
def Image.reserved (i : Image) : Scene := cranes.foldl (Scene.reserve i.recs) i.live

/-- The space load of an image (R18, R45). -/
def Scene.load (sc : Scene) (a : Nat) : Int :=
  sumOf ((sc.lots.filter fun l => l.loc == a).map Lot.weight) + filingWeight sc.filing a

/-! ### Trial changes (R56) -/

/-- Whether a lot number is held in an image by a stow list entry, a hook load or a filing list entry (R56). -/
def Scene.holdsLot (sc : Scene) (recs : PerCrane LiftRec) (n : Nat) : Bool :=
  sc.lots.any (fun l => l.num == n) || sc.filing.any (fun f => f.num == n) ||
    cranes.any fun c => match recs.get c with
      | .hooked l => l.lot == n
      | _ => false

/-- One trial change applied, or none when it is inconsistent (R56). -/
def Scene.change (sc : Scene) (t : Tables) (recs : PerCrane LiftRec) : TrialChange → Option Scene
  | .addLot n a w q =>
    match t.cargo a with
    | some (box, _) =>
      if sc.holdsLot recs n || !box.holds q then none
      else some { sc with lots := sc.lots ++ [⟨n, w, q, a, .console, 0⟩] }
    | none => none
  | .removeLot n =>
    if sc.lots.any fun l => l.num == n then some { sc with lots := sc.lots.eraseP fun l => l.num == n } else none
  | .shiftLot n a q =>
    match t.cargo a with
    | some (box, _) =>
      if (sc.lots.any fun l => l.num == n) && box.holds q then
        some { sc with lots := sc.lots.map fun l => if l.num = n then { l with loc := a, pos := q } else l }
      else none
    | none => none
  | .setSounding a v =>
    match t.tank a with
    | some d =>
      some { sc with tanks := adjust sc.tanks a fun e =>
        TankLive.derive d { e with sounding := clamp 0 d.depth v, source := .manual } }
    | none => none
  | .setConst slot w q =>
    match t.const (112 + slot) with
    | some (box, _) =>
      if box.holds q then some { sc with consts := adjust sc.consts (112 + slot) fun _ => ⟨w, q⟩ } else none
    | none => none
  | .hang c w q h =>
    match t.crane c with
    | some d =>
      if d.reaches q then some { sc with hung := sc.hung ++ [pointItem w q h], place := sc.place.set c (some q) }
      else none
    | none => none

/-- The changes of a trial list in order; an inconsistent one gives its index, counted from `index` (R56). -/
def Scene.changes (t : Tables) (recs : PerCrane LiftRec) (sc : Scene) (index : Nat) :
    List TrialChange → Except Nat Scene
  | [] => .ok sc
  | ch :: rest =>
    match sc.change t recs ch with
    | some sc' => Scene.changes t recs sc' (index + 1) rest
    | none => .error index

/-! ### The passes of a job (R39, R43) -/

/-- One pass over a scene of an image; none while the evaluation tables are unusable (R49). -/
def passOver (t : Tables) (i : Image) (candidate : Nat) (sc : Scene) : Option Result :=
  match t.hull, t.hydro, t.strength with
  | some h, some rows, some st =>
    some (evaluate h rows st i.strength i.kind i.serial candidate (sc.items t i.recs i.hooks i.table.structs)
      (sc.fsm t))
  | _, _, _ => none

/-- The scene of a PERMIT job without its candidate hung: the reservations, and the request's origin lot taken out
(R55). -/
def Image.permitBase (i : Image) (r : Request) : Scene := i.reserved.takeOut r

/-- The pass of a PERMIT job's candidate, counted from 1 (R43, R55). -/
def permitPass (t : Tables) (i : Image) (c : Crane) (r : Request) (index : Nat) : Option Result :=
  passOver t i index ((i.permitBase r).hang c r index)

/-- The items of a stored test condition (R57). -/
def testItems (t : Tables) (tc : TestCondition) : List Item :=
  lightship t ++ tc.items.map fun it => ⟨it.weight, it.pos, match it.span with
    | some (f, l) => .spread f l
    | none => .point⟩

/-- The pass of a TEST job (R57). -/
def testPass (t : Tables) (i : Image) (tc : TestCondition) : Option Result :=
  match t.hull, t.hydro, t.strength with
  | some h, some rows, some st =>
    some (evaluate h rows st i.strength i.kind i.serial 0 (testItems t tc) tc.fsm)
  | _, _, _ => none

end Sys2Proof.Machine
end

