-- ==== Sys2Proof/Machine/Evaluator.lean ====
section
/-!
DEFINITION. The Stability Evaluator's choice and taking of jobs (R38 to R42, R51).
-/

namespace Sys2Proof.Machine

/-- The image of a job taken now (R51). -/
def State.image (s : State) (k : JobKind) (c : Option Crane) : Image where
  kind := k
  serial := s.ct.serial
  strength := s.settings.strength
  table := s.ct
  recs := s.lcu.recs
  hooks := s.lcu.hooks
  crane := c
  trial := if k = .trial then s.csv.trial else []
  test := none

/-- Whether the condition is dirty (R40). -/
def State.dirty (s : State) : Bool := s.sev.taken != some s.ct.serial

/-- The LIVE job taken: the taken serial is the image's (R40). -/
def State.takeLive (s : State) : State :=
  { s with sev.state := .busy (s.image .live none), sev.taken := some s.ct.serial }

/-- The PERMIT job of the request at the head of the queue taken: the evaluation in hand is its port's, the discard
mark clear (R39, R85). -/
def State.takePermit (s : State) (c : Crane) : State :=
  { s with sev.state := .busy (s.image .permit (some c)), lcu.inHand := some (c, false) }

/-- The TRIAL job taken: trial wanted clears and the trial runs (R39, R170). -/
def State.takeTrial (s : State) : State :=
  { s with sev.state := .busy (s.image .trial none), sev.trialWanted := false, csv.trialState := .running }

/-- The TEST job of a stored condition taken, under HARBOUR (R48, R57, R73). -/
def State.takeTest (s : State) (tc : TestCondition) : State :=
  { s with sev.state := .busy { s.image .test none with strength := .harbour, test := some tc } }

/-- The kind of job that R41 chooses among the jobs wanted. -/
def chooseJob (last : Option JobKind) (live permit trial : Bool) : Option JobKind :=
  if last = some .live ∧ (permit || trial) = true then some (if permit then .permit else .trial)
  else if live then some .live
  else if permit then some .permit
  else if trial then some .trial
  else none

/-- The evaluator, IDLE and past the start-up, chooses a wanted job and takes it (R41, R42); otherwise nothing
happens. -/
def State.takeJob (s : State) : State :=
  if s.hds.mode != .starting && s.sev.state = .idle then
    match chooseJob s.sev.last s.dirty (!s.lcu.queue.isEmpty) s.sev.trialWanted with
    | some .live => s.takeLive
    | some .permit =>
      match s.lcu.queue with
      | c :: _ => s.takePermit c
      | [] => s
    | some .trial => s.takeTrial
    | _ => s
  else s

/-- The evaluator becomes IDLE after a job of a kind (R42). -/
def State.jobDone (s : State) (k : JobKind) : State := { s with sev.state := .idle, sev.last := some k }

end Sys2Proof.Machine
end

