-- ==== Sys2Proof/Machine/Operands.lean ====
section
/-!
DEFINITION. The operands of a frame command: the message kinds by port (R178), the length that each kind requires
(R173, R179), and the fields read out of a payload, most significant octet first (R179).
-/

namespace Sys2Proof.Machine

/-! ### Inbound kinds (R178) -/

/-- The octets of port P's inbound kinds, in R178's order. -/
abbrev kReadItem : Byte := 1
abbrev kReadRun : Byte := 2
abbrev kReadStow : Byte := 3
abbrev kReadLot : Byte := 4
abbrev kReadResult : Byte := 5
abbrev kReadStrength : Byte := 6
abbrev kReadAlarms : Byte := 7
abbrev kReadSetting : Byte := 8
abbrev kSetConstant : Byte := 9
abbrev kEnterLot : Byte := 10
abbrev kRemoveLot : Byte := 11
abbrev kShiftLot : Byte := 12
abbrev kSetDensity : Byte := 13
abbrev kSetManual : Byte := 14
abbrev kReleaseManual : Byte := 15
abbrev kSetSetting : Byte := 16
abbrev kTrialBegin : Byte := 17
abbrev kTrialAdd : Byte := 18
abbrev kTrialRun : Byte := 19
abbrev kAckAlarm : Byte := 20
abbrev kRestart : Byte := 21
abbrev kStoreLoad : Byte := 22
abbrev kStoreProgram : Byte := 23
abbrev kStoreDiscard : Byte := 24
abbrev kStoreRead : Byte := 25
/-- The octets of the crane ports' inbound kinds. -/
abbrev kLiftRequest : Byte := 48
abbrev kLiftCancel : Byte := 49
abbrev kHookLoaded : Byte := 50
abbrev kHookPosition : Byte := 51
abbrev kHookLanded : Byte := 52
abbrev kStopAck : Byte := 53
/-- The octets of port B's inbound kinds. -/
abbrev kTransferStart : Byte := 64
abbrev kTransferEnd : Byte := 65
abbrev kTransferClear : Byte := 66

/-- Whether a port serves an inbound kind (R178). -/
def servesKind : Port → Byte → Bool
  | .p, k => decide (1 ≤ k.toNat ∧ k.toNat ≤ 25)
  | .b, k => decide ((64 ≤ k.toNat ∧ k.toNat ≤ 66) ∨ k.toNat = 53)
  | .c1, k | .c2, k | .c3, k | .c4, k => decide (48 ≤ k.toNat ∧ k.toNat ≤ 53)

/-! ### Fields of a payload (R179) -/

/-- The unsigned field of `n` octets at an offset, most significant octet first. -/
def field (p : List Byte) (off n : Nat) : Nat := ((p.drop off).take n).foldl (fun acc o => acc * 256 + o.toNat) 0

/-- The unsigned field as an integer. -/
def fieldU (p : List Byte) (off n : Nat) : Int := Int.ofNat (field p off n)

/-- The signed field, in two's complement. -/
def fieldS (p : List Byte) (off n : Nat) : Int :=
  let v := fieldU p off n
  let half : Int := 2 ^ (8 * n - 1)
  if v < half then v else v - 2 * half

/-- A point x, y at an offset. -/
def fieldPt (p : List Byte) (off : Nat) : Pt := ⟨fieldU p off 3, fieldS p (off + 3) 3⟩

/-- A position x, y, z at an offset. -/
def fieldPos (p : List Byte) (off : Nat) : Pos := ⟨fieldU p off 3, fieldS p (off + 3) 3, fieldU p (off + 6) 3⟩

/-- The 32-bit store entry values from an offset on. -/
def fieldWords (p : List Byte) (off : Nat) : Nat → List Entry
  | 0 => []
  | n + 1 => BitVec.ofNat 32 (field p off 4) :: fieldWords p (off + 4) n

/-! ### Required lengths (R173, R179) -/

/-- The payload length that a trial change kind requires; a kind that is none of the six has none (R169,
assumptions 15 and 17). -/
def trialLength : Nat → Option Nat
  | 0 => some 16
  | 1 => some 3
  | 2 => some 13
  | 3 => some 5
  | 4 => some 14
  | 5 => some 14
  | _ => none

/-- The lengths of the kinds that have one length, by their octet: the sum of their fields' widths (R179). A transfer id
takes one octet (assumption 44), and so does SET_CONSTANT's slot (assumption 39). -/
def fixedLength : Nat → Option Nat
  | 1 => some 2
  | 2 => some 3
  | 3 => some 4
  | 4 => some 2
  | 5 => some 1
  | 6 => some 3
  | 7 => some 1
  | 8 => some 1
  | 9 => some 13
  | 10 => some 15
  | 11 => some 2
  | 12 => some 12
  | 13 => some 3
  | 14 => some 4
  | 15 => some 1
  | 16 => some 6
  | 17 => some 0
  | 19 => some 0
  | 20 => some 2
  | 21 => some 0
  | 23 => some 1
  | 24 => some 0
  | 25 => some 3
  | 49 => some 1
  | 50 => some 16
  | 51 => some 9
  | 52 => some 10
  | 53 => some 0
  | 64 => some 3
  | 65 => some 1
  | 66 => some 0
  | _ => none

/-- Whether a payload has a length that its kind requires (R173, R179; R82 and R107 for LIFT_REQUEST, R169 for
TRIAL_ADD, R182 for STORE_LOAD). -/
def lengthOk (kind : Byte) (p : List Byte) : Bool :=
  if kind = kLiftRequest then
    if 27 ≤ p.length ∧ field p 26 1 = 1 then p.length = 41 else p.length = 27
  else if kind = kTrialAdd then
    decide (1 ≤ p.length) && (match trialLength (field p 0 1) with
      | some n => p.length = n
      | none => true)
  else if kind = kStoreLoad then decide (6 ≤ p.length ∧ p.length ≤ 50 ∧ (p.length - 2) % 4 = 0)
  else fixedLength kind.toNat = some p.length

/-! ### Address octets (R5) -/

/-- An octet that names no address and has no meaning in the field: 128 to 253. -/
def badOctet (o : Nat) : Bool := decide (128 ≤ o ∧ o ≤ 253)

/-- An octet that is BAD_FIELD where an address is required: 128 to 253, and 255 (R5). -/
def notAddress (o : Nat) : Bool := badOctet o || decide (o = 255)

/-- The refusal of an address octet in a field that requires an address and admits neither QUAY nor SEA (R5). -/
def addressCode (o : Nat) : Option Code :=
  if notAddress o then some .badField else if o = 254 then some .badSpace else none

/-- The end of a lift that an octet names, where 254 is QUAY (R5). -/
def liftEnd (o : Nat) : LiftEnd := if o = 254 then .quay else .space o

/-- The end of a transfer that an octet names, where 254 is SEA (R5). -/
def transferEndOf (o : Nat) : TransferEnd := if o = 254 then .sea else .tank o

end Sys2Proof.Machine
end

