-- ==== Sys2Proof/Machine/Monitor.lean ====
section
/-!
DEFINITION. The Limit Monitor: criteria (R140), limit alarms (R141), the draught cross-check (R142), stop issue and its
targets (R143 to R146), withdrawal by the LCU (R95), resume (R149); and the measured draughts it reads (R132).
-/

namespace Sys2Proof.Machine

/-! ### Measured draughts (R132) -/

/-- A gauging channel. -/
def Tgt.chan (g : Tgt) (ch : Nat) : Channel := (lookup g.chans ch).getD ⟨.unswept, none, none⟩

/-- A draught channel's value while the channel is GOOD (R132). -/
def Channel.value (c : Channel) : Option Int := if c.state = .good then c.lastGood else none

/-- The measured draught of an end from its two channels (R132). -/
def endDraught (a b : Channel) : Option Int :=
  match a.value, b.value with
  | some x, some y => some (rdiv (x + y) 2)
  | some x, none => some x
  | none, some y => some y
  | none, none => none

/-- The aft measured draught: channels 32 and 33 (R132). -/
def Tgt.aftDraught (g : Tgt) : Option Int := endDraught (g.chan 32) (g.chan 33)

/-- The forward measured draught: channels 34 and 35 (R132). -/
def Tgt.fwdDraught (g : Tgt) : Option Int := endDraught (g.chan 34) (g.chan 35)

/-! ### Criteria (R139, R140) -/

/-- Whether a heel is beyond a limit, in magnitude. -/
def heelAbove (heel limit : Int) : Bool := decide (limit < mag heel)

/-- Whether a draught limit setting is in force and passed (R140). -/
def draughtAbove (limit : Nat) (r : Result) : Bool := limit != 0 && decide (Int.ofNat limit < r.maxDraught)

/-- Whether any station's utilisation is above 1,000 (R140). -/
def anyBreach (pm : List Int) : Bool := pm.any fun v => decide (1000 < v)

/-- Whether a live result meets a stop criterion; an unusable limit record meets HEEL and GM (R139, R140). -/
def meets (limits : Option LimitRecord) (draughtLimit : Nat) (r : Result) : Criterion → Bool
  | .heel => match limits with
    | some l => heelAbove r.heel l.stopHeel
    | none => true
  | .gm => match limits with
    | some l => decide (r.gmf < l.gmStop)
    | none => true
  | .draught => draughtAbove draughtLimit r
  | .shear => anyBreach r.strength.sfPm
  | .bending => anyBreach r.strength.bmPm

/-- The stop criteria in their order (R140). -/
def criteria : List Criterion := [.heel, .gm, .draught, .shear, .bending]

/-- Whether a live result meets every lifting limit (R140); with an unusable limit record none does (R139). -/
def liftable (limits : Option LimitRecord) (draughtLimit : Nat) (r : Result) : Bool :=
  match limits with
  | some l => !heelAbove r.heel l.liftHeel && decide (l.gmLift ≤ r.gmf) && !draughtAbove draughtLimit r &&
      !anyBreach r.strength.sfPm && !anyBreach r.strength.bmPm
  | none => false

/-! ### Limit alarms and cross-check (R141, R142) -/

/-- The shear and bending stations that carry alarms: 1 to 19 (R141). -/
def alarmStations : List Nat := (List.range 19).map (· + 1)

/-- The alarms of one kind by station brought in line with a result (R141). -/
def State.judgeStations (s : State) (kind : AlarmKind) (pm : List Int) : State :=
  alarmStations.foldl (fun s k => s.keep ⟨kind, .station k⟩ (decide (1000 < nth pm k))) s

/-- The limit alarms brought in line with a live result (R141), in the order of R141's table (assumption 41). -/
def State.limitAlarms (s : State) (r : Result) : State :=
  let m := meets s.tables.limits s.settings.draughtLimit r
  let s1 := ((s.keep ⟨.heelLimit, .none⟩ (m .heel)).keep ⟨.gmLimit, .none⟩ (m .gm)).keep
    ⟨.draughtLimit, .none⟩ (m .draught)
  ((s1.judgeStations .shearLimit r.strength.sfPm).judgeStations .bendingLimit r.strength.bmPm).keep
    ⟨.gmNegative, .none⟩ r.flags.gmNegative

/-- Whether a measured draught is present and differs from a computed one by more than the tolerance (R142). -/
def disagrees (measured : Option Int) (computed : Int) (tolerance : Nat) : Bool :=
  match measured with
  | some m => decide (Int.ofNat tolerance < mag (m - computed))
  | none => false

/-- The draught cross-check of a live result (R142), AFT before FORWARD (assumption 41). -/
def State.crossCheck (s : State) (r : Result) : State :=
  (s.judge ⟨.draughtDisagree, .aft⟩ (disagrees s.tgt.aftDraught r.ta s.settings.draughtTolerance)).judge
    ⟨.draughtDisagree, .forward⟩ (disagrees s.tgt.fwdDraught r.tf s.settings.draughtTolerance)

/-! ### Stop orders (R143 to R146) -/

/-- STOP placed in a port's order slot: its state is SENT and its acknowledge window runs from the placing (R146). -/
def State.sendStop (s : State) (q : Port) (c : Criterion) (serial : Serial) : State :=
  (s.placeOrder q (.stop c serial)).setStopPort q ⟨.sent, some (s.now + s.settings.ackWindow * 100)⟩

/-- The y that an end of a transfer counts at: SEA 0, a tank its fixed centroid's (R144). -/
def endY (t : Tables) : TransferEnd → Int
  | .sea => 0
  | .tank a => match t.tank a with
    | some d => d.cy
    | none => 0

/-- Whether a transfer worsens a heel: its difference y_to - y_from is not 0 and has the sign of the heel (R144). -/
def worsens (t : Tables) (heel : Int) (tr : Transfer) : Bool :=
  let d := endY t tr.dst - endY t tr.src
  (decide (0 < d) && decide (0 < heel)) || (decide (d < 0) && decide (heel < 0))

/-- The criterion of the port B test that holds against a result, if any (R144). -/
def State.ballastTest (s : State) (r : Result) : Option Criterion :=
  let m := meets s.tables.limits s.settings.draughtLimit r
  if m .heel && s.tgt.transfers.any (worsens s.tables r.heel) then some .heel
  else if m .draught && s.tgt.transfers.any (fun tr => tr.src == .sea) then some .draught
  else none

/-- Whether a crane holds a load: HOOKED or TANDEM_PARTNER (R144). -/
def LiftRec.holdsLoad : LiftRec → Bool
  | .hooked _ | .partner _ _ => true
  | _ => false

/-- STOP to each crane port that holds a load (R144). -/
def State.stopCranes (s : State) (c : Criterion) (serial : Serial) : State :=
  cranes.foldl (fun s k => if (s.lift k).holdsLoad then s.sendStop (portOf k) c serial else s) s

/-- STOP to port B when a test of R144 holds. -/
def State.stopBallast (s : State) (r : Result) : State :=
  match s.ballastTest r with
  | some c => s.sendStop .b c r.serial
  | none => s

/-! ### Withdrawal (R95) -/

/-- A GRANTED permit withdrawn, with its message (R95). -/
def State.withdraw (criterion : Criterion) (s : State) (c : Crane) : State :=
  match s.lift c with
  | .granted _ n _ _ => (s.setLift c .idle).offer (portOf c) (.liftWithdrawn n criterion)
  | _ => s

/-- A queued request refused STOPPED (R95). -/
def State.refuseStopped (s : State) (c : Crane) : State :=
  (s.setLift c .idle).offer (portOf c) (.refused kLiftRequest .stopped)

/-- The LCU's step at a stop issue: every grant withdrawn, every queued request refused, a running evaluation marked
for discard (R95). -/
def State.withdrawAll (s : State) (criterion : Criterion) : State :=
  let s1 := cranes.foldl (State.withdraw criterion) s
  let s2 := s1.lcu.queue.foldl State.refuseStopped s1
  { s2 with lcu.queue := [], lcu.inHand := s2.lcu.inHand.map fun h => (h.1, true) }

/-! ### Issue, resume, judgement (R140, R143, R145, R149) -/

/-- A stop issued on a live result with its first criterion (R143). -/
def State.issueStop (s : State) (r : Result) (c : Criterion) : State :=
  (({ s with lmn.stop := some (c, r.serial) }.withdrawAll c).stopCranes c r.serial).stopBallast r

/-- A port's part in a resume: RESUME placed and STOP_UNANSWERED cleared where an order was outstanding (R149). -/
def State.resumePort (serial : Serial) (s : State) (q : Port) : State :=
  if (s.stopPort q).state = .none then s
  else ((s.placeOrder q (.resume serial)).setStopPort q ⟨.none, none⟩).clear ⟨.stopUnanswered, .port q⟩

/-- The resume (R149), the ports in the order C1 to C4, B (assumption 41). -/
def State.resume (s : State) (r : Result) : State :=
  { (ports.foldl (State.resumePort r.serial) s) with lmn.stop := none }

/-- Port B at a later live result while a stop stands (R145). -/
def State.retestBallast (s : State) (r : Result) : State :=
  if (s.stopPort .b).state = .none then s.stopBallast r else s

/-- The judgement of a new live result (R140). -/
def State.judgeLive (s : State) (r : Result) : State :=
  let s1 := (s.limitAlarms r).crossCheck r
  let m := meets s.tables.limits s.settings.draughtLimit r
  match s1.lmn.stop with
  | none =>
    match criteria.find? m with
    | some c => s1.issueStop r c
    | none => s1
  | some _ =>
    if liftable s.tables.limits s.settings.draughtLimit r then s1.resume r else s1.retestBallast r

/-- A crane port's record going HOOKED while a stop stands (R145). -/
def State.stopHooked (s : State) (c : Crane) : State :=
  match s.lmn.stop with
  | some (crit, serial) =>
    let st := (s.stopPort (portOf c)).state
    if st = .none ∨ st = .acked then s.sendStop (portOf c) crit serial else s
  | none => s

end Sys2Proof.Machine
end

