-- ==== Sys2Proof/Machine/Gauging.lean ====
section
/-!
DEFINITION. The Tank Gauging and Transfer unit: sweeps (R122 to R124), conversions (R125), the tank filters (R126 to
R128), SENSOR_FAULT and the hold timers (R129, R130), manual soundings (R131), and the transfer list (R134 to R136).
-/

namespace Sys2Proof.Machine

/-! ### Channels and tanks -/

/-- The tank that names a channel (R8, R121). -/
def Tables.tankOf (t : Tables) (ch : Nat) : Option (Nat × TankDef) :=
  t.tankAddrs.findSome? fun a => (t.tank a).bind fun d => if d.channel = some ch then some (a, d) else none

/-- The state with a channel changed. -/
def State.onChan (s : State) (ch : Nat) (f : Channel → Channel) : State :=
  { s with tgt.chans := adjust s.tgt.chans ch f }

/-- The state with a tank's release mark and hold timer changed. -/
def State.onGauge (s : State) (a : Nat) (f : TankGauge → TankGauge) : State :=
  { s with tgt.gauges := adjust s.tgt.gauges a f }

/-- A tank's release mark and hold timer. -/
def Tgt.gauge (g : Tgt) (a : Nat) : TankGauge := (lookup g.gauges a).getD ⟨false, none⟩

/-- Whether SENSOR_FAULT holds for a tank (R129). -/
def State.sensorFault (s : State) (a : Nat) (d : TankDef) : Bool :=
  (match d.channel with
    | some ch => decide (ch ∈ s.tgt.active) && (s.tgt.chan ch).state == .fault
    | none => false)
  || (s.tgt.firstSweep
      && (match s.tank a with
        | some t => t.source == .none
        | none => false)
      && (match d.channel with
        | some ch => (lookup s.tables.calib ch).isNone || decide (ch ∉ s.tgt.active)
        | none => true))

/-- SENSOR_FAULT judged for a tank (R129). -/
def State.judgeSensor (s : State) (a : Nat) : State :=
  match s.tables.tank a with
  | some d => s.keep ⟨.sensorFault, .addr a⟩ (s.sensorFault a d)
  | none => s

/-- SENSOR_FAULT judged for every defined tank (R129, R137), by rising address (assumption 41). -/
def State.judgeSensors (s : State) : State := s.tables.tankAddrs.foldl State.judgeSensor s

/-- A tank's hold timer started for the sensor hold limit; during the start-up none starts (R130, R137). -/
def State.startHold (s : State) (a : Nat) : State :=
  if s.hds.mode = .starting then s
  else s.onGauge a fun g => { g with hold := some (s.now + s.settings.holdLimit * 1000) }

/-- A hold handed to the table: a SENSOR tank goes to HELD and its hold timer starts (R26, R126, R130). -/
def State.holdTank (s : State) (a : Nat) : State :=
  match s.tank a with
  | some t => if t.source = .sensor then (s.onTank a fun t => { t with source := .held }).startHold a else s
  | none => s

/-- The end of a tank's hold: timer stopped and SENSOR_LOST cleared (R130, R131). -/
def State.endHold (s : State) (a : Nat) (release : Bool) : State :=
  (s.onGauge a fun _ => ⟨release, none⟩).clear ⟨.sensorLost, .addr a⟩

/-- A sounding committed to a tank (R26, R127). -/
def State.commit (s : State) (a : Nat) (d : TankDef) (v : Int) : State := (s.sound a d v .sensor).endHold a false

/-! ### Readings (R127, R128) -/

/-- A good reading handled with no candidate held: the filters of R127 in order. -/
def State.reading (s : State) (ch a : Nat) (d : TankDef) (t : TankLive) (v : Int) : State :=
  if t.source = .manual then s
  else if t.source = .none ∨ (s.tgt.gauge a).release then s.commit a d v
  else if Int.ofNat s.settings.stepLimit < mag (v - t.sounding) then s.onChan ch fun c => { c with candidate := some v }
  else if t.source = .sensor ∧ mag (v - t.sounding) < Int.ofNat s.settings.soundingDeadband then s
  else s.commit a d v

/-- A good reading on a tank channel: against a held candidate first (R128), then R127. -/
def State.tankReading (s : State) (ch a : Nat) (d : TankDef) (v : Int) : State :=
  match s.tank a with
  | none => s
  | some t =>
    let limit := Int.ofNat s.settings.stepLimit
    let dropped := s.onChan ch fun c => { c with candidate := none }
    match (s.tgt.chan ch).candidate with
    | none => s.reading ch a d t v
    | some k =>
      if mag (v - t.sounding) ≤ limit then dropped.reading ch a d t v
      else if mag (v - k) ≤ limit then dropped.commit a d v
      else s.onChan ch fun c => { c with candidate := some v }

/-- A FAULT conversion of a channel: the channel is FAULT without candidate or last good value, and a SENSOR tank is
held (R125, R126). -/
def State.chanFault (s : State) (ch : Nat) : State :=
  let s1 := s.onChan ch fun _ => ⟨.fault, none, none⟩
  match s.tables.tankOf ch with
  | some (a, _) => (s1.holdTank a).judgeSensor a
  | none => s1

/-- A good conversion of a channel (R125): a draught channel keeps the reading as its last good value, a tank channel
hands it to the filters. -/
def State.chanGood (s : State) (ch : Nat) (v : Int) : State :=
  let s1 := s.onChan ch fun c => { c with state := .good, lastGood := if 32 ≤ ch then some v else none }
  match s.tables.tankOf ch with
  | some (a, d) => (s1.tankReading ch a d v).judgeSensor a
  | none => s1

/-! ### Conversion (R125) -/

/-- The count scaled to 16 bits; the converter gives as many bits as the resolution (R125, assumption 23). -/
def scaledCount (count resolution : Nat) : Int := Int.ofNat (count % 2 ^ resolution * 2 ^ (16 - resolution))

/-- The reading of a scaled count, or none when it is a FAULT (R125). -/
def Calibration.reading (c : Calibration) (c16 : Int) : Option Int :=
  if c16 < c.low ∨ c.high < c16 then none
  else some (clamp 0 c.range (rdiv ((c16 - c.zero) * c.range) (c.span - c.zero)))

/-- A channel's conversion handled (R125). -/
def State.convert (s : State) (ch count resolution : Nat) : State :=
  match (lookup s.tables.calib ch).bind fun c => c.reading (scaledCount count resolution) with
  | some v => s.chanGood ch v
  | none => s.chanFault ch

/-- The conversion time of a channel, ms (R122). -/
def conversionMs (resolution : Nat) : Nat := 2 ^ (resolution - 10)

/-- The sweep goes on with the channels still to be converted, or ends (R123). -/
def State.sweepOn (s : State) (chans : List Nat) (resolution : Nat) : State :=
  { s with tgt.sweep := if chans = [] then .idle else .running chans resolution (s.now + conversionMs resolution) }

/-! ### Sweeps (R122 to R124) -/

/-- A channel leaves the sweep (R123). -/
def State.leaveSweep (s : State) (ch : Nat) : State :=
  let s1 := s.onChan ch fun _ => ⟨.unswept, none, none⟩
  match s.tables.tankOf ch with
  | some (a, _) => (s1.onGauge a fun g => { g with release := false }).holdTank a
  | none => s1

/-- The active set fixed anew: channels no longer in it leave the sweep, and SENSOR_FAULT is judged (R123, R129). -/
def State.setActive (s : State) (active : List Nat) : State :=
  let leaving := s.tgt.active.filter fun ch => ch ∉ active
  (leaving.foldl State.leaveSweep { s with tgt.active := active }).judgeSensors

/-- The active set a sweep starts with: the channels both in the mask and calibrated, in rising order (R123). -/
def State.sweepSet (s : State) : List Nat :=
  (List.range 36).filter fun ch => s.settings.mask.getLsbD ch && (lookup s.tables.calib ch).isSome

/-- A sweep starts (R123). -/
def State.startSweep (s : State) : State :=
  (s.setActive s.sweepSet).sweepOn s.sweepSet s.settings.resolution

/-- An empty mask stored: a running sweep stops and every channel leaves the sweep (R124). -/
def State.stopSweep (s : State) : State := { s with tgt.sweep := .idle }.setActive []

/-! ### Manual soundings (R28, R131) -/

/-- A tank channel's candidate dropped. -/
def State.dropCandidate (s : State) (d : TankDef) : State :=
  match d.channel with
  | some ch => s.onChan ch fun c => { c with candidate := none }
  | none => s

/-- A manual sounding set (R28), and the TGT's part (R131). -/
def State.setManual (s : State) (a : Nat) (d : TankDef) (sounding : Int) : State :=
  (((s.sound a d sounding .manual).dropCandidate d).endHold a false).judgeSensor a

/-- A MANUAL tank released to HELD (R28), and the TGT's part (R131). -/
def State.releaseManual (s : State) (a : Nat) (d : TankDef) : State :=
  match s.tank a with
  | some t =>
    if t.source = .manual then
      (((s.onTank a fun t => { t with source := .held }).dropCandidate d).onGauge a
        fun g => { g with release := true }).startHold a
    else s
  | none => s

/-! ### The transfer list (R134 to R136) -/

/-- The list with a transfer entered in id order, replacing one of the same id (R134, R136). -/
def enterTransfer (t : Transfer) : List Transfer → List Transfer
  | [] => [t]
  | e :: rest => if t.id < e.id then t :: e :: rest else if e.id = t.id then t :: rest else e :: enterTransfer t rest

/-- Whether a transfer names a tank (R29). -/
def Transfer.names (t : Transfer) (a : Nat) : Bool := t.src == .tank a || t.dst == .tank a

/-- The transfer list replaced, and the flags brought in line as one flag operation (R29, R134, R135). -/
def State.setTransfers (s : State) (l : List Transfer) : State :=
  { s with tgt.transfers := l }.flagTanks fun a => l.any fun t => t.names a

end Sys2Proof.Machine
end

