-- ==== Sys2Proof/Machine/Frames.lean ====
section
/-!
DEFINITION. Taking a frame: when the block that serves a port takes the frame at the head of its inbound buffer, and
how the frame is answered (R80, R106, R160, R173, R174).
-/

namespace Sys2Proof.Machine

/-- The answer to a taken frame: a message now, the entry held for a DONE that comes later (R183), or none, as for an
accepted LIFT_REQUEST (R84). -/
inductive Reply where
  | say (m : OutMsg)
  | later
  | silent
  deriving DecidableEq, Repr

/-- A refusal of a kind with a code (R178). -/
def refuse (k : Byte) (c : Code) : Reply := .say (.refused k c)

/-- An accepted frame of a kind, with what its DONE carries. -/
def done (k : Byte) (b : DoneBody) : Reply := .say (.done k b)

/-- Whether the serving block of a port takes frames now (R174): out of reset, not STARTING, restart pending clear for
port P, and a free entry in the outbound queue. -/
def State.canTake (s : State) (q : Port) : Bool :=
  s.phase == .running && s.hds.mode != .starting && (q != .p || !s.csv.restartPending) && (s.link q).hasRoom

/-- The frame at the head of a port's inbound buffer leaves it, and one entry of the outbound queue is held for its
reply (R174). -/
def State.pull (s : State) (q : Port) : State :=
  s.setLink q { s.link q with inbound := (s.link q).inbound.tail, reserved := (s.link q).reserved + 1 }

/-- One entry held for a reply is given up (R174). -/
def Link.release (l : Link) : Link := { l with reserved := l.reserved - 1 }

/-- The reply takes the entry that was held for it (R174); with no reply the entry is free again (R84). -/
def State.answer (s : State) (q : Port) : Reply → State
  | .say m => s.setLink q ((s.link q).release.put m)
  | .later => s
  | .silent => s.setLink q (s.link q).release

/-- The frame that a port's serving block takes next, if it takes frames now. -/
def State.head (s : State) (q : Port) : Option Frame := if s.canTake q then (s.link q).inbound.head? else none

/-- The taking of a frame of one kind: the frame at the head is of that kind, it leaves the buffer, it is refused
BAD_FIELD when its length is not one its kind requires, and it is answered in the same step (R173, R174). The length is
judged before the part mode, also for a store message (assumption 42). When the head is no such frame, or no frame is
taken now, nothing happens (assumption 5). -/
def serve (q : Port) (k : Byte) (handle : List Byte → State → State × Reply) (s : State) : State :=
  match s.head q with
  | some f =>
    if f.kind = k then
      let r := if lengthOk k f.payload then handle f.payload (s.pull q) else (s.pull q, refuse k .badField)
      r.1.answer q r.2
    else s
  | none => s

/-- The taking of a frame of a kind that the port does not serve (R173). -/
def serveUnknown (q : Port) (s : State) : State :=
  match s.head q with
  | some f => if servesKind q f.kind then s else (s.pull q).answer q (refuse f.kind .unknownKind)
  | none => s

/-- The taking of a crane port's frame: refused BAD_SPACE when the crane is undefined (R6, R80). -/
def serveCrane (c : Crane) (k : Byte) (handle : List Byte → State → State × Reply) (s : State) : State :=
  serve (portOf c) k
    (fun p s => if (s.tables.crane c).isNone then (s, refuse k .badSpace) else handle p s) s

/-- Whether a port is the upper port of a pair that is on (R105, R106). -/
def State.upperPaired (s : State) (c : Crane) : Bool := isUpper c && s.lcu.paired c

/-- The taking of a frame that a paired upper port refuses PORT_PAIRED (R106). -/
def serveLift (c : Crane) (k : Byte) (handle : List Byte → State → State × Reply) (s : State) : State :=
  serveCrane c k (fun p s => if s.upperPaired c then (s, refuse k .portPaired) else handle p s) s

end Sys2Proof.Machine
end

