-- ==== Sys2Proof/Machine/Lifts.lean ====
section
/-!
DEFINITION. The Lift Control Unit's shared operations: the permit queue (R85), hooks and the worst point (R112 to
R118), the placement of a lot at a lift-off and the removal of an older one (R99, R100), the end of a hooked lift
(R101, R111), and the judgement of a permit (R86 to R90).
-/

namespace Sys2Proof.Machine

/-! ### The permit queue (R85) -/

/-- A request leaves the permit queue; when it is under evaluation, the discard mark is set (R85). -/
def State.leaveQueue (s : State) (c : Crane) : State :=
  { s with
    lcu.queue := s.lcu.queue.erase c
    lcu.inHand := s.lcu.inHand.map fun h => if h.1 = c then (h.1, true) else h }

/-- The end of a PENDING request or a GRANTED permit without a message (R93, R94, R96). -/
def State.dropRequest (s : State) (c : Crane) : State :=
  match s.lift c with
  | .pending _ _ => (s.leaveQueue c).setLift c .idle
  | .granted _ _ _ _ => s.setLift c .idle
  | _ => s

/-! ### Hooks (R112 to R118) -/

/-- The held hook position written with source REPORTED, and the structure moved to match; the serial step is the
caller's (R114, R31). -/
def State.putHook (s : State) (c : Crane) (q : Pt) (h : Int) : State :=
  (s.setHook c ⟨q.x, q.y, h, .reported⟩).moveStructure c q

/-- The worst point of a crane's hook in the live condition (R116, R117). -/
def State.worst (s : State) (d : CraneDef) : Pt :=
  worstPoint d (sideOf ((s.image .live none).live.rest s.tables s.lcu.recs s.lcu.hooks s.ct.structs))

/-- A crane's structure moved to match the worst point of its hook in the live condition (R116). -/
def State.structureToWorst (s : State) (c : Crane) : State :=
  match s.tables.crane c with
  | some d => s.moveStructure c (s.worst d)
  | none => s

/-- The source of a crane's hook set UNKNOWN, the held position kept, and POSITION_UNKNOWN raised (R116). -/
def State.losePosition (s : State) (c : Crane) : State :=
  (s.setHook c { s.hook c with source := .unknown }).raise ⟨.positionUnknown, .crane c⟩

/-- A hook goes UNKNOWN when its crane holds a load and its source is REPORTED; one hook operation (R116). -/
def State.hookUnknown (s : State) (c : Crane) : State :=
  if (s.lift c).holdsLoad && (s.hook c).source == .reported then ((s.losePosition c).structureToWorst c).bump else s

/-- An UNKNOWN hook settled at its pedestal with height 0 (R100, R115). -/
def State.settleHook (s : State) (c : Crane) : State :=
  if (s.hook c).source = .unknown then
    match s.tables.crane c with
    | some d => s.putHook c d.pedestal 0
    | none => s.setHook c { s.hook c with source := .reported }
  else s

/-! ### The end of a hooked lift (R100, R101, R111) -/

/-- The alarms that end when a crane no longer holds a load (R101). -/
def State.clearLoadAlarms (s : State) (c : Crane) : State :=
  (s.clear ⟨.unpermittedLift, .crane c⟩).clear ⟨.positionUnknown, .crane c⟩

/-- A HOOKED record leaves HOOKED for another: for a tandem lift the partner's record goes to IDLE, and the load
alarms of the cranes concerned clear (R101, R111), this crane's before the partner's (assumption 41). -/
def State.endLift (s : State) (c : Crane) (l : Load) (next : LiftRec) : State :=
  let s1 := (s.setLift c next).clearLoadAlarms c
  if l.tandem.isSome then (s1.setLift (mate c) .idle).clearLoadAlarms (mate c) else s1

/-- The UNKNOWN hooks of a removed lift settled (R100, R111). -/
def State.settleLift (s : State) (c : Crane) (l : Load) : State :=
  if l.tandem.isSome then (s.settleHook c).settleHook (mate c) else s.settleHook c

/-! ### The placement of a lot at a lift-off (R99, R100) -/

/-- The HOOKED record that holds a lot, other than a crane's own. -/
def State.hookedElsewhere (s : State) (c : Crane) (n : Nat) : Option (Crane × Load) :=
  cranes.findSome? fun k => match s.lift k with
    | .hooked l => if l.lot = n ∧ k ≠ c then some (k, l) else none
    | _ => none

/-- Whether a lot is held somewhere other than the origin that a lift-off names; a load waiting in the port's own
filing list entry is not (R99). -/
def State.heldElsewhere (s : State) (c : Crane) (n : Nat) (origin : LiftEnd) : Bool :=
  (match s.ct.lot n with
    | some l => decide (origin ≠ .space l.loc)
    | none => false)
  || (s.hookedElsewhere c n).isSome
  || s.ct.filing.any fun f => f.num == n && f.crane != c

/-- Another port's HOOKED record of a lot removed (R100). -/
def State.removeHooked (s : State) (c : Crane) (n : Nat) : State :=
  match s.hookedElsewhere c n with
  | some (k, l) => (s.endLift k l .idle).settleLift k l
  | none => s

/-- The filing list entry of a lot removed; its port's record goes to IDLE and LANDED_UNFILED clears (R23, R100), before
its space is judged (assumption 41). -/
def State.removeFiled (s : State) (n : Nat) : State :=
  match s.ct.filing.find? fun f => f.num == n with
  | some f =>
    (({ s with ct.filing := s.ct.filing.eraseP fun e => e.num == n }.setLift f.crane .idle).clear
      ⟨.landedUnfiled, .crane f.crane⟩).judgeSpace f.dest
  | none => s

/-- The lot of a lift-off placed on the hook: wherever it was held it is removed, with LOT_RENUMBERED when that was
not the named origin, raised before the removal (R99, R100, assumption 41). -/
def State.placeLot (s : State) (c : Crane) (n : Nat) (origin : LiftEnd) : State :=
  let s1 := if s.heldElsewhere c n origin then s.event ⟨.lotRenumbered, .crane c⟩ else s
  ((s1.takeLot n).removeHooked c n).removeFiled n

/-- A lift-off's operation ends: one serial step, and a waiting load filed into the record that the lift-off freed, as
the next operation (R21, R23, R99). -/
def State.endLiftOff (s : State) (freed : Bool) : State := if freed then s.bump.fileHead else s.bump

/-! ### The judgement of a permit (R86 to R89) -/

/-- A criterion of the permit judgement, in the order of R86. -/
inductive PermitTest where
  | heel | gm | draught | shear | bending | capacity
  deriving DecidableEq, Repr

/-- The criteria in their order (R88). -/
def permitTests : List PermitTest := [.heel, .gm, .draught, .shear, .bending, .capacity]

/-- The number of a criterion in a frame: as STOP's, CAPACITY after them (R179, assumption 15). -/
def PermitTest.octet : PermitTest → Nat
  | .heel => 0
  | .gm => 1
  | .draught => 2
  | .shear => 3
  | .bending => 4
  | .capacity => 5

/-- What a permit is judged against (R86): the limit record, the draught limit setting, and for a destination space
the space load with the evaluated weight and the capacity. -/
structure PermitLimits where
  limits : Option LimitRecord
  draught : Nat
  space : Option (Int × Int)
  deriving DecidableEq, Repr

/-- Whether a candidate's result passes a criterion (R86). -/
def PermitLimits.passes (p : PermitLimits) (r : Result) : PermitTest → Bool
  | .heel => match p.limits with
    | some l => !heelAbove r.heel l.liftHeel
    | none => false
  | .gm => match p.limits with
    | some l => decide (l.gmLift ≤ r.gmf)
    | none => false
  | .draught => !draughtAbove p.draught r
  | .shear => decide (r.strength.worstSfPm ≤ 1000)
  | .bending => decide (r.strength.worstBmPm ≤ 1000)
  | .capacity => match p.space with
    | some (load, capacity) => decide (load ≤ capacity)
    | none => true

/-- The first criterion that fails at any candidate, with the first candidate's result at which it fails (R88). -/
def PermitLimits.failure (p : PermitLimits) (results : List Result) : Option (PermitTest × Result) :=
  permitTests.findSome? fun t => (results.find? fun r => !p.passes r t).map fun r => (t, r)

/-- The counter-ballast moment of a HEEL refusal (R89). -/
def counterMoment (liftHeel : Int) (r : Result) : Int :=
  if 0 < r.gmf then
    let m := cdiv (mag r.my * 10000 - liftHeel * r.disp * r.gmf) 10000
    if 0 < r.heel then -m else m
  else 0

/-- The failing value that LIFT_REFUSED carries (R88). -/
def PermitLimits.failValue (p : PermitLimits) (r : Result) : PermitTest → FailValue
  | .heel => .heel r.heel (match p.limits with
    | some l => counterMoment l.liftHeel r
    | none => 0)
  | .gm => .gm r.gmf
  | .draught => .draught r.maxDraught
  | .shear => .shear r.strength.worstSfPm r.strength.worstSf
  | .bending => .bending r.strength.worstBmPm r.strength.worstBm
  | .capacity => match p.space with
    | some (load, capacity) => .capacity load capacity
    | none => .capacity 0 0

/-- The moment in a failing value, 0 but for HEEL (R89). -/
def FailValue.moment : FailValue → Int
  | .heel _ m => m
  | _ => 0

/-- The result of the largest heel magnitude, the first of several (R87). -/
def steepest : Result → List Result → Result
  | best, [] => best
  | best, r :: rest => steepest (if mag best.heel < mag r.heel then r else best) rest

/-- The candidate index that a grant reserves (R87). -/
def reservedIndex : List Result → Nat
  | [] => 1
  | r :: rest => (steepest r rest).candidate

/-- The permit counter after a grant (R12). -/
def nextPermit (n : Nat) : Nat := if n < 255 then n + 1 else 1

/-- The grant of a permit (R87). -/
def State.grant (s : State) (c : Crane) (r : Request) (index : Nat) (serial : Serial) : State :=
  let n := s.lcu.counter
  ({ s with
      lcu.counter := nextPermit n
      lcu.queue := s.lcu.queue.erase c
      lcu.recs := s.lcu.recs.set c
        (.granted r n index (s.now + s.settings.reservation * 1000)) }).offer (portOf c)
    (.liftGranted n index s.settings.reservation serial)

/-- The counter-ballast advice of a refusal, when its moment is not 0 (R89). -/
def State.advise (s : State) (c : Crane) (moment : Int) (serial : Serial) : State :=
  if moment = 0 then s else s.offer .b (.counterAdvice c moment serial)

/-- The refusal of a permit (R88, R89). For CAPACITY the candidate index is 1. -/
def State.refusePermit (s : State) (c : Crane) (p : PermitLimits) (f : PermitTest × Result) : State :=
  let v := p.failValue f.2 f.1
  let index := if f.1 = .capacity then 1 else f.2.candidate
  ((({ s with lcu.queue := s.lcu.queue.erase c }.setLift c .idle).offer (portOf c)
    (.liftRefused f.1.octet index f.2.serial v))).advise c v.moment f.2.serial

/-- A stale completion (R90). -/
def State.stale (s : State) (c : Crane) (r : Request) (attempts : Nat) : State :=
  if attempts + 1 < Config.maxAttempts then s.setLift c (.pending r (attempts + 1))
  else
    ({ s with lcu.queue := s.lcu.queue.erase c }.setLift c .idle).offer (portOf c)
      (.refused kLiftRequest .conditionUnsettled)

end Sys2Proof.Machine
end

