-- ==== Sys2Proof/Machine/BallastCmds.lean ====
section
/-!
DEFINITION. Stop acknowledgement (R147, R148) and the transfer frames of port B (R133 to R135).
-/

namespace Sys2Proof.Machine

/-! ### STOP_ACK and ACK_TIMER_EXPIRY (R147, R148) -/

/-- An acknowledgement by the port's stop state (R147). -/
def State.ackStop (s : State) (q : Port) : State :=
  match (s.stopPort q).state with
  | .sent => s.setStopPort q ⟨.acked, none⟩
  | .unanswered => (s.setStopPort q ⟨.acked, (s.stopPort q).timer⟩).clear ⟨.stopUnanswered, .port q⟩
  | .none | .acked => s

/-- STOP_ACK's handling; DONE carries the stop state after it. -/
def stopAckReply (q : Port) (_ : List Byte) (s : State) : State × Reply :=
  let s1 := s.ackStop q
  (s1, done kStopAck (.stop (s1.stopPort q).state))

/-- STOP_ACK on a crane port or port B (R147); port P serves no such kind. -/
def execStopAck (port : Port) (s : State) : Host.Outcome State Fault Refusal :=
  .next (match port, craneOfPort port with
    | .b, _ => serve .b kStopAck (stopAckReply .b) s
    | _, some c => serveCrane c kStopAck (stopAckReply port) s
    | _, none => s)

/-- The state of a port after its acknowledge window (R148). -/
def State.unanswered (s : State) (q : Port) : State :=
  (s.setStopPort q ⟨.unanswered, none⟩).raise ⟨.stopUnanswered, .port q⟩

/-- ACK_TIMER_EXPIRY (R148). -/
def execAckTimerExpiry (port : Port) (s : State) : Host.Outcome State Fault Refusal :=
  .next (match s.stopPort port with
    | ⟨.sent, some deadline⟩ => (s.reach deadline).unanswered port
    | _ => s)

/-! ### Transfers (R133 to R135) -/

/-- DONE to a transfer frame: its id, one octet (assumption 44), and the number of active transfers (R133). -/
def doneTransfer (k : Byte) (id : Nat) (s : State) : Reply := done k (.transfer id s.tgt.transfers.length)

/-- Whether a transfer id is 1 to 4 (R134). -/
def transferId (id : Nat) : Bool := decide (1 ≤ id ∧ id ≤ 4)

/-- Whether an end is SEA or a defined TANK (R134). -/
def Tables.isTransferEnd (t : Tables) : TransferEnd → Bool
  | .sea => true
  | .tank a => (t.tank a).isSome

/-- The check of TRANSFER_START that fails first (R134): both ends SEA, or both the same tank, is BAD_FIELD; an address
that is no tank is BAD_SPACE, also where both ends name it. -/
def State.startCode (s : State) (id src dst : Nat) : Option Code :=
  let ends (o : Nat) : Bool := s.tables.isTransferEnd (transferEndOf o)
  if transferId id = false ∨ notAddress src = true ∨ notAddress dst = true ∨ (src = dst ∧ ends src = true) then
    some .badField
  else if (ends src && ends dst) = false then some .badSpace
  else none

/-- TRANSFER_START's handling: id, from-end, to-end. -/
def transferStartReply (p : List Byte) (s : State) : State × Reply :=
  let id := field p 0 1
  let src := field p 1 1
  let dst := field p 2 1
  match s.startCode id src dst with
  | some c => (s, refuse kTransferStart c)
  | none =>
    let s1 := s.setTransfers (enterTransfer ⟨id, transferEndOf src, transferEndOf dst⟩ s.tgt.transfers)
    (s1, doneTransfer kTransferStart id s1)

/-- TRANSFER_START (R134). -/
def execTransferStart (s : State) : Host.Outcome State Fault Refusal :=
  .next (serve .b kTransferStart transferStartReply s).takeJob

/-- TRANSFER_END's handling: id. -/
def transferEndReply (p : List Byte) (s : State) : State × Reply :=
  let id := field p 0 1
  if transferId id then
    let s1 := if s.tgt.transfers.any fun t => t.id == id then
        s.setTransfers (s.tgt.transfers.filter fun t => t.id != id)
      else s
    (s1, doneTransfer kTransferEnd id s1)
  else (s, refuse kTransferEnd .badField)

/-- TRANSFER_END (R135). -/
def execTransferEnd (s : State) : Host.Outcome State Fault Refusal :=
  .next (serve .b kTransferEnd transferEndReply s).takeJob

/-- TRANSFER_CLEAR's handling. -/
def transferClearReply (_ : List Byte) (s : State) : State × Reply :=
  let s1 := if s.tgt.transfers = [] then s else s.setTransfers []
  (s1, doneTransfer kTransferClear 0 s1)

/-- TRANSFER_CLEAR (R135). -/
def execTransferClear (s : State) : Host.Outcome State Fault Refusal :=
  .next (serve .b kTransferClear transferClearReply s).takeJob

end Sys2Proof.Machine
end

