-- ==== Sys2Proof/Machine/EntryCmds.lean ====
section
/-!
DEFINITION. Data entry on port P: SET_CONSTANT, ENTER_LOT, REMOVE_LOT, SHIFT_LOT, SET_DENSITY, SET_MANUAL,
RELEASE_MANUAL (R19, R21, R22, R27, R28, R30, R166).
-/

namespace Sys2Proof.Machine

/-- DONE to a data entry message: the condition serial after the operation (R166). -/
def doneEntry (k : Byte) (s : State) : Reply := done k (.entry s.ct.serial)

/-! ### SET_CONSTANT (R30) -/

/-- The constant written; the serial moves when its weight or centroid differs (R30). -/
def State.writeConst (s : State) (a : Nat) (v : ConstLive) : State :=
  let s1 := { s with ct.consts := adjust s.ct.consts a fun _ => v }
  if lookup s.ct.consts a = some v then s1 else s1.bump

/-- SET_CONSTANT's handling: slot, weight, centroid (R30). That the slot is one octet is assumption 39. -/
def setConstantReply (p : List Byte) (s : State) : State × Reply :=
  let slot := field p 0 1
  let w := fieldU p 1 3
  let q := fieldPos p 4
  if (decide (60000 < w) || !q.inFrame || decide (15 < slot)) = true then (s, refuse kSetConstant .badField)
  else
    match s.tables.const (112 + slot) with
    | none => (s, refuse kSetConstant .badSpace)
    | some (box, _) =>
      if box.holds q then
        let s1 := s.writeConst (112 + slot) ⟨w, q⟩
        (s1, doneEntry kSetConstant s1)
      else (s, refuse kSetConstant .outOfSpace)

/-- SET_CONSTANT (R30). -/
def execSetConstant (s : State) : Host.Outcome State Fault Refusal :=
  .next (serve .p kSetConstant setConstantReply s).takeJob

/-! ### Lots (R16, R19, R21, R22) -/

/-- The lot number that a lift record not in IDLE names (R19, R79). -/
def LiftRec.lotOf : LiftRec → Option Nat
  | .idle => none
  | .pending r _ => some r.lot
  | .granted r _ _ _ => some r.lot
  | .hooked l => some l.lot
  | .unfiled n _ => some n
  | .partner n _ => some n

/-- Whether a lift record not in IDLE names a lot (R19, R83). -/
def State.liftNames (s : State) (n : Nat) : Bool := cranes.any fun c => (s.lift c).lotOf == some n

/-- Whether a HOOKED or LANDED_UNFILED record holds a lot (R16, R21, R22). -/
def State.inMotion (s : State) (n : Nat) : Bool :=
  cranes.any fun c => match s.lift c with
    | .hooked l => l.lot == n
    | .unfiled m _ => m == n
    | _ => false

/-- Whether a record in PENDING or GRANTED is a hold pickup of a lot (R21, R22, assumption 35). -/
def State.isOrigin (s : State) (n : Nat) : Bool :=
  cranes.any fun c => match s.lift c with
    | .pending r _ => r.lot == n && r.origin != .quay
    | .granted r _ _ _ => r.lot == n && r.origin != .quay
    | _ => false

/-- A weight of a lot in range (R2). -/
def lotWeight (w : Int) : Bool := within 1 20000 w

/-- The check of ENTER_LOT that fails first (R19). -/
def State.enterCode (s : State) (n a : Nat) (w : Int) (q : Pos) : Option Code :=
  if n = 0 ∨ lotWeight w = false ∨ q.inFrame = false ∨ notAddress a = true then some .badField
  else
    match s.tables.cargo a with
    | none => some .badSpace
    | some (box, _) =>
      if ((s.ct.lot n).isSome || s.liftNames n) = true then some .duplicateLot
      else if box.holds q = false then some .outOfSpace
      else if s.ct.lots.length < Config.poolSize then none
      else some .poolFull

/-- ENTER_LOT's handling: lot, space, weight, position. -/
def enterLotReply (p : List Byte) (s : State) : State × Reply :=
  let n := field p 0 2
  let a := field p 2 1
  let w := fieldU p 3 3
  let q := fieldPos p 6
  match s.enterCode n a w q with
  | some c => (s, refuse kEnterLot c)
  | none =>
    let s1 := ((s.stowLot ⟨n, w, q, a, .console, s.seconds⟩).judgeSpace a).bump
    (s1, doneEntry kEnterLot s1)

/-- ENTER_LOT (R19). -/
def execEnterLot (s : State) : Host.Outcome State Fault Refusal := .next (serve .p kEnterLot enterLotReply s).takeJob

/-- The check of REMOVE_LOT that fails first (R21). -/
def State.removeCode (s : State) (n : Nat) : Option Code :=
  if n = 0 then some .badField
  else if (s.ct.lot n).isNone then some (if s.inMotion n then .lotInMotion else .noSuchLot)
  else if s.isOrigin n then some .lotInMotion
  else none

/-- REMOVE_LOT's handling; the freed record files a waiting load as the next operation (R21, R23). -/
def removeLotReply (p : List Byte) (s : State) : State × Reply :=
  let n := field p 0 2
  match s.removeCode n with
  | some c => (s, refuse kRemoveLot c)
  | none =>
    let s1 := (s.takeLot n).bump
    (s1.fileHead, doneEntry kRemoveLot s1)

/-- REMOVE_LOT (R21). -/
def execRemoveLot (s : State) : Host.Outcome State Fault Refusal :=
  .next (serve .p kRemoveLot removeLotReply s).takeJob

/-- The check of SHIFT_LOT that fails first (R22). -/
def State.shiftCode (s : State) (n a : Nat) (q : Pos) : Option Code :=
  if n = 0 ∨ q.inFrame = false ∨ notAddress a = true then some .badField
  else if (s.inMotion n || ((s.ct.lot n).isSome && s.isOrigin n)) = true then some .lotInMotion
  else if (s.ct.lot n).isNone then some .noSuchLot
  else
    match s.tables.cargo a with
    | none => some .badSpace
    | some (box, _) => if box.holds q then none else some .outOfSpace

/-- A lot moved within its space, keeping its place, or to the tail of another space's list (R14, R22). That the space
left is judged before the space entered is assumption 41. -/
def State.shiftLot (s : State) (l : Lot) (a : Nat) (q : Pos) : State :=
  if l.loc = a then
    let s1 := { s with ct.lots := s.ct.lots.map fun e => if e.num = l.num then { e with pos := q } else e }
    if l.pos = q then s1 else s1.bump
  else
    let s1 := { s with ct.lots := (s.ct.lots.eraseP fun (e : Lot) => e.num == l.num) ++ [{ l with loc := a, pos := q }] }
    ((s1.judgeSpace l.loc).judgeSpace a).bump

/-- SHIFT_LOT's handling: lot, space, position. -/
def shiftLotReply (p : List Byte) (s : State) : State × Reply :=
  let n := field p 0 2
  let a := field p 2 1
  let q := fieldPos p 3
  match s.shiftCode n a q, s.ct.lot n with
  | some c, _ => (s, refuse kShiftLot c)
  | none, some l =>
    let s1 := s.shiftLot l a q
    (s1, doneEntry kShiftLot s1)
  | none, none => (s, refuse kShiftLot .noSuchLot)

/-- SHIFT_LOT (R22). -/
def execShiftLot (s : State) : Host.Outcome State Fault Refusal := .next (serve .p kShiftLot shiftLotReply s).takeJob

/-! ### Tanks (R27, R28) -/

/-- The definition of the tank that an octet names, or the refusal (R5, R27). -/
def State.tankAt (s : State) (a : Nat) : Except Code TankDef :=
  if notAddress a then .error .badField
  else
    match s.tables.tank a with
    | some d => .ok d
    | none => .error .badSpace

/-- A density written, the weight recomputed; the serial moves when the density differs (R27). -/
def State.writeDensity (s : State) (a : Nat) (d : TankDef) (v : Int) : State :=
  match s.tank a with
  | some t =>
    let s1 := s.onTank a fun _ => TankLive.derive d { t with density := v }
    if t.density = v then s1 else s1.bump
  | none => s

/-- SET_DENSITY's handling: tank, density. -/
def setDensityReply (p : List Byte) (s : State) : State × Reply :=
  let a := field p 0 1
  match s.tankAt a with
  | .error c => (s, refuse kSetDensity c)
  | .ok d =>
    let v := clamp 6000 20000 (fieldU p 1 2)
    let s1 := s.writeDensity a d v
    (s1, done kSetDensity (.stored s1.ct.serial v))

/-- SET_DENSITY (R27). -/
def execSetDensity (s : State) : Host.Outcome State Fault Refusal :=
  .next (serve .p kSetDensity setDensityReply s).takeJob

/-- SET_MANUAL's handling: tank, sounding. -/
def setManualReply (p : List Byte) (s : State) : State × Reply :=
  let a := field p 0 1
  match s.tankAt a with
  | .error c => (s, refuse kSetManual c)
  | .ok d =>
    let v := clamp 0 d.depth (fieldU p 1 3)
    let s1 := s.setManual a d v
    (s1, done kSetManual (.stored s1.ct.serial v))

/-- SET_MANUAL (R28, R131). -/
def execSetManual (s : State) : Host.Outcome State Fault Refusal :=
  .next (serve .p kSetManual setManualReply s).takeJob

/-- RELEASE_MANUAL's handling: tank. -/
def releaseManualReply (p : List Byte) (s : State) : State × Reply :=
  let a := field p 0 1
  match s.tankAt a with
  | .error c => (s, refuse kReleaseManual c)
  | .ok d =>
    let s1 := s.releaseManual a d
    (s1, doneEntry kReleaseManual s1)

/-- RELEASE_MANUAL (R28, R131). -/
def execReleaseManual (s : State) : Host.Outcome State Fault Refusal :=
  .next (serve .p kReleaseManual releaseManualReply s).takeJob

end Sys2Proof.Machine
end

