-- ==== Sys2Proof/Machine/ReadCmds.lean ====
section
/-!
DEFINITION. The reads of port P (R10, R159, R161 to R165).
-/

namespace Sys2Proof.Machine

/-! ### Item fields (R10) -/

/-- The KIND of an address (R10). -/
def Tables.kindOf (t : Tables) (a : Nat) : Nat :=
  match t.comp a with
  | some ⟨_, _, _, .cargo _⟩ => 1
  | some ⟨_, _, _, .tank _⟩ => 2
  | some ⟨_, _, _, .crane _⟩ => 3
  | some ⟨_, _, _, .constant _⟩ => 4
  | none => 0

/-- The fields 2 to 9 of any defined address: box and span (R7, R10). -/
def Compartment.item (c : Compartment) : Nat → Option Int
  | 2 => some c.box.xAft
  | 3 => some c.box.xFwd
  | 4 => some c.box.yPort
  | 5 => some c.box.yStbd
  | 6 => some c.box.zLow
  | 7 => some c.box.zHigh
  | 8 => some c.first
  | 9 => some c.last
  | _ => none

/-- CAPACITY_STATE as a field (R18). -/
def CapState.num : CapState → Nat
  | .within => 0
  | .over => 1

/-- SOURCE as a field (R10). -/
def Source.num : Source → Nat
  | .none => 0
  | .sensor => 1
  | .held => 2
  | .manual => 3

/-- The fields of a CARGO space (R10, R17, R18). -/
def State.cargoItem (s : State) (a : Nat) (capacity : Int) : Nat → Option Int
  | 10 => some capacity
  | 11 => some (s.ct.total a)
  | 12 => some (s.ct.stow a).length
  | 13 => (lookup s.ct.spaces a).map fun c => Int.ofNat c.num
  | _ => none

/-- The fields of a TANK that its definition gives (R10). -/
def TankDef.item (d : TankDef) : Nat → Option Int
  | 14 => some d.table.length
  | 15 => some d.depth
  | 16 => some d.cx
  | 17 => some d.cy
  | 18 => some (match d.channel with
    | some ch => Int.ofNat ch
    | none => 255)
  | 19 => some d.density
  | 20 => some d.maxInertia
  | _ => none

/-- The live fields of a TANK (R10, R24). -/
def TankLive.item (t : TankLive) : Nat → Option Int
  | 21 => some t.sounding
  | 22 => some t.source.num
  | 23 => some t.density
  | 24 => some t.volume
  | 25 => some t.liqZ
  | 26 => some t.inertia
  | 27 => some t.weight
  | 28 => some (if t.inTransfer then 1 else 0)
  | _ => none

/-- The fields of a CRANE that its definition gives (R10). -/
def CraneDef.item (d : CraneDef) : Nat → Option Int
  | 29 => some d.px
  | 30 => some d.py
  | 31 => some d.weight
  | 32 => some d.boom
  | 33 => some d.outreach
  | 34 => some d.swl
  | _ => none

/-- The current centroid fields of a CRANE or CONSTANT (R10). -/
def Pos.item (q : Pos) : Nat → Option Int
  | 35 => some q.x
  | 36 => some q.y
  | 37 => some q.z
  | _ => none

/-- The default fields of a CONSTANT (R10). -/
def ConstDef.item (d : ConstDef) : Nat → Option Int
  | 38 => some d.weight
  | 39 => some d.pos.x
  | 40 => some d.pos.y
  | 41 => some d.pos.z
  | _ => none

/-- The live weight of a CONSTANT, field 27 (R10, R30). -/
def ConstLive.item (c : ConstLive) : Nat → Option Int
  | 27 => some c.weight
  | f => c.pos.item f

/-- The fields that an address's kind adds (R10). -/
def State.kindItem (s : State) (a : Nat) (b : Body) (f : Nat) : Option Int :=
  match b with
  | .cargo capacity => s.cargoItem a capacity f
  | .tank d => (d.item f).or ((s.tank a).bind fun t => t.item f)
  | .crane d => (d.item f).or (((craneOfNum (a - 111)).bind fun c => s.ct.structs.get c).bind fun q => q.item f)
  | .constant d => (d.item f).or ((lookup s.ct.consts a).bind fun c => c.item f)

/-- The value of a field at an address; none is the absent marker (R10). -/
def State.item (s : State) (a f : Nat) : Option Int :=
  if f = 1 then some (s.tables.kindOf a)
  else
    match s.tables.comp a with
    | some c => (c.item f).or (s.kindItem a c.body f)
    | none => none

/-- The KIND of an address with the value of one field (R10, R161). -/
def State.kindAndItem (s : State) (f a : Nat) : Nat × Option Int := (s.tables.kindOf a, s.item a f)

/-- Whether a field identifier is one of R10's table. -/
def itemField (f : Nat) : Bool := decide (1 ≤ f ∧ f ≤ 41)

/-- The checks that reads by address share (R5, R161, assumption 25). -/
def readCode (a : Nat) (fieldsOk : Bool) : Option Code :=
  match addressCode a with
  | some c => some c
  | none => if fieldsOk then none else some .badField

/-! ### READ_ITEM and READ_RUN (R161) -/

/-- READ_ITEM's handling. -/
def readItemReply (p : List Byte) (s : State) : State × Reply :=
  let a := field p 0 1
  let f := field p 1 1
  match readCode a (itemField f) with
  | some c => (s, refuse kReadItem c)
  | none => (s, .say (.value a f false [s.kindAndItem f a]))

/-- READ_ITEM (R161). -/
def execReadItem (s : State) : Host.Outcome State Fault Refusal := .next (serve .p kReadItem readItemReply s)

/-- The addresses a run covers: it stops at slot 15 of its group (R161). -/
def runAddrs (a count : Nat) : List Nat := (List.range (min count (16 - a % 16))).map (a + ·)

/-- READ_RUN's handling. -/
def readRunReply (p : List Byte) (s : State) : State × Reply :=
  let a := field p 0 1
  let f := field p 1 1
  let count := field p 2 1
  match readCode a (itemField f && decide (1 ≤ count ∧ count ≤ 13)) with
  | some c => (s, refuse kReadRun c)
  | none => (s, .say (.value a f true ((runAddrs a count).map (s.kindAndItem f))))

/-- READ_RUN (R161). -/
def execReadRun (s : State) : Host.Outcome State Fault Refusal := .next (serve .p kReadRun readRunReply s)

/-! ### READ_STOW and READ_LOT (R162, R163) -/

/-- READ_STOW's handling. -/
def readStowReply (p : List Byte) (s : State) : State × Reply :=
  let a := field p 0 1
  let start := field p 1 2
  let count := field p 3 1
  match readCode a (decide (1 ≤ count ∧ count ≤ 8)) with
  | some c => (s, refuse kReadStow c)
  | none =>
    if (s.tables.cargo a).isSome then
      let stow := s.ct.stow a
      (s, .say (.stow a (s.tables.kindOf a) (some (stow.length, s.ct.total a)) start
        (((stow.drop start).take count).map fun l => (l.num, l.weight))))
    else (s, .say (.stow a (s.tables.kindOf a) none start []))

/-- READ_STOW (R162). -/
def execReadStow (s : State) : Host.Outcome State Fault Refusal := .next (serve .p kReadStow readStowReply s)

/-- The HOOKED lift record that holds a lot number (R16, R163). -/
def State.hookOf (s : State) (n : Nat) : Option (Crane × Load) :=
  cranes.findSome? fun c => match s.lift c with
    | .hooked l => if l.lot = n then some (c, l) else none
    | _ => none

/-- Where a lot number is held (R16, R163). -/
def State.lotInfo (s : State) (n : Nat) : Option LotInfo :=
  match s.ct.lot n with
  | some l => some (.stowed l ((s.ct.stow l.loc).findIdx fun e => e.num == n))
  | none =>
    match s.hookOf n with
    | some (c, l) => some (.hooked c l (s.hook c))
    | none => (s.ct.filing.find? fun f => f.num == n).map LotInfo.unfiled

/-- READ_LOT's handling. -/
def readLotReply (p : List Byte) (s : State) : State × Reply :=
  let n := field p 0 2
  if n = 0 then (s, refuse kReadLot .badField)
  else
    match s.lotInfo n with
    | some i => (s, .say (.lotInfo i))
    | none => (s, refuse kReadLot .noSuchLot)

/-- READ_LOT (R163). -/
def execReadLot (s : State) : Host.Outcome State Fault Refusal := .next (serve .p kReadLot readLotReply s)

/-! ### READ_RESULT and READ_STRENGTH (R164, R165) -/

/-- Status and record of the live result (R164). -/
def State.liveStatus (s : State) : ResultStatus × Option Result :=
  match s.sev.live with
  | some r => (.result, some r)
  | none => (.none, none)

/-- Status and record of the trial outcome (R164). -/
def TrialOutcome.status : TrialOutcome → ResultStatus × Option Result
  | .none => (.none, Option.none)
  | .pending => (.pending, Option.none)
  | .result r => (.result, some r)
  | .invalid _ _ => (.invalid, Option.none)

/-- The index of the first inconsistent change of an INVALID outcome (R164). -/
def TrialOutcome.index : TrialOutcome → Option Nat
  | .invalid i _ => some i
  | _ => Option.none

/-- READ_RESULT's handling; selector 0 is LIVE and 1 is TRIAL (assumption 15). -/
def readResultReply (p : List Byte) (s : State) : State × Reply :=
  match field p 0 1 with
  | 0 => (s, .say (.result false s.liveStatus.1 s.liveStatus.2 s.tgt.aftDraught s.tgt.fwdDraught none))
  | 1 => (s, .say (.result true s.csv.outcome.status.1 s.csv.outcome.status.2 none none s.csv.outcome.index))
  | _ => (s, refuse kReadResult .badField)

/-- READ_RESULT (R164). -/
def execReadResult (s : State) : Host.Outcome State Fault Refusal := .next (serve .p kReadResult readResultReply s)

/-- One station's values of a result (R77, R165). -/
def Strength.at (st : Strength) (k : Nat) : StationValues := ⟨nth st.sf k, nth st.bm k, nth st.sfPm k, nth st.bmPm k⟩

/-- The number of stations a READ_STRENGTH holds (R165). -/
def stationsHeld (first count : Nat) : Nat := min count (21 - first)

/-- The STRENGTH reply of a selected result (R165). -/
def strengthReply (trial : Bool) (sel : ResultStatus × Option Result) (first count : Nat) : OutMsg :=
  .strength trial sel.1 (sel.2.map fun r => (r.serial, r.strength.set)) first (stationsHeld first count)
    (match sel.2 with
      | some r => (List.range (stationsHeld first count)).map fun i => r.strength.at (first + i)
      | none => [])

/-- READ_STRENGTH's handling. -/
def readStrengthReply (p : List Byte) (s : State) : State × Reply :=
  let first := field p 1 1
  let count := field p 2 1
  if 20 < first ∨ count < 1 ∨ 3 < count then (s, refuse kReadStrength .badField)
  else
    match field p 0 1 with
    | 0 => (s, .say (strengthReply false s.liveStatus first count))
    | 1 => (s, .say (strengthReply true s.csv.outcome.status first count))
    | _ => (s, refuse kReadStrength .badField)

/-- READ_STRENGTH (R165). -/
def execReadStrength (s : State) : Host.Outcome State Fault Refusal :=
  .next (serve .p kReadStrength readStrengthReply s)

/-! ### READ_ALARMS (R159) -/

/-- Entries with their positions, from a position on. -/
def numbered (i : Nat) : List AlarmEntry → List (Nat × AlarmEntry)
  | [] => []
  | e :: rest => (i, e) :: numbered (i + 1) rest

/-- The ALARMS reply from a start index (R159). -/
def Als.reply (a : Als) (start : Nat) : OutMsg :=
  .alarms a.entries.length a.markAdvisory a.markLimit a.lineA a.lineL a.lineH
    (((numbered 0 a.entries).drop start).take Config.alarmsPerRead)

/-- READ_ALARMS's handling. -/
def readAlarmsReply (p : List Byte) (s : State) : State × Reply :=
  let start := field p 0 1
  if 31 < start then (s, refuse kReadAlarms .badField) else (s, .say (s.als.reply start))

/-- READ_ALARMS (R159). -/
def execReadAlarms (s : State) : Host.Outcome State Fault Refusal := .next (serve .p kReadAlarms readAlarmsReply s)

/-! ### READ_SETTING (R165) -/

/-- A setting of Console Services, by its identifier (R167). -/
def Settings.value (t : Settings) : Nat → Option Nat
  | 1 => some t.reservation
  | 2 => some t.ackWindow
  | 3 => some t.summaryPeriod
  | 4 => some t.silenceWindow
  | 5 => some t.mask.toNat
  | 6 => some t.resolution
  | 7 => some t.sweepPeriod
  | 8 => some t.soundingDeadband
  | 9 => some t.stepLimit
  | 10 => some t.holdLimit
  | 11 => some t.draughtTolerance
  | 12 => some t.draughtLimit
  | 13 => some (match t.strength with
    | .harbour => 0
    | .seagoing => 1)
  | 14 => some t.hookDeadband
  | _ => none

/-- The value of a setting, the pairings from the LCU (R165, R167); none for an identifier outside 1 to 16. -/
def State.settingValue (s : State) : Nat → Option Nat
  | 15 => some (if s.lcu.pairA then 1 else 0)
  | 16 => some (if s.lcu.pairB then 1 else 0)
  | id => s.settings.value id

/-- READ_SETTING's handling. -/
def readSettingReply (p : List Byte) (s : State) : State × Reply :=
  let id := field p 0 1
  match s.settingValue id with
  | some v => (s, .say (.setting id v))
  | none => (s, refuse kReadSetting .badField)

/-- READ_SETTING (R165). -/
def execReadSetting (s : State) : Host.Outcome State Fault Refusal := .next (serve .p kReadSetting readSettingReply s)

end Sys2Proof.Machine
end

