-- ==== Sys2Proof/Machine/ConsoleCmds.lean ====
section
/-!
DEFINITION. Settings, trial, acknowledgement and restart on port P (R105, R158, R167 to R171).
-/

namespace Sys2Proof.Machine

/-! ### SET_SETTING (R34, R105, R124, R167, R168) -/

/-- A numeric setting clamped to its range (R167); the draught limit keeps 0. -/
def clampNat (lo hi v : Nat) : Nat := if v < lo then lo else if hi < v then hi else v

/-- The draught limit as stored (R167). -/
def clampDraught (v : Nat) : Nat := if v = 0 then 0 else clampNat 1000 20000 v

/-- The settings with one of Console Services' own changed, by identifier: numeric values clamped, the mask's low 36
bits taken, the strength set 0 or 1 (R167); none for a refused value or another identifier. -/
def Settings.store (t : Settings) (v : Nat) : Nat → Option Settings
  | 1 => some { t with reservation := clampNat 10 600 v }
  | 2 => some { t with ackWindow := clampNat 5 300 v }
  | 3 => some { t with summaryPeriod := clampNat 2 50 v }
  | 4 => some { t with silenceWindow := clampNat 5 100 v }
  | 5 => some { t with mask := BitVec.ofNat 36 v }
  | 6 => some { t with resolution := clampNat 10 16 v }
  | 7 => some { t with sweepPeriod := clampNat 3 50 v }
  | 8 => some { t with soundingDeadband := clampNat 0 50 v }
  | 9 => some { t with stepLimit := clampNat 20 2000 v }
  | 10 => some { t with holdLimit := clampNat 10 600 v }
  | 11 => some { t with draughtTolerance := clampNat 20 500 v }
  | 12 => some { t with draughtLimit := clampDraught v }
  | 13 => if v = 0 then some { t with strength := .harbour } else if v = 1 then some { t with strength := .seagoing } else none
  | 14 => some { t with hookDeadband := clampNat 10 1000 v }
  | _ => none

/-- The settings replaced, with what the storing brings at once: a serial step for a new strength set or draught limit
(R34), and the stop of a sweep for a mask that becomes empty (R124). -/
def State.storeSettings (s : State) (t : Settings) : State :=
  let s1 := { s with csv.settings := t }
  let s2 := if t.strength = s.settings.strength ∧ t.draughtLimit = s.settings.draughtLimit then s1 else s1.bump
  if t.mask = 0 ∧ s.settings.mask ≠ 0 then s2.stopSweep else s2

/-- The lower crane of the pair that a pairing setting names. -/
def pairOf : Nat → Option Crane
  | 15 => some .k1
  | 16 => some .k3
  | _ => none

/-- The LCU with a pair's pairing set (R105). -/
def Lcu.setPaired (l : Lcu) (c : Crane) (on : Bool) : Lcu :=
  match c with
  | .k1 | .k2 => { l with pairA := on }
  | .k3 | .k4 => { l with pairB := on }

/-- A pairing change by the LCU (R105), or its refusal. -/
def State.setPairing (s : State) (c : Crane) (on : Bool) : Except Code State :=
  if ((s.tables.crane c).isNone || (s.tables.crane (mate c)).isNone) = true then .error .badSpace
  else if s.lcu.paired c = on then .ok s
  else if s.lift c = .idle ∧ s.lift (mate c) = .idle then .ok { s with lcu := s.lcu.setPaired c on }
  else .error .portsBusy

/-- SET_SETTING on one setting: the state after it, or the refusal (R105, R167). -/
def State.applySetting (s : State) (id v : Nat) : Except Code State :=
  match pairOf id with
  | some c => if 1 < v then .error .badField else s.setPairing c (decide (v = 1))
  | none =>
    match s.settings.store v id with
    | some t => .ok (s.storeSettings t)
    | none => .error .badField

/-- SET_SETTING's handling: identifier, value. -/
def setSettingReply (p : List Byte) (s : State) : State × Reply :=
  let id := field p 0 1
  match s.applySetting id (field p 1 5) with
  | .error c => (s, refuse kSetSetting c)
  | .ok s1 => (s1, done kSetSetting (.setting id ((s1.settingValue id).getD 0)))

/-- SET_SETTING (R167, R168). -/
def execSetSetting (s : State) : Host.Outcome State Fault Refusal :=
  .next (serve .p kSetSetting setSettingReply s).takeJob

/-! ### Trial (R169, R170) -/

/-- TRIAL_BEGIN's handling. -/
def trialBeginReply (_ : List Byte) (s : State) : State × Reply :=
  ({ s with csv.trial := [] }, done kTrialBegin .plain)

/-- TRIAL_BEGIN (R169). -/
def execTrialBegin (s : State) : Host.Outcome State Fault Refusal := .next (serve .p kTrialBegin trialBeginReply s)

/-- A trial change that is refused BAD_FIELD unless its fields hold, and then by its address octet (R169). -/
def trialChecked (fields : Bool) (a : Option Nat) (ch : TrialChange) : Except Code TrialChange :=
  if fields = false then .error .badField
  else
    match a.bind addressCode with
    | some c => .error c
    | none => .ok ch

/-- Whether a lot number is 1 to 65,535 (R11). -/
def lotNumber (n : Nat) : Bool := decide (n ≠ 0)

/-- The change that a TRIAL_ADD carries, or its refusal (R169, assumption 15 for the change kinds' values). -/
def trialChangeOf (p : List Byte) : Except Code TrialChange :=
  let n := field p 1 2
  let a := field p 3 1
  match field p 0 1 with
  | 0 =>
    trialChecked (lotNumber n && lotWeight (fieldU p 4 3) && (fieldPos p 7).inFrame) (some a)
      (.addLot n a (fieldU p 4 3) (fieldPos p 7))
  | 1 => trialChecked (lotNumber n) none (.removeLot n)
  | 2 => trialChecked (lotNumber n && (fieldPos p 4).inFrame) (some a) (.shiftLot n a (fieldPos p 4))
  | 3 =>
    trialChecked (within 0 80000 (fieldU p 2 3)) (some (field p 1 1)) (.setSounding (field p 1 1) (fieldU p 2 3))
  | 4 =>
    trialChecked (decide (field p 1 1 ≤ 15) && within 0 60000 (fieldU p 2 3) && (fieldPos p 5).inFrame) none
      (.setConst (field p 1 1) (fieldU p 2 3) (fieldPos p 5))
  | 5 =>
    match craneOfNum (field p 1 1) with
    | some c =>
      trialChecked (lotWeight (fieldU p 2 3) && (fieldPt p 5).inFrame && within 0 80000 (fieldU p 11 3)) none
        (.hang c (fieldU p 2 3) (fieldPt p 5) (fieldU p 11 3))
    | none => .error .badField
  | _ => .error .badField

/-- TRIAL_ADD's handling. -/
def trialAddReply (p : List Byte) (s : State) : State × Reply :=
  if s.csv.trial.length < Config.trialSize then
    match trialChangeOf p with
    | .error c => (s, refuse kTrialAdd c)
    | .ok ch => ({ s with csv.trial := s.csv.trial ++ [ch] }, done kTrialAdd (.count (s.csv.trial.length + 1)))
  else (s, refuse kTrialAdd .trialFull)

/-- TRIAL_ADD (R169). -/
def execTrialAdd (s : State) : Host.Outcome State Fault Refusal := .next (serve .p kTrialAdd trialAddReply s)

/-- TRIAL_RUN's handling. -/
def trialRunReply (_ : List Byte) (s : State) : State × Reply :=
  if s.sev.state = .disabled then (s, refuse kTrialRun .notInService)
  else if s.csv.trialState ≠ .idle then (s, refuse kTrialRun .trialBusy)
  else
    ({ s with csv.trialState := .wanted, csv.outcome := .pending, sev.trialWanted := true },
      done kTrialRun (.count s.csv.trial.length))

/-- TRIAL_RUN (R170). -/
def execTrialRun (s : State) : Host.Outcome State Fault Refusal := .next (serve .p kTrialRun trialRunReply s).takeJob

/-! ### ACK_ALARM (R158) -/

/-- The keys that an acknowledgement names, in list order: every entry for kind code 0, else the entry of the kind and
subject, if any. -/
def Als.named (a : Als) (code subject : Nat) : List AlarmKey :=
  (a.entries.filter fun e => code == 0 || (e.key.kind.code == code && e.key.subject.octet == subject)).map AlarmEntry.key

/-- ACK_ALARM's handling: kind code, subject. Each entry that changes gives one notice, so the notices count them. -/
def ackAlarmReply (p : List Byte) (s : State) : State × Reply :=
  let code := field p 0 1
  if 25 < code then (s, refuse kAckAlarm .badField)
  else
    let r := s.als.ackEach (s.als.named code (field p 1 1))
    (s.alarm r, done kAckAlarm (.count r.2.length))

/-- ACK_ALARM (R158). -/
def execAckAlarm (s : State) : Host.Outcome State Fault Refusal := .next (serve .p kAckAlarm ackAlarmReply s)

/-! ### RESTART (R171) -/

/-- RESTART's handling. -/
def restartReply (_ : List Byte) (s : State) : State × Reply :=
  ({ s with csv.restartPending := true }, done kRestart .plain)

/-- RESTART (R171): the reset it asks for comes with FRAME_SENT or LINK_BREAK. -/
def execRestart (s : State) : Host.Outcome State Fault Refusal := .next (serve .p kRestart restartReply s)

end Sys2Proof.Machine
end

