-- ==== Sys2Proof/Machine/HullData.lean ====
section
/-!
DEFINITION. The page store (R181, R183) and the working tables read from it (R185 steps 1 and 2, R186): the streams of
each page type, the records in them, and every start-up check. The order of the words in a page is assumption 3.
-/

namespace Sys2Proof.Machine

/-! ### Pages (R181) -/

/-- A blank entry: all ones. -/
def blankEntry : Entry := 0xFFFFFFFF#32

/-- The cells of one page. -/
def Store.pageCells (s : Store) (page : Nat) : List (Nat × Entry) :=
  s.cells.filter fun e => e.1 / Config.pageEntries == page

/-- The completion marker of a page's header. -/
def markerOf (header : Entry) : Nat := (header.extractLsb' 0 16).toNat

/-- Whether every free word of a torn page is blank (R181). -/
def tornBlank (id : Nat) : Bool := (List.range Config.pageEntries).all fun i => Config.tornWord id i == blankEntry

/-- A free entry of a torn page, with the two things that TORN says of the page: the marker is not the page's own
number, and the page is not all blank (R181, assumption 4). -/
def tornEntry (page id index : Nat) : Entry :=
  let w := Config.tornWord id index
  if index ≠ 0 then w
  else if markerOf w = page then w ^^^ 1#32
  else if tornBlank id then w ^^^ 0x10000#32
  else w

/-- The stored entry of a page at an index. -/
def Store.entry (s : Store) (page index : Nat) : Entry :=
  match lookup s.torn page with
  | some id => tornEntry page id index
  | none => (lookup s.cells (page * Config.pageEntries + index)).getD blankEntry

/-- The page type in a page's header. -/
def typeOf (header : Entry) : Nat := (header.extractLsb' 16 16).toNat

/-- The state of a page that is not being programmed (R181). -/
def Store.pageState (s : Store) (page : Nat) : PageState :=
  if (lookup s.torn page).isSome then .torn
  else if s.pageCells page = [] then .blank
  else if markerOf (s.entry page 0) = page then .written
  else .torn

/-- A page torn by a reset: what it held is lost, and what it holds is free (R183, assumption 4). -/
def Store.tear (s : Store) (page id : Nat) : Store where
  cells := s.cells.filter fun e => e.1 / Config.pageEntries != page
  torn := insertKey page id (s.torn.filter fun e => e.1 != page)

/-- What the programming operation writes at an index (R182, R183): the loaded value; at index 0 the loaded type with
the page's own number as the marker. -/
def programmed (page : Nat) (loaded : List (Nat × Entry)) (index : Nat) : Entry :=
  let v := (lookup loaded index).getD blankEntry
  if index = 0 then v.extractLsb' 16 16 ++ BitVec.ofNat 16 page else v

/-- The cells that a programming operation leaves on its page; none when nothing is loaded (R183). -/
def programmedCells (page : Nat) (loaded : List (Nat × Entry)) : List (Nat × Entry) :=
  if loaded = [] then []
  else
    ((List.range Config.pageEntries).map fun i => (page * Config.pageEntries + i, programmed page loaded i)).filter
      fun e => e.2 != blankEntry

/-- The store after a page has been programmed (R183). -/
def Store.program (s : Store) (page : Nat) (loaded : List (Nat × Entry)) : Store where
  cells := s.cells.filter (fun e => e.1 / Config.pageEntries < page) ++ programmedCells page loaded
    ++ s.cells.filter fun e => page < e.1 / Config.pageEntries
  torn := s.torn.filter fun e => e.1 != page

/-- The pages that hold cells, in rising order. -/
def Store.pages (s : Store) : List Nat :=
  s.cells.foldr (fun e acc => let p := e.1 / Config.pageEntries
    match acc with
    | q :: _ => if q = p then acc else p :: acc
    | [] => [p]) []

/-- The WRITTEN pages, in rising order. -/
def Store.writtenPages (s : Store) : List Nat := s.pages.filter fun p => s.pageState p == .written

/-- The WRITTEN pages of a type, in rising order (R181). -/
def Store.pagesOf (s : Store) (type : Nat) : List Nat := s.writtenPages.filter fun p => typeOf (s.entry p 0) == type

/-- The TORN pages: those a reset left torn, and those whose cells hold another marker (R181, R183). -/
def Store.tornPages (s : Store) : List Nat := s.torn.map Prod.fst ++ s.pages.filter fun p => s.pageState p == .torn

/-- The number of TORN pages. -/
def Store.tornCount (s : Store) : Nat := s.tornPages.length

/-- Whether the table of a type is torn (R6, R49, R139): a TORN page bears the type in its header (assumption 38). -/
def Store.isTorn (s : Store) (type : Nat) : Bool := s.tornPages.any fun p => typeOf (s.entry p 0) == type

/-- The words of a type: the entries after the headers of its pages, joined in page order, blank entries left out
(R181, assumption 3). -/
def Store.stream (s : Store) (type : Nat) : List Nat :=
  (s.pagesOf type).flatMap fun p =>
    ((s.pageCells p).filter fun e => e.1 % Config.pageEntries != 0).map fun e => e.2.toNat

/-! ### Words and records (assumption 3) -/

/-- The word at an index of a record. -/
def word (l : List Nat) (i : Nat) : Int := Int.ofNat (l.getD i 0)

/-- A signed word: two's complement in the low 24 bits; a wider pattern stands for itself, and fails its range. -/
def signedWord (l : List Nat) (i : Nat) : Int :=
  let v := word l i
  if 8388608 ≤ v ∧ v < 16777216 then v - 16777216 else v

/-- Three words as a position. -/
def posWord (l : List Nat) (i : Nat) : Pos := ⟨word l i, signedWord l (i + 1), word l (i + 2)⟩

/-- The whole records of a length in a stream; words left over are no record (assumption 21). -/
def records (n : Nat) : Nat → List Nat → List (List Nat)
  | 0, _ => []
  | fuel + 1, l => if l.length < n then [] else l.take n :: records n fuel (l.drop n)

/-- The records of one fixed length. -/
def fixedRecords (n : Nat) (l : List Nat) : List (List Nat) := records n l.length l

/-! ### HULL and the limit record (R49, R65, R68, R139, R186) -/

/-- Whether a HULL record passes its check (R186). -/
def Hull.valid (h : Hull) : Bool :=
  within 40000 250000 h.lbp && decide (1 ≤ h.weight) && h.pos.inFrame && (h.segments.all fun v => decide (0 ≤ v)) &&
    decide (sumOf h.segments = h.weight)

/-- The HULL record of a stream, with the stations and midpoints derived at load (R65); none when it fails. It is the
stream's first 25 words, and words beyond the limit record's are ignored (assumption 21). -/
def hullOf (l : List Nat) : Option Hull :=
  if l.length < 25 then none
  else
    let lbp := word l 0
    let h : Hull := ⟨lbp, word l 1, posWord l 2, (List.range 20).map fun i => word l (5 + i), stationsOf lbp,
      midsOf (stationsOf lbp)⟩
    if h.valid then some h else none

/-- Whether a limit record is within its ranges and in order (R139). -/
def LimitRecord.valid (r : LimitRecord) : Bool :=
  within 1 9999 r.stopHeel && within 1 9999 r.liftHeel && within 0 20000 r.gmStop && within 0 20000 r.gmLift &&
    decide (r.liftHeel ≤ r.stopHeel) && decide (r.gmStop ≤ r.gmLift)

/-- The limit record of a HULL stream, its words 25 to 28; none when it is missing, out of range or out of order (R139).
Words beyond them are ignored (assumption 21). -/
def limitsOf (l : List Nat) : Option LimitRecord :=
  if l.length < 29 then none
  else
    let r : LimitRecord := ⟨word l 25, word l 26, word l 27, word l 28⟩
    if r.valid then some r else none

/-! ### HYDRO (R60, R69, R186) -/

/-- One hydrostatic row. -/
def hydroRowOf (l : List Nat) : HydroRow where
  disp := word l 0
  t := signedWord l 1
  km := word l 2
  lcb := word l 3
  lcf := word l 4
  mct := word l 5
  shares := (List.range 20).map fun i => word l (6 + i)

/-- Whether displacements are strictly increasing (R60). -/
def risingRows : List HydroRow → Bool
  | a :: b :: rest => decide (a.disp < b.disp) && risingRows (b :: rest)
  | _ => true

/-- Whether a row passes its own checks (R69, R186). -/
def HydroRow.valid (r : HydroRow) : Bool :=
  decide (0 < r.mct) && (r.shares.all fun v => within 0 1000 v) && decide (sumOf r.shares = 1000)

/-- The hydrostatic table of a stream; none when it fails. -/
def hydroOf (l : List Nat) : Option (List HydroRow) :=
  let rows := (fixedRecords 26 l).map hydroRowOf
  if 2 ≤ rows.length ∧ rows.length ≤ 40 ∧ risingRows rows = true ∧ (rows.all HydroRow.valid) = true then some rows
  else none

/-! ### STRENGTH (R73, R186) -/

/-- Whether a station's allowables are in range (R73). -/
def Allowable.valid (a : Allowable) : Bool := within 1 600000 a.sf && within 1 15000000 a.hog && within 1 15000000 a.sag

/-- One set of 21 stations, from a word on. -/
def allowablesFrom (l : List Nat) (i : Nat) : List Allowable :=
  (List.range 21).map fun k => ⟨word l (i + 3 * k), word l (i + 3 * k + 1), word l (i + 3 * k + 2)⟩

/-- The strength limit table of a stream, its first 126 words; none when it fails (R73). Words beyond them are ignored
(assumption 21). -/
def strengthTableOf (l : List Nat) : Option StrengthTable :=
  if l.length < 126 then none
  else
    let t : StrengthTable := ⟨allowablesFrom l 0, allowablesFrom l 63⟩
    if (t.harbour.all Allowable.valid && t.seagoing.all Allowable.valid) = true then some t else none

/-! ### Compartments and tank tables (R6 to R9) -/

/-- Whether a box is well formed and in the frame (R7). -/
def Box.valid (b : Box) : Bool :=
  decide (b.xAft ≤ b.xFwd) && decide (b.yPort ≤ b.yStbd) && decide (b.zLow ≤ b.zHigh) && frameX b.xAft && frameX b.xFwd &&
    frameY b.yPort && frameY b.yStbd && frameZ b.zLow && frameZ b.zHigh

/-- Whether a kind may stand at an address (R6). -/
def Body.fits : Body → Nat → Bool
  | .cargo _, a => decide (a < 80)
  | .tank _, a => decide (80 ≤ a ∧ a < 112)
  | .crane _, a => decide (112 ≤ a ∧ a < 116)
  | .constant _, a => decide (116 ≤ a ∧ a < 128)

/-- The tank tables of a stream: number, point count, points (assumption 3). -/
def tankTables : Nat → List Nat → List (Nat × List TankPoint)
  | 0, _ => []
  | fuel + 1, num :: n :: rest =>
    if rest.length < 4 * n then []
    else
      (num, (fixedRecords 4 (rest.take (4 * n))).map fun r => ⟨word r 0, word r 1, word r 2, word r 3⟩)
        :: tankTables fuel (rest.drop (4 * n))
  | _ + 1, _ => []

/-- Whether soundings are strictly increasing (R8). -/
def risingPoints : List TankPoint → Bool
  | a :: b :: rest => decide (a.sounding < b.sounding) && risingPoints (b :: rest)
  | _ => true

/-- Whether a point of a tank table is in range (R8). -/
def TankPoint.valid (b : Box) (p : TankPoint) : Bool :=
  within 0 80000 p.sounding && within 0 200000 p.volume && within b.zLow b.zHigh p.liqZ && within 0 65535 p.inertia

/-- The largest inertia of a table's points (R8). -/
def maxInertiaOf (l : List TankPoint) : Int := l.foldl (fun m p => max m p.inertia) 0

/-- The sounding of a table's last point (R8). -/
def depthOf (l : List TankPoint) : Int := match l.getLast? with
  | some p => p.sounding
  | none => 0

/-- Whether a tank's own fields pass (R8). -/
def TankDef.valid (b : Box) (d : TankDef) : Bool :=
  decide (2 ≤ d.table.length ∧ d.table.length ≤ 24) && (d.table.all (TankPoint.valid b)) && risingPoints d.table &&
    within b.xAft b.xFwd d.cx && within b.yPort b.yStbd d.cy && within 6000 20000 d.density &&
    (match d.channel with
      | some ch => decide (ch ≤ 31)
      | none => true)

/-- Whether a crane's own fields pass, its reach in the frame among them (R9). -/
def CraneDef.valid (d : CraneDef) : Bool :=
  frameX d.px && frameY d.py && within 1 60000 d.weight && frameZ d.z && within 0 1000 d.boom &&
    within 1000 60000 d.outreach && within 1 20000 d.swl && decide (0 ≤ d.px - d.outreach) &&
    decide (d.px + d.outreach ≤ 250000) && decide (mag d.py + d.outreach ≤ 25000)

/-- Whether the fields of an entry's kind pass (R7 to R9). -/
def Body.valid (b : Box) : Body → Bool
  | .cargo capacity => within 1 60000 capacity
  | .tank d => d.valid b
  | .crane d => d.valid
  | .constant d => within 0 60000 d.weight && b.holds d.pos

/-- What an entry adds by its kind, from its words; none for a kind that is none of the four, or a tank whose table is
not stored. A TANK entry names its table by the table's number, and of two tables under one number the first in stream
order counts, whether or not its points pass (assumption 21). A tank's channel word of 255 names no channel (assumption
3). -/
def bodyOf (tables : List (Nat × List TankPoint)) (l : List Nat) : Option Body :=
  match l.getD 1 0 with
  | 1 => some (.cargo (word l 10))
  | 2 =>
    match lookup tables (l.getD 10 0) with
    | some pts =>
      some (.tank ⟨pts, word l 11, signedWord l 12, if l.getD 13 0 = 255 then none else some (l.getD 13 0), word l 14,
        maxInertiaOf pts, depthOf pts⟩)
    | none => none
  | 3 => some (.crane ⟨word l 10, signedWord l 11, word l 12, word l 13, word l 14, word l 15, word l 16⟩)
  | 4 => some (.constant ⟨word l 10, posWord l 11⟩)
  | _ => none

/-- A compartment entry that passes its checks, with its address (R6 to R9); none when it fails. -/
def compartmentOf (tables : List (Nat × List TankPoint)) (l : List Nat) : Option (Nat × Compartment) :=
  match bodyOf tables l with
  | some body =>
    let box : Box := ⟨word l 2, word l 3, signedWord l 4, signedWord l 5, word l 6, word l 7⟩
    let first := l.getD 8 0
    let last := l.getD 9 0
    if (box.valid && decide (first ≤ last ∧ last ≤ 19) && body.fits (l.getD 0 0) && body.valid box) = true then
      some (l.getD 0 0, ⟨box, first, last, body⟩)
    else none
  | none => none

/-- An entry joined to the entries kept, addresses rising; of two for one address the first stands (assumption 21). -/
def keepFirst {α : Type} (acc : List (Nat × α)) (e : Nat × α) : List (Nat × α) :=
  if (lookup acc e.1).isSome then acc else insertKey e.1 e.2 acc

/-- The channel that an entry names. -/
def Compartment.channel (c : Compartment) : Option Nat :=
  match c.body with
  | .tank d => d.channel
  | _ => none

/-- The entries without the tanks whose channel a tank of lower address names (R8); the entries are in rising order. -/
def oneTankPerChannel : List Nat → List (Nat × Compartment) → List (Nat × Compartment)
  | _, [] => []
  | seen, e :: rest =>
    match e.2.channel with
    | some ch => if ch ∈ seen then oneTankPerChannel seen rest else e :: oneTankPerChannel (ch :: seen) rest
    | none => e :: oneTankPerChannel seen rest

/-! ### Calibrations (R121) -/

/-- The ranges of a calibration's full-scale reading (R121). -/
def rangeValid (ch : Nat) (v : Int) : Bool := if ch < 32 then within 100 80000 v else within 1000 30000 v

/-- Whether a calibration record passes (R121, assumption 34). -/
def Calibration.valid (ch : Nat) (c : Calibration) : Bool :=
  decide (ch ≤ 35) && within 0 65535 c.zero && within 1 65535 c.span && rangeValid ch c.range && within 0 65535 c.low &&
    within 0 65535 c.high && decide (c.zero < c.span) && decide (c.low ≤ c.high)

/-- A calibration record that passes, with its channel. -/
def calibrationOf (l : List Nat) : Option (Nat × Calibration) :=
  let c : Calibration := ⟨word l 1, word l 2, word l 3, word l 4, word l 5⟩
  if c.valid (l.getD 0 0) = true then some (l.getD 0 0, c) else none

/-! ### Test conditions (R57, R186) -/

/-- Whether a test item's position and span are valid (R57, R186, assumption 22). -/
def TestItem.valid (it : TestItem) : Bool :=
  it.pos.inFrame && (match it.span with
    | some (f, l) => decide (f ≤ l ∧ l ≤ 19)
    | none => true)

/-- One test item; 255 in place of the first segment is the mark "point". -/
def testItemOf (l : List Nat) : TestItem :=
  ⟨word l 0, posWord l 1, if l.getD 4 0 = 255 then none else some (l.getD 4 0, l.getD 5 0)⟩

/-- The expected figures (R186). -/
def expectedOf (l : List Nat) : Expected where
  disp := word l 0
  kg := word l 1
  gmf := signedWord l 2
  trim := signedWord l 3
  ta := signedWord l 4
  tf := signedWord l 5
  sfPm := word l 6
  bmPm := word l 7
  sfStation := l.getD 8 0
  bmStation := l.getD 9 0

/-- The test conditions of a stream: item count, ΣFSM in two words, the items, the expected figures (assumption 3). -/
def testsOf : Nat → List Nat → List TestCondition
  | 0, _ => []
  | fuel + 1, n :: hi :: lo :: rest =>
    if rest.length < 6 * n + 10 then []
    else
      let items := (fixedRecords 6 (rest.take (6 * n))).map testItemOf
      { items := items, fsm := Int.ofNat (hi * 16777216 + lo), expected := expectedOf (rest.drop (6 * n))
        runnable := decide (1 ≤ n ∧ n ≤ 48) && items.all TestItem.valid }
        :: testsOf fuel (rest.drop (6 * n + 10))
  | _ + 1, _ => []

/-! ### The load (R185 steps 1 and 2, R186) -/

/-- What the load and the checks give: the working tables, whether STORE_FAULT is raised, and the page counts. -/
structure Loaded where
  tables : Tables
  fault : Bool
  written : Nat
  torn : Nat
  deriving DecidableEq, Repr

/-- The compartment entries of the store, those that passed in rising order, with whether one failed; none when the
compartment table is torn (R6). A failing entry is left out before the first for its address is kept (assumption 21). -/
def Store.compartments (s : Store) : List (Nat × Compartment) × Bool :=
  let tankStream := s.stream 5
  let tables := tankTables tankStream.length tankStream
  let parsed := (fixedRecords 17 (s.stream 4)).map (compartmentOf tables)
  let kept := (parsed.filterMap id).foldl keepFirst []
  let final := oneTankPerChannel [] kept
  (if s.isTorn 4 then [] else final, (parsed.any Option.isNone) || decide (final.length ≠ kept.length))

/-- The calibrations of the store, with whether one failed. A failing record is left out before the first for its
channel is kept (assumption 21). -/
def Store.calibrations (s : Store) : List (Nat × Calibration) × Bool :=
  let parsed := (fixedRecords 6 (s.stream 6)).map calibrationOf
  ((parsed.filterMap id).foldl keepFirst [], parsed.any Option.isNone)

/-- Whether a page type is one of the seven (R181). -/
def knownType (t : Nat) : Bool := decide (1 ≤ t ∧ t ≤ 7)

/-- A table that passed its check, unless it is torn (R49, R139). -/
def Store.whole {α : Type} (s : Store) (type : Nat) (table : Option α) : Option α := if s.isTorn type then none else table

/-- Start-up steps 1 and 2 (R49, R139, R185, R186). -/
def Store.load (s : Store) : Loaded :=
  let hull := s.whole 1 (hullOf (s.stream 1))
  let limits := s.whole 1 (limitsOf (s.stream 1))
  let hydro := s.whole 2 (hydroOf (s.stream 2))
  let strength := s.whole 3 (strengthTableOf (s.stream 3))
  let comps := s.compartments
  let calib := s.calibrations
  let testStream := s.stream 7
  let tests := testsOf testStream.length testStream
  { tables := ⟨hull, hydro, strength, limits, comps.1, calib.1, tests⟩
    fault := decide (0 < s.tornCount) || (s.writtenPages.any fun p => !knownType (typeOf (s.entry p 0)))
      || hull.isNone || limits.isNone || hydro.isNone || strength.isNone
      || decide (s.pagesOf 4 = []) || comps.2 || calib.2 || tests.any fun t => !t.runnable
    written := s.writtenPages.length
    torn := s.tornCount }

end Sys2Proof.Machine
end

