-- ==== Sys2Proof/Machine/Startup.lean ====
section
/-!
DEFINITION. Resets and the start-up (R180, R183 to R187): what every block takes at a reset (R12, R38, R78, R105, R120,
R138, R150, R160, R177, R182), the load and check, retention (R35, R36, R78, R115, R119), the start-up sweep (R137),
the test conditions (R48, R186), the first LIVE job, and the mode entry.
-/

namespace Sys2Proof.Machine

/-! ### Every reset -/

/-- What a lift record is after a LINE or RESTART reset (R78): HOOKED and LANDED_UNFILED are kept. -/
def LiftRec.afterReset : LiftRec → LiftRec
  | .hooked l => .hooked l
  | .unfiled n w => .unfiled n w
  | _ => .idle

/-- The lift records after a LINE or RESTART reset (R78). -/
def keepLifts (r : PerCrane LiftRec) : PerCrane LiftRec :=
  ⟨r.k1.afterReset, r.k2.afterReset, r.k3.afterReset, r.k4.afterReset⟩

/-- The store after a reset: a page being programmed is torn (R183). -/
def Hds.storeAfterReset (h : Hds) : Store :=
  match h.prog with
  | some (page, _) => h.store.tear page h.freeId
  | none => h.store

/-- The model's own counter after a reset: moved on when a page was torn (assumption 4). -/
def Hds.freeIdAfterReset (h : Hds) : Nat := if h.prog.isSome then h.freeId + 1 else h.freeId

/-- The Hull Data Store at a reset: the mode is STARTING, the buffer is empty, programming stops, and no condition of
R180 stands (R180, R182, R183). -/
def Hds.resetState (h : Hds) : Hds :=
  { h with
    store := h.storeAfterReset
    freeId := h.freeIdAfterReset
    buffer := ⟨0, []⟩
    prog := none
    mode := .starting
    stage := .entered
    storeFault := false
    testFail := false
    verdicts := []
    kept := 0
    dropped := 0 }

/-- The Lift Control Unit at a LINE or RESTART reset (R12, R78, R85, R105). -/
def Lcu.resetState (l : Lcu) : Lcu :=
  { l with recs := keepLifts l.recs, queue := [], inHand := none, counter := 1, pairA := false, pairB := false }

/-- The links at a reset, timers stopped (R175, R177). -/
def Sli.initial : Sli := ⟨⟨.initial, .initial, .initial, .initial, .initial, .initial⟩, none⟩

/-- Every block at its after-reset state, every timer stopped (R4, R38, R50, R78, R120, R138, R150, R160, R177, R184).
The Condition Table is left for the start-up's retention (R35, R36). -/
def State.blocksReset (s : State) : State :=
  { s with
    sli := .initial
    sev := .initial
    lcu := s.lcu.resetState
    tgt := .initial
    lmn := .initial
    als := .initial
    csv := .initial
    hds := s.hds.resetState }

/-! ### Steps 1 and 2: load and check (R185, R186) -/

/-- The default channel mask: every calibrated channel (R137, R167). -/
def defaultMask (calib : List (Nat × Calibration)) : Mask :=
  calib.foldl (fun m e => m ||| (1#36 <<< e.1)) 0

/-- STORE_FAULT raised (R180). -/
def State.raiseStoreFault (s : State) : State :=
  { s with hds.storeFault := true }.raise ⟨.storeFault, .none⟩

/-- Steps 1 and 2: the working tables taken from the pages, the evaluator DISABLED when its tables are not usable
(R49), and the alarms of the load (R185, R186, assumption 27), STORE_FAULT first (assumption 41). -/
def State.loadTables (s : State) : State :=
  let l := s.hds.store.load
  let s1 := { s with
    hds.tables := l.tables
    hds.written := l.written
    hds.torn := l.torn
    csv.settings.mask := defaultMask l.tables.calib
    sev.state := if l.tables.usable then .idle else .disabled }
  let s2 := if l.fault then s1.raiseStoreFault else s1
  if l.tables.tests = [] then s2.raise ⟨.noTestCondition, .none⟩ else s2

/-! ### Step 3: retention (R35, R36, R115, R119) -/

/-- The structures at their pedestals (R31). -/
def pedestalStructs (t : Tables) : PerCrane (Option Pos) :=
  let f (c : Crane) : Option Pos := (t.crane c).map fun d => ⟨d.px, d.py, d.z⟩
  ⟨f .k1, f .k2, f .k3, f .k4⟩

/-- The hooks at their pedestals with height 0, REPORTED (R115). -/
def pedestalHooks (t : Tables) : PerCrane Hook :=
  let f (c : Crane) : Hook := match t.crane c with
    | some d => ⟨d.px, d.py, 0, .reported⟩
    | none => .initial
  ⟨f .k1, f .k2, f .k3, f .k4⟩

/-- Every defined space WITHIN (R35). -/
def spacesWithin (t : Tables) : List (Nat × CapState) := t.cargoAddrs.map fun a => (a, .within)

/-- The Condition Table after a POWER_ON reset (R35). -/
def powerOnTable (t : Tables) : CondTable where
  lots := []
  filing := []
  spaces := spacesWithin t
  tanks := t.comps.filterMap fun e => (t.tank e.1).map fun d => (e.1, d.empty)
  consts := t.comps.filterMap fun e => (t.const e.1).map fun d => (e.1, ⟨d.2.weight, d.2.pos⟩)
  structs := pedestalStructs t
  serial := 0

/-- A tank kept across a LINE or RESTART reset (R36). -/
def TankLive.kept (d : TankDef) (t : TankLive) : TankLive :=
  TankLive.derive d { t with
    sounding := if t.source = .manual then min t.sounding d.depth else t.sounding
    source := match t.source with
      | .sensor | .held => .held
      | .manual => .manual
      | .none => .none
    inTransfer := false }

/-- A constant kept across a LINE or RESTART reset (R36). -/
def ConstLive.kept (b : Box) (d : ConstDef) : Option ConstLive → ConstLive
  | some c => if b.holds c.pos then c else ⟨d.weight, d.pos⟩
  | none => ⟨d.weight, d.pos⟩

/-- A kept lot's position clamped into its space's new box (R36). -/
def Lot.refit (t : Tables) (l : Lot) : Lot :=
  match t.cargo l.loc with
  | some (b, _) => { l with pos := b.clampPos l.pos }
  | none => l

/-- A kept filing list entry's position clamped into its destination's new box: R15 asks it of the record the load is
filed into (R15, R20, R36, assumption 40). -/
def Filing.refit (t : Tables) (f : Filing) : Filing :=
  match t.cargo f.dest with
  | some (b, _) => { f with pos := b.clampPos f.pos }
  | none => f

/-- The table's live fields checked against the definitions just loaded (R36); the drops' serial steps are counted
by the caller. -/
def keptTable (t : Tables) (ct : CondTable) : CondTable where
  lots := (ct.lots.filter fun l => (t.cargo l.loc).isSome).map (Lot.refit t)
  filing := (ct.filing.filter fun f => (t.cargo f.dest).isSome).map (Filing.refit t)
  spaces := spacesWithin t
  tanks := t.comps.filterMap fun e => (t.tank e.1).map fun d =>
    (e.1, match lookup ct.tanks e.1 with
      | some live => live.kept d
      | none => d.empty)
  consts := t.comps.filterMap fun e => (t.const e.1).map fun d => (e.1, ConstLive.kept d.1 d.2 (lookup ct.consts e.1))
  structs := pedestalStructs t
  serial := ct.serial

/-- The serial moved on by a number of operations (R33). -/
def State.bumpBy (s : State) (n : Nat) : State := { s with ct.serial := s.ct.serial + BitVec.ofNat 16 n }

/-- The lift record of a dropped filing list entry goes to IDLE (R36, R78). -/
def State.dropUnfiled (s : State) (f : Filing) : State :=
  if (s.tables.cargo f.dest).isSome then s else s.setLift f.crane .idle

/-- The Condition Table's part of a LINE or RESTART retention (R36): drops, each one operation; filings into freed
records; spaces judged afresh, by rising address (assumption 41). -/
def State.retainTable (s : State) : State :=
  let kept := keptTable s.tables s.ct
  let drops := (s.ct.lots.length - kept.lots.length) + (s.ct.filing.length - kept.filing.length)
  let s1 := s.ct.filing.foldl State.dropUnfiled s
  let s2 := ({ s1 with ct := kept, hds.dropped := drops }.bumpBy drops)
  let s3 := State.fileWaiting 4 s2
  s3.tables.cargoAddrs.foldl State.judgeSpace s3

/-- Whether a retained HOOKED record's cranes are defined (R119). -/
def State.cranesDefined (s : State) (c : Crane) (l : Load) : Bool :=
  (s.tables.crane c).isSome && (!l.tandem.isSome || (s.tables.crane (mate c)).isSome)

/-- A retained HOOKED record dropped when a crane of it is undefined, as one operation (R119). -/
def State.dropHooked (s : State) (c : Crane) : State :=
  match s.lift c with
  | .hooked l =>
    if s.cranesDefined c l then s else { s.setLift c .idle with hds.dropped := s.hds.dropped + 1 }.bump
  | _ => s

/-- A pair's pairing turned on. -/
def Lcu.pairOn (l : Lcu) : Crane → Lcu
  | .k1 | .k2 => { l with pairA := true }
  | .k3 | .k4 => { l with pairB := true }

/-- A retained HOOKED record's hook goes UNKNOWN, the held position kept as it was before the reset (R116, R119). -/
def State.retainHook (s : State) (before : PerCrane Hook) (c : Crane) : State :=
  (s.setHook c { before.get c with source := .unknown }).raise ⟨.positionUnknown, .crane c⟩

/-- R119's steps 1 to 3 for one crane, with the alarm of an unpermitted lift (R78). -/
def State.retainHooked (before : PerCrane Hook) (s : State) (c : Crane) : State :=
  match s.lift c with
  | .hooked l =>
    let s1 := if l.unpermitted then s.raise ⟨.unpermittedLift, .crane c⟩ else s
    let s2 := s1.retainHook before c
    if l.tandem.isSome then
      ({ s2 with lcu := s2.lcu.pairOn c }.setLift (mate c) (.partner l.lot c)).retainHook before (mate c)
    else s2
  | _ => s

/-- LANDED_UNFILED raised again for a retained record (R78). -/
def State.retainUnfiled (s : State) (c : Crane) : State :=
  match s.lift c with
  | .unfiled _ _ => s.raise ⟨.landedUnfiled, .crane c⟩
  | _ => s

/-- R119's step 4 for one crane: its structure moved to the worst point, as one hook operation. -/
def State.retainStructure (s : State) (c : Crane) : State :=
  if (s.lift c).holdsLoad then (s.structureToWorst c).bump else s

/-- The LCU's part of a LINE or RESTART retention (R78, R115, R119). The order in which its alarms are raised again is
assumption 20. -/
def State.retainLifts (s : State) : State :=
  let before := s.lcu.hooks
  let s1 := cranes.foldl State.dropHooked { s with lcu.hooks := pedestalHooks s.tables }
  let s2 := cranes.foldl (State.retainHooked before) s1
  let s3 := cranes.foldl State.retainUnfiled s2
  cranes.foldl State.retainStructure s3

/-- Step 3 (R185): the Condition Table and the lift records by the cause of the reset. -/
def State.retain (s : State) : State :=
  match s.hds.cause with
  | .powerOn =>
    { s with ct := powerOnTable s.tables, lcu := { Lcu.initial with hooks := pedestalHooks s.tables } }
  | .line | .restart =>
    let s1 := s.retainTable.retainLifts
    { s1 with hds.kept := s1.ct.lots.length + s1.ct.filing.length }

/-! ### Steps 7 and 8: the mode and the report (R180, R185, R187) -/

/-- The mode that a start-up enters (R180). -/
def Hds.nextMode (h : Hds) : Mode :=
  if h.strap then .commissioning else if h.storeFault || h.testFail then .degraded else .service

/-- START_REPORT (R187). -/
def State.report (s : State) : StartReport where
  cause := s.hds.cause
  mode := s.hds.mode
  strap := s.hds.strap
  usable := decide (s.sev.state ≠ .disabled)
  storeFault := s.hds.storeFault
  written := s.hds.written
  torn := s.hds.torn
  tests := s.hds.verdicts
  kept := s.hds.kept
  dropped := s.hds.dropped
  free := s.ct.free

/-- A hold timer started for a tank in HELD at the mode entry (R130). -/
def State.holdIfHeld (s : State) (a : Nat) : State :=
  match s.tank a with
  | some t => if t.source = .held then s.startHold a else s
  | none => s

/-- Steps 7 and 8: the mode entry with the elapsed-seconds count (R4), the sweep timer (R122), the hold timers (R130)
and START_REPORT; then the evaluator begins choosing (R41). -/
def State.modeEntry (s : State) : State :=
  let s1 := { s with
    hds.mode := s.hds.nextMode
    hds.stage := .entered
    elapsed := some (s.elapsed.getD s.now)
    tgt.timer := some (s.now + s.settings.sweepPeriod * 100) }
  let s2 := s1.tables.tankAddrs.foldl State.holdIfHeld s1
  (s2.offer .p (.startReport s2.report)).takeJob

/-! ### Steps 4 to 6: sweep, tests, first evaluation (R48, R137, R185) -/

/-- The next stored test condition handed to the evaluator, or the LIVE job after the last (R48, R185); a condition
that failed its check is not run (R186). -/
def State.nextTest : List TestCondition → State → State
  | [], s => { s with hds.stage := .firstLive }.takeLive
  | tc :: rest, s =>
    if tc.runnable then { s with hds.stage := .tests rest }.takeTest tc
    else State.nextTest rest { s with hds.verdicts := s.hds.verdicts ++ [.notRun] }

/-- The test conditions of the working tables that are run: the first four (R181, R186). -/
def Tables.firstTests (t : Tables) : List TestCondition := t.tests.take 4

/-- The end of the start-up sweep (R137), and the step after it: the first test condition or the LIVE job, or the mode
entry when the evaluator is DISABLED (R185). -/
def State.startUpSwept (s : State) : State :=
  let s1 := { s with tgt.firstSweep := true }.judgeSensors
  if s1.sev.state = .disabled then
    { s1 with hds.verdicts := s1.tables.firstTests.map fun _ => .notRun }.modeEntry
  else State.nextTest s1.tables.firstTests s1

/-- The start-up sweep (R137); with no channel to convert it ends at once. -/
def State.startUpSweep (s : State) : State :=
  let s1 := { s with hds.stage := .sweep }.startSweep
  if s1.tgt.sweep = .idle then s1.startUpSwept else s1

/-! ### The end of a reset (R184) -/

/-- The links when a reset ends: every silence timer and the summary timer started (R176, R177). -/
def Sli.started (now : Nat) (set : Settings) : Sli :=
  let l : Link := { Link.initial with silence := some (now + set.silenceWindow * 100) }
  ⟨⟨l, l, l, l, l, l⟩, some (now + set.summaryPeriod * 100)⟩

/-- A reset ends and the start-up begins (R184): every block at its after-reset state, the strap sampled, the cause
recorded; steps 1 to 4 follow (R185). -/
def State.startUp (s : State) (cause : Cause) (strap : Bool) : State :=
  let s1 := s.blocksReset
  (({ s1 with
      phase := .running
      sli := Sli.started s1.now s1.settings
      hds.cause := cause
      hds.strap := strap }.loadTables).retain).startUpSweep

/-- The POWER_ON reset: the time base starts at 0 and the elapsed-seconds count is held at 0 (R4, R184). -/
def State.powerOnReset (s : State) (strap : Bool) : State :=
  { s with now := 0, elapsed := none }.startUp .powerOn strap

end Sys2Proof.Machine
end

