-- ==== Sys2Proof/Machine/GaugeCmds.lean ====
section
/-!
DEFINITION. The sweep timer, the converter and the hold timers (R122 to R132, R137).
-/

namespace Sys2Proof.Machine

/-- What the sweep timer's expiry starts: nothing while the mask is empty or a sweep is RUNNING (R122). -/
def State.sweepDue (s : State) : State :=
  if s.settings.mask = 0 then s else if s.tgt.sweep = .idle then s.startSweep else s

/-- SWEEP_TIMER_EXPIRY (R122). -/
def execSweepTimerExpiry (s : State) : Host.Outcome State Fault Refusal :=
  .next (match s.tgt.timer with
    | some deadline =>
      let s1 := s.reach deadline
      { s1 with tgt.timer := some (s1.now + s1.settings.sweepPeriod * 100) }.sweepDue
    | none => s)

/-- Whether the sweep that has just ended is the start-up's own (R137). -/
def State.startUpSweepEnded (s : State) : Bool :=
  decide (s.tgt.sweep = .idle) && decide (s.hds.mode = .starting) && decide (s.hds.stage = .sweep)

/-- A conversion's end: the count is handled, the sweep goes on or ends, and the start-up goes on when its own sweep
ends (R123, R125, R137). -/
def State.converted (s : State) (ch count resolution : Nat) (rest : List Nat) : State :=
  let s1 := (s.convert ch count resolution).sweepOn rest resolution
  if s1.startUpSweepEnded then s1.startUpSwept else s1.takeJob

/-- CONVERSION_END (R125). -/
def execConversionEnd (count : Nat) (s : State) : Host.Outcome State Fault Refusal :=
  .next (match s.tgt.sweep with
    | .running (ch :: rest) resolution ends => (s.reach ends).converted ch count resolution rest
    | _ => s)

/-- HOLD_TIMER_EXPIRY (R130). -/
def execHoldTimerExpiry (tank : Nat) (s : State) : Host.Outcome State Fault Refusal :=
  .next (match (s.tgt.gauge tank).hold with
    | some deadline =>
      ((s.reach deadline).onGauge tank fun g => { g with hold := none }).raise ⟨.sensorLost, .addr tank⟩
    | none => s)

end Sys2Proof.Machine
end

