-- ==== Sys2Proof/Machine/JobCmds.lean ====
section
/-!
DEFINITION. The completion of the four kinds of job (R45 to R48, R86 to R91, R140, R170, R186).
-/

namespace Sys2Proof.Machine

/-- The job that the evaluator runs, if it is of a kind (R38). -/
def Sev.running (e : Sev) (k : JobKind) : Option Image :=
  match e.state with
  | .busy img => if img.kind = k then some img else none
  | _ => none

/-! ### PERMIT (R45, R86 to R91) -/

/-- The results of a PERMIT job, in candidate order (R43, R45). -/
def permitResults (t : Tables) (img : Image) (c : Crane) (r : Request) : List Result :=
  (List.range r.cands.length).filterMap fun i => permitPass t img c r (i + 1)

/-- What a PERMIT job is judged against (R45, R86). -/
def State.permitLimits (s : State) (img : Image) (r : Request) : PermitLimits where
  limits := s.tables.limits
  draught := s.settings.draughtLimit
  space := match r.dest with
    | .quay => none
    | .space a => (s.tables.cargo a).map fun e => ((img.permitBase r).load a + r.weight, e.2)

/-- The judgement of a PERMIT job's results: grant or refusal (R86 to R88). -/
def State.judgePermit (s : State) (img : Image) (c : Crane) (r : Request) : State :=
  let results := permitResults s.tables img c r
  let p := s.permitLimits img r
  match p.failure results with
  | some f => s.refusePermit c p f
  | none => s.grant c r (reservedIndex results) img.serial

/-- The outcome of a PERMIT job: discarded, stale, or judged (R45, R90, R91). -/
def State.permitOutcome (s : State) (img : Image) (c : Crane) : State :=
  if s.lcu.inHand = some (c, false) then
    match s.lift c with
    | .pending r attempts => if img.serial = s.ct.serial then s.judgePermit img c r else s.stale c r attempts
    | _ => s
  else s

/-- The evaluation in hand set to none (R90, R91). -/
def State.handOff (s : State) : State := { s with lcu.inHand := none }

/-- PERMIT_JOB_COMPLETE (R45). -/
def execPermitJobComplete (s : State) : Host.Outcome State Fault Refusal :=
  .next (match s.sev.running .permit with
    | some img =>
      let s1 := match img.crane with
        | some c => s.permitOutcome img c
        | none => s
      (s1.handOff.jobDone .permit).takeJob
    | none => s)

/-! ### LIVE (R46, R140) -/

/-- The live result of an image (R39, R52). -/
def liveResult (t : Tables) (img : Image) : Option Result := passOver t img 0 img.live

/-- A live result installed, judged for HYDRO_RANGE and handed to the LMN (R46), in that order (assumption 41). -/
def State.installLive (s : State) (r : Result) : State :=
  ({ s with sev.live := some r }.judge ⟨.hydroRange, .none⟩ (r.flags.hydroLow || r.flags.hydroHigh)).judgeLive r

/-- After a LIVE job: the mode entry at the end of a start-up, else the next choice (R42, R185). -/
def State.afterLive (s : State) : State := if s.hds.mode = .starting then s.modeEntry else s.takeJob

/-- LIVE_JOB_COMPLETE (R46). -/
def execLiveJobComplete (s : State) : Host.Outcome State Fault Refusal :=
  .next (match s.sev.running .live with
    | some img =>
      let s1 := match liveResult s.tables img with
        | some r => s.installLive r
        | none => s
      (s1.jobDone .live).afterLive
    | none => s)

/-! ### TRIAL (R47, R56, R170) -/

/-- The outcome of a TRIAL job (R47, R56). -/
def trialOutcome (t : Tables) (img : Image) : TrialOutcome :=
  match Scene.changes t img.recs img.reserved 1 img.trial with
  | .ok sc =>
    match passOver t img 0 sc with
    | some r => .result r
    | none => .none
  | .error i => .invalid i img.serial

/-- The outcome kept, and TRIAL_RESULT sent (R160, R170). -/
def State.trialDone (s : State) (img : Image) : State :=
  let o := trialOutcome s.tables img
  { s with csv.outcome := o, csv.trialState := .idle }.offer .p (.trialResult img.serial o.status.1 o.status.2 o.index)

/-- TRIAL_JOB_COMPLETE (R47). -/
def execTrialJobComplete (s : State) : Host.Outcome State Fault Refusal :=
  .next (match s.sev.running .trial with
    | some img => ((s.trialDone img).jobDone .trial).takeJob
    | none => s)

/-! ### TEST (R48, R186) -/

/-- Whether two figures lie within a tolerance of each other. -/
def close (tolerance a b : Int) : Bool := decide (mag (a - b) ≤ tolerance)

/-- The figures of R186 in their order: each with whether the result is within its tolerance. -/
def Expected.figures (e : Expected) (r : Result) : List Bool :=
  [close 0 e.disp r.disp, close 2 e.kg r.kg, close 2 e.gmf r.gmf, close 2 e.trim r.trim, close 2 e.ta r.ta,
    close 2 e.tf r.tf, close 2 e.sfPm r.strength.worstSfPm, close 2 e.bmPm r.strength.worstBmPm,
    decide (e.sfStation = r.strength.worstSf), decide (e.bmStation = r.strength.worstBm)]

/-- The verdict on a TEST result: PASS, or FAIL with its first failing figure (R186), counted from 1 (assumption 15). -/
def Expected.verdict (e : Expected) (r : Result) : Verdict :=
  match (e.figures r).findIdx? fun b => !b with
  | some i => .fail (i + 1)
  | none => .pass

/-- TEST_CONDITION_FAIL raised (R180, R186). -/
def State.raiseTestFail (s : State) : State :=
  { s with hds.testFail := true }.raise ⟨.testConditionFail, .none⟩

/-- The verdict recorded, and the alarm of a failure (R186). -/
def State.recordVerdict (s : State) (v : Verdict) : State :=
  let s1 := { s with hds.verdicts := s.hds.verdicts ++ [v] }
  match v with
  | .fail _ => s1.raiseTestFail
  | .pass | .notRun => s1

/-- The TEST conditions still to be handed over (R48). -/
def Stage.todo : Stage → List TestCondition
  | .tests l => l
  | .entered | .sweep | .firstLive => []

/-- TEST_JOB_COMPLETE (R48). -/
def execTestJobComplete (s : State) : Host.Outcome State Fault Refusal :=
  .next (match s.sev.running .test with
    | some img =>
      let s1 := match img.test with
        | some tc =>
          match testPass s.tables img tc with
          | some r => s.recordVerdict (tc.expected.verdict r)
          | none => s
        | none => s
      State.nextTest s1.hds.stage.todo (s1.jobDone .test)
    | none => s)

end Sys2Proof.Machine
end

