-- ==== Sys2Proof/Machine/LiftCmds.lean ====
section
/-!
DEFINITION. The lift frames of the crane ports and the reservation timers: LIFT_REQUEST (R82 to R84, R107, R108),
LIFT_CANCEL (R93), HOOK_LOADED (R96 to R100, R110), HOOK_POSITION (R112 to R114, R118), HOOK_LANDED (R101 to R103,
R111, R115), RESERVATION_EXPIRY (R92).
-/

namespace Sys2Proof.Machine

/-! ### LIFT_REQUEST (R82 to R84, R107, R108) -/

/-- The fields of a LIFT_REQUEST (R82, R179). -/
structure LiftAsk where
  lot : Nat
  weight : Int
  origin : Nat
  dest : Nat
  pickup : Pt
  setDown : Pt
  side : Nat
  out : Int
  susp : Int
  flag : Nat
  permille : Nat
  matePickup : Pt
  mateSetDown : Pt
  deriving DecidableEq, Repr

/-- The fields read out of a payload at R179's offsets. -/
def liftAsk (p : List Byte) : LiftAsk where
  lot := field p 0 2
  weight := fieldU p 2 3
  origin := field p 5 1
  dest := field p 6 1
  pickup := fieldPt p 7
  setDown := fieldPt p 13
  side := field p 19 1
  out := fieldU p 20 3
  susp := fieldU p 23 3
  flag := field p 26 1
  permille := field p 27 2
  matePickup := fieldPt p 29
  mateSetDown := fieldPt p 35

/-- Whether the tandem flag is set (R82). -/
def LiftAsk.tandem (a : LiftAsk) : Bool := a.flag == 1

/-- Check 6: every field in its range (R82, R107, R179). -/
def LiftAsk.inRange (a : LiftAsk) : Bool :=
  decide (a.lot ≠ 0) && lotWeight a.weight && !notAddress a.origin && !notAddress a.dest && a.pickup.inFrame &&
    a.setDown.inFrame && decide (a.side ≤ 2) && within 0 60000 a.out && within 0 80000 a.susp && decide (a.flag ≤ 1) &&
    (!a.tandem ||
      (decide (1 ≤ a.permille ∧ a.permille ≤ 999) && a.matePickup.inFrame && a.mateSetDown.inFrame))

/-- Whether an end is QUAY or a defined CARGO space (R83 check 7, R101). -/
def Tables.isEnd (t : Tables) : LiftEnd → Bool
  | .quay => true
  | .space a => (t.cargo a).isSome

/-- Check 8: a quay pickup's lot is new, a hold pickup's lot stands in its origin (R83). -/
def State.lotCode (s : State) (n : Nat) : LiftEnd → Option Code
  | .quay => if ((s.ct.lot n).isSome || s.liftNames n) = true then some .duplicateLot else none
  | .space a =>
    match s.ct.lot n with
    | some l => if l.loc = a then none else some .noSuchLot
    | none => some .noSuchLot

/-- The evaluated weight (R84). -/
def State.evaluated (s : State) (a : LiftAsk) : Int :=
  match liftEnd a.origin with
  | .quay => a.weight
  | .space _ =>
    match s.ct.lot a.lot with
    | some l => max a.weight l.weight
    | none => a.weight

/-- The shares of a weight (R107, R110). -/
def sharesOf (w permille : Int) : Shares :=
  let lower := rdiv (w * permille) 1000
  ⟨permille, lower, w - lower⟩

/-- The shares of a tandem request (R107). -/
def LiftAsk.shares (a : LiftAsk) (w : Int) : Option Shares := if a.tandem then some (sharesOf w a.permille) else none

/-- Check 9: the weight that each crane carries against its SWL (R83, R107, assumption 18). -/
def State.overSwl (s : State) (c : Crane) (sh : Option Shares) (w : Int) : Bool :=
  let above (k : Crane) (v : Int) : Bool := match s.tables.crane k with
    | some d => decide (d.swl < v)
    | none => false
  match sh with
  | some t => above c t.lower || above (mate c) t.upper
  | none => above c w

/-- Check 10 for one crane: its points and the path outreach within its maximum outreach (R3, R83). -/
def State.reaches (s : State) (c : Crane) (pickup setDown : Pt) (out : Int) : Bool :=
  match s.tables.crane c with
  | some d => d.reaches pickup && d.reaches setDown && decide (out ≤ d.outreach)
  | none => true

/-- Check 10 (R83, R107, assumption 18). -/
def State.inReach (s : State) (c : Crane) (a : LiftAsk) : Bool :=
  s.reaches c a.pickup a.setDown a.out && (!a.tandem || s.reaches (mate c) a.matePickup a.mateSetDown a.out)

/-- The check of a LIFT_REQUEST that fails first (R83). -/
def State.requestCode (s : State) (c : Crane) (a : LiftAsk) : Option Code :=
  if s.hds.mode ≠ .service then some .notInService
  else if s.upperPaired c then some .portPaired
  else if s.lift c ≠ .idle then some .craneBusy
  else if s.lmn.stop.isSome then some .stopped
  else if Config.permitQueueSize ≤ s.lcu.queue.length then some .queueFull
  else if a.inRange = false then some .badField
  else if (s.tables.isEnd (liftEnd a.origin) && s.tables.isEnd (liftEnd a.dest)) = false then some .badSpace
  else
    match s.lotCode a.lot (liftEnd a.origin) with
    | some code => some code
    | none =>
      if s.overSwl c (a.shares (s.evaluated a)) (s.evaluated a) then some .overSwl
      else if s.inReach c a = false then some .outOfReach
      else if (a.tandem && (!s.lcu.paired c || s.lift (mate c) != .idle)) = true then some .portPaired
      else none

/-- An extreme point of a crane (R84): `side` is -1 for port and 1 for starboard. -/
def State.extreme (s : State) (c : Crane) (side out : Int) : Pt :=
  match s.tables.crane c with
  | some d => ⟨d.px, d.py + side * out⟩
  | none => ⟨0, 0⟩

/-- A candidate from the points of both cranes (R108). -/
def LiftAsk.candidate (a : LiftAsk) (own partner : Pt) : Candidate := ⟨own, if a.tandem then some partner else none⟩

/-- The candidate points in their order (R84, R108). -/
def State.candidates (s : State) (c : Crane) (a : LiftAsk) : List Candidate :=
  let ext (side : Int) : Candidate := a.candidate (s.extreme c side a.out) (s.extreme (mate c) side a.out)
  [a.candidate a.pickup a.matePickup, a.candidate a.setDown a.mateSetDown]
    ++ (if a.side = 0 ∨ a.side = 2 then [ext (-1)] else [])
    ++ (if a.side = 1 ∨ a.side = 2 then [ext 1] else [])

/-- The request as its record holds it (R84). -/
def State.requestOf (s : State) (c : Crane) (a : LiftAsk) : Request where
  lot := a.lot
  weight := s.evaluated a
  origin := liftEnd a.origin
  dest := liftEnd a.dest
  cands := s.candidates c a
  susp := a.susp
  tandem := a.shares (s.evaluated a)

/-- A request accepted: the record goes to PENDING and the request joins the tail of the queue (R84). -/
def State.accept (s : State) (c : Crane) (r : Request) : State :=
  { s.setLift c (.pending r 0) with lcu.queue := s.lcu.queue ++ [c] }

/-- LIFT_REQUEST's handling; an accepted request is not answered (R84). -/
def liftRequestReply (c : Crane) (p : List Byte) (s : State) : State × Reply :=
  let a := liftAsk p
  match s.requestCode c a with
  | some code => (s, refuse kLiftRequest code)
  | none => (s.accept c (s.requestOf c a), .silent)

/-- LIFT_REQUEST (R83). -/
def execLiftRequest (c : Crane) (s : State) : Host.Outcome State Fault Refusal :=
  .next (serveCrane c kLiftRequest (liftRequestReply c) s).takeJob

/-! ### LIFT_CANCEL (R93) -/

/-- LIFT_CANCEL's handling: permit number. -/
def liftCancelReply (c : Crane) (p : List Byte) (s : State) : State × Reply :=
  match s.lift c with
  | .pending _ _ => (s.dropRequest c, done kLiftCancel (.permit 0))
  | .granted _ n _ _ =>
    if field p 0 1 = n then (s.dropRequest c, done kLiftCancel (.permit n)) else (s, refuse kLiftCancel .noPermit)
  | _ => (s, refuse kLiftCancel .noPermit)

/-- LIFT_CANCEL (R93). -/
def execLiftCancel (c : Crane) (s : State) : Host.Outcome State Fault Refusal :=
  .next (serveLift c kLiftCancel (liftCancelReply c) s)

/-! ### HOOK_LOADED (R96 to R100, R110) -/

/-- The fields of a HOOK_LOADED, clamped as a physical report (R1, R2, R96). -/
structure LiftOff where
  permit : Nat
  lot : Nat
  weight : Int
  origin : Nat
  pt : Pt
  h : Int
  deriving DecidableEq, Repr

/-- The fields read out of a payload. -/
def liftOff (p : List Byte) : LiftOff where
  permit := field p 0 1
  lot := field p 1 2
  weight := clamp 1 20000 (fieldU p 3 3)
  origin := field p 6 1
  pt := (fieldPt p 7).clampFrame
  h := clamp 0 80000 (fieldU p 13 3)

/-- The pickup points of a request: its first candidate (R84, R97, R110). -/
def Request.pickup (r : Request) : Candidate := r.cands.headD ⟨⟨0, 0⟩, none⟩

/-- Whether a lot stands in a stow list, so that its lift-off frees a pool record (R21, R23). -/
def State.freesRecord (s : State) (n : Nat) : Bool := (s.ct.lot n).isSome

/-- The upper crane's part of a tandem lift-off: its record, its hook at the partner pickup point, its structure;
UNKNOWN when its port is not ACTIVE (R110). -/
def State.hangUpper (s : State) (c : Crane) (n : Nat) (q : Pt) (h : Int) : State :=
  let s1 := (s.setLift (mate c) (.partner n c)).putHook (mate c) q h
  if (s.link (portOf (mate c))).state = .active then s1
  else (s1.losePosition (mate c)).structureToWorst (mate c)

/-- The load of a permitted lift-off: the weight and origin of the frame, the rest of the permit; a tandem load's shares
are formed again from the frame's weight (R97, R110). -/
def Request.load (r : Request) (permit : Nat) (f : LiftOff) : Load where
  permit := permit
  lot := f.lot
  weight := f.weight
  origin := liftEnd f.origin
  dest := some r.dest
  unpermitted := false
  tandem := r.tandem.map fun t => sharesOf f.weight t.permille

/-- A permitted lift-off, single or tandem (R97, R110). -/
def State.liftPermitted (s : State) (c : Crane) (r : Request) (permit : Nat) (f : LiftOff) : State :=
  let s1 := ((s.placeLot c f.lot (liftEnd f.origin)).setLift c (.hooked (r.load permit f))).putHook c r.pickup.own r.susp
  let s2 := match r.tandem, r.pickup.partner with
    | some _, some q => s1.hangUpper c f.lot q r.susp
    | _, _ => s1
  (s2.endLiftOff (s.freesRecord f.lot)).stopHooked c

/-- An unpermitted lift-off (R98); STOP, while one stands, is placed before LATE (R145, assumption 43). Where its alarm
changes stand among those of the removal and the filing is assumption 41. -/
def State.liftUnpermitted (s : State) (c : Crane) (f : LiftOff) : State :=
  let l : Load := ⟨0, f.lot, f.weight, liftEnd f.origin, none, true, none⟩
  let s1 := ((s.placeLot c f.lot (liftEnd f.origin)).setLift c (.hooked l)).putHook c f.pt f.h
  ((s1.raise ⟨.unpermittedLift, .crane c⟩).endLiftOff (s.freesRecord f.lot)).stopHooked c

/-- An unpermitted lift-off with its answer (R98). -/
def State.lateLift (s : State) (c : Crane) (f : LiftOff) : State × Reply :=
  (s.liftUnpermitted c f, .say (.late f.lot f.permit))

/-- HOOK_LOADED's handling by the record's state (R96). -/
def hookLoadedReply (c : Crane) (p : List Byte) (s : State) : State × Reply :=
  let f := liftOff p
  if f.lot = 0 ∨ notAddress f.origin = true then (s, refuse kHookLoaded .badField)
  else
    match s.lift c with
    | .idle => s.lateLift c f
    | .pending _ _ => (s.dropRequest c).lateLift c f
    | .granted r n _ _ =>
      if f.permit = n ∧ f.lot = r.lot then (s.liftPermitted c r n f, done kHookLoaded (.permit n))
      else (s.dropRequest c).lateLift c f
    | .unfiled m _ => if f.lot = m then s.lateLift c f else (s, refuse kHookLoaded .craneBusy)
    | .hooked _ | .partner _ _ => (s, refuse kHookLoaded .craneBusy)

/-- HOOK_LOADED (R96). -/
def execHookLoaded (c : Crane) (s : State) : Host.Outcome State Fault Refusal :=
  .next (serveLift c kHookLoaded (hookLoadedReply c) s).takeJob

/-! ### HOOK_POSITION (R112 to R114, R118) -/

/-- Whether a report is plausible: within 1.02 of the maximum outreach, compared exactly (R112). -/
def CraneDef.plausible (d : CraneDef) (q : Pt) : Bool :=
  decide (2500 * d.distSq q ≤ 2601 * (d.outreach * d.outreach))

/-- Whether a report is within the deadband of the held position (R113). -/
def Hook.near (k : Hook) (q : Pt) (h : Int) (deadband : Nat) : Bool :=
  decide (mag (q.x - k.x) < deadband) && decide (mag (q.y - k.y) < deadband) && decide (mag (h - k.h) < deadband)

/-- A report applied: one hook operation, which restores an UNKNOWN hook (R114, R118). -/
def State.applyHook (s : State) (c : Crane) (q : Pt) (h : Int) : State :=
  ((s.putHook c q h).clear ⟨.positionUnknown, .crane c⟩).bump

/-- HOOK_POSITION's handling: hook x, y, height, clamped as a physical report (R1, R112). -/
def hookPositionReply (c : Crane) (p : List Byte) (s : State) : State × Reply :=
  let q := (fieldPt p 0).clampFrame
  let h := clamp 0 80000 (fieldU p 6 3)
  let plausible := match s.tables.crane c with
    | some d => d.plausible q
    | none => false
  if plausible then
    let s1 := s.clear ⟨.positionImplausible, .crane c⟩
    if decide ((s.hook c).source = .reported) && (s.hook c).near q h s.settings.hookDeadband then
      (s1, done kHookPosition (.report .withinDeadband))
    else (s1.applyHook c q h, done kHookPosition (.report .applied))
  else (s.raise ⟨.positionImplausible, .crane c⟩, done kHookPosition (.report .implausible))

/-- HOOK_POSITION (R112), accepted on a paired upper port too (R106). -/
def execHookPosition (c : Crane) (s : State) : Host.Outcome State Fault Refusal :=
  .next (serveCrane c kHookPosition (hookPositionReply c) s).takeJob

/-! ### HOOK_LANDED (R101 to R103, R111, R115) -/

/-- DESTINATION_CHANGED, when the landing's destination differs from the record's (R101). -/
def State.destinationEvent (s : State) (c : Crane) (l : Load) (dest : LiftEnd) : State :=
  match l.dest with
  | some d => if d = dest then s else s.event ⟨.destinationChanged, .crane c⟩
  | none => s

/-- The landing crane's hook settled at the landed point when its source is UNKNOWN, and a tandem's upper hook at its
pedestal when its source is UNKNOWN (R115). -/
def State.settleLanding (s : State) (c : Crane) (l : Load) (q : Pt) : State :=
  let s1 := if (s.hook c).source = .unknown then s.putHook c q 0 else s
  if l.tandem.isSome then s1.settleHook (mate c) else s1

/-- A landing to QUAY (R102). -/
def State.landQuay (s : State) (c : Crane) (l : Load) (q : Pt) : State :=
  ((s.endLift c l .idle).settleLanding c l q).bump

/-- A landed load filed at once into a free record (R20). -/
def State.landFiled (s : State) (c : Crane) (l : Load) (a : Nat) (q : Pos) : State :=
  (s.endLift c l .idle).stowLot ⟨l.lot, l.weight, q, a, .crane c, s.seconds⟩

/-- A landed load sent to the filing list, no record being free (R20, R103). -/
def State.landUnfiled (s : State) (c : Crane) (l : Load) (a : Nat) (q : Pos) : State :=
  let s1 := s.endLift c l (.unfiled l.lot l.weight)
  let f : Filing := ⟨c, l.lot, l.weight, q, a, s.seconds⟩
  { s1 with ct.filing := s1.ct.filing ++ [f] }.raise ⟨.landedUnfiled, .crane c⟩

/-- Whether the pool holds a free record (R15). -/
def State.poolFree (s : State) : Bool := decide (s.ct.lots.length < Config.poolSize)

/-- A landing into a space (R20, R103): clamped into the box, filed or sent to the filing list, the space judged, one
serial step. The order of its alarm changes is assumption 41. -/
def State.landSpace (s : State) (c : Crane) (l : Load) (a : Nat) (box : Box) (q : Pos) : State :=
  let q' := box.clampPos q
  let s1 := if q' = q then s else s.event ⟨.positionClamped, .crane c⟩
  let s2 := if s.poolFree then s1.landFiled c l a q' else s1.landUnfiled c l a q'
  ((s2.settleLanding c l ⟨q.x, q.y⟩).judgeSpace a).bump

/-- What the DONE of a landing into a space carries (R103). -/
def State.landedBody (s : State) (box : Box) (q : Pos) : DoneBody :=
  .landed (if s.poolFree then .filed else .unfiled) (some (box.clampPos q))

/-- HOOK_LANDED's handling: destination, landed position, clamped to the frame (R1, R101). -/
def hookLandedReply (c : Crane) (p : List Byte) (s : State) : State × Reply :=
  let dest := field p 0 1
  let q := (fieldPos p 1).clampFrame
  if notAddress dest then (s, refuse kHookLanded .badField)
  else
    match s.lift c with
    | .hooked l =>
      match liftEnd dest with
      | .quay =>
        ((s.destinationEvent c l .quay).landQuay c l ⟨q.x, q.y⟩, done kHookLanded (.landed .offVessel none))
      | .space a =>
        match s.tables.cargo a with
        | some (box, _) =>
          ((s.destinationEvent c l (.space a)).landSpace c l a box q, done kHookLanded (s.landedBody box q))
        | none => (s, refuse kHookLanded .badSpace)
    | _ => (s, refuse kHookLanded .noPermit)

/-- HOOK_LANDED (R101). -/
def execHookLanded (c : Crane) (s : State) : Host.Outcome State Fault Refusal :=
  .next (serveLift c kHookLanded (hookLandedReply c) s).takeJob

/-! ### RESERVATION_EXPIRY (R92) -/

/-- RESERVATION_EXPIRY: the deadline of a GRANTED record is reached (R92); otherwise it has no effect. -/
def execReservationExpiry (c : Crane) (s : State) : Host.Outcome State Fault Refusal :=
  .next (match s.lift c with
    | .granted _ n _ deadline => ((s.reach deadline).setLift c .idle).offer (portOf c) (.liftExpired n)
    | _ => s)

end Sys2Proof.Machine
end

