-- ==== Sys2Proof/Machine/LinkCmds.lean ====
section
/-!
DEFINITION. The commands of the Station Link Interface: FRAME_RECEIVED, LINK_BREAK, SILENCE_TIMER_EXPIRY, FRAME_SENT,
SUMMARY_TIMER_EXPIRY, UNKNOWN_KIND (R173 to R177).
-/

namespace Sys2Proof.Machine

/-! ### Receiving (R173, R177) -/

/-- A LENGTH, TRUNCATED or CHECK failure counts; LINK_DEGRADED is raised when the count reaches 3 (R173). -/
def State.badFrame (s : State) (q : Port) : State :=
  let n := min 3 ((s.link q).bad + 1)
  let s1 := s.setLink q { s.link q with bad := n }
  if n = 3 then s1.keep ⟨.linkDegraded, .port q⟩ true else s1

/-- A frame whose check matches, good or OVERRUN: the count, LINK_DEGRADED, the silence timer and the port state (R173,
R177). -/
def State.matchingCheck (s : State) (q : Port) : State :=
  let was := (s.link q).state
  let s1 := (s.setLink q { s.link q with
    bad := 0
    silence := some (s.now + s.settings.silenceWindow * 100)
    state := .active }).clear ⟨.linkDegraded, .port q⟩
  if was = .active then s1 else s1.clear ⟨.portSilent, .port q⟩

/-- A whole frame joins the inbound buffer, or is lost as OVERRUN when it holds 4 (R173, R174). -/
def State.takeIn (s : State) (q : Port) (f : Frame) : State :=
  if (s.link q).inbound.length < Config.inboundSize then
    s.setLink q { s.link q with inbound := (s.link q).inbound ++ [f] }
  else s.event ⟨.overrun, .port q⟩

/-- The end or the failure of a frame on a port (R173). That the clears of a matching check come before OVERRUN is
assumption 41. -/
def State.receive (s : State) (q : Port) (octets : List Byte) : State :=
  match judgeFrame octets with
  | .whole f => (s.matchingCheck q).takeIn q f
  | .length | .truncated | .check => s.badFrame q

/-- FRAME_RECEIVED (R173); in reset the receiver takes nothing. -/
def execFrameReceived (port : Port) (octets : List Byte) (s : State) : Host.Outcome State Fault Refusal :=
  .next (if s.phase = .running then s.receive port octets else s)

/-! ### Silence and breaks (R94, R116, R177) -/

/-- The crane's part of a break on its port: a request or permit ends, a loaded hook goes UNKNOWN (R94, R116). -/
def State.craneBreak (s : State) (q : Port) : State :=
  match craneOfPort q with
  | some c => (s.dropRequest c).hookUnknown c
  | none => s

/-- The crane's part of a silence on its port (R116). -/
def State.craneSilent (s : State) (q : Port) : State :=
  match craneOfPort q with
  | some c => s.hookUnknown c
  | none => s

/-- A break on a port: the flush, then what the serving block does; on port P a RESTART pending is performed (R171,
R177). -/
def State.breakPort (s : State) (q : Port) (comm : Bool) : State :=
  let s1 := s.setLink q (s.link q).broken
  if q = .p ∧ s.csv.restartPending = true then s1.startUp .restart comm else (s1.craneBreak q).takeJob

/-- LINK_BREAK (R177); in reset there is none. -/
def execLinkBreak (port : Port) (comm : Bool) (s : State) : Host.Outcome State Fault Refusal :=
  .next (if s.phase = .running then s.breakPort port comm else s)

/-- A silence timer's expiry (R177); PORT_SILENT is raised before the crane's part (assumption 41). -/
def State.silent (s : State) (q : Port) : State :=
  let was := (s.link q).state
  let s1 := s.setLink q { s.link q with silence := none, state := if was = .active then .silent else was }
  let s2 := s1.raise ⟨.portSilent, .port q⟩
  if was = .active then s2.craneSilent q else s2

/-- SILENCE_TIMER_EXPIRY (R177). -/
def execSilenceTimerExpiry (port : Port) (s : State) : Host.Outcome State Fault Refusal :=
  .next (match (s.link port).silence with
    | some deadline => ((s.reach deadline).silent port).takeJob
    | none => s)

/-! ### Sending (R171, R174, R175) -/

/-- Whether what a port is sending is the DONE of an accepted RESTART (R171). -/
def State.sendingRestart (s : State) (q : Port) : Bool :=
  decide (q = .p) && s.csv.restartPending && decide ((s.link q).sending = some (.frame (.done kRestart .plain)))

/-- FRAME_SENT: the last bit of what a port is sending leaves; the sending of RESTART's DONE performs the reset
(R171, R174, R175). -/
def execFrameSent (port : Port) (comm : Bool) (s : State) : Host.Outcome State Fault Refusal :=
  .next (if s.sendingRestart port then s.startUp .restart comm else s.setLink port (s.link port).sent)

/-! ### SUMMARY (R176) -/

/-- The summary fields of a result (R176). -/
def Result.summary (r : Result) : LiveSummary where
  serial := r.serial
  disp := r.disp
  heel := r.heel
  gmf := r.gmf
  trim := r.trim
  ta := r.ta
  tf := r.tf
  worstSfPm := r.strength.worstSfPm
  worstBmPm := r.strength.worstBmPm

/-- A SUMMARY of the state as it stands (R176). -/
def State.summary (s : State) : Summary where
  serial := s.ct.serial
  mode := s.hds.mode
  live := s.sev.live.map Result.summary
  stop := s.lmn.stop.isSome
  ala := s.als.lineA
  all := s.als.lineL
  alh := s.als.lineH
  markAdvisory := s.als.markAdvisory
  markLimit := s.als.markLimit

/-- A SUMMARY placed on one port (R176). -/
def placeSummary (m : Summary) (s : State) (q : Port) : State := s.setLink q ((s.link q).offerSummary m)

/-- SUMMARY_TIMER_EXPIRY (R176). -/
def execSummaryTimerExpiry (s : State) : Host.Outcome State Fault Refusal :=
  .next (match s.sli.summary with
    | some deadline =>
      let s1 := s.reach deadline
      let s2 := { s1 with sli.summary := some (s1.now + s1.settings.summaryPeriod * 100) }
      ports.foldl (placeSummary s2.summary) s2
    | none => s)

/-! ### Frames that no port serves (R173) -/

/-- UNKNOWN_KIND (R173). -/
def execUnknownKind (port : Port) (s : State) : Host.Outcome State Fault Refusal := .next (serveUnknown port s)

end Sys2Proof.Machine
end

