-- ==== Sys2Proof/Machine/ResetCmds.lean ====
section
/-!
DEFINITION. The commands of the reset inputs: POWER_ON, LINE_RESET, RESET_HOLD (R184).
-/

namespace Sys2Proof.Machine

/-- Power-good rises while the reset line is held (R4, R184): the time base starts, what the loss of power ended is at
its POWER_ON value, no table is loaded, and the part stays in reset until the line is released (assumption 14). -/
def State.poweredUnderReset (s : State) : State :=
  { s.blocksReset with phase := .held, now := 0, elapsed := none, ct := .initial, lcu := .initial, hds.tables := .empty }

/-- POWER_ON: the power-good input rises (R4, R184); with power already good there is no such event (assumption 5). -/
def execPowerOn (comm : Bool) (s : State) : Host.Outcome State Fault Refusal :=
  .next (if s.phase = .off then (if s.line then s.poweredUnderReset else s.powerOnReset comm) else s)

/-- LINE_RESET: the reset line is released (R184). While power is good that is a LINE reset; taken while the part runs,
the hold and the release are one event (assumption 13). While power is low the part stays in reset. -/
def execLineReset (comm : Bool) (s : State) : Host.Outcome State Fault Refusal :=
  let s' := { s with line := false }
  .next (if s.phase = .off then s' else s'.startUp .line comm)

/-- The phase that a hold leads to: power-good low is off, and a held line counts while power is good (R184). -/
def phaseAfterHold (p : Phase) : HoldCause → Phase
  | .power => .off
  | .line => if p = .off then .off else .held

/-- RESET_HOLD: power-good falls or the reset line is held; every timer stops and the alarm lines are released (R4,
R156, R184, assumption 26). -/
def execResetHold (cause : HoldCause) (s : State) : Host.Outcome State Fault Refusal :=
  .next { s.blocksReset with phase := phaseAfterHold s.phase cause, line := s.line || decide (cause = .line) }

end Sys2Proof.Machine
end

