-- ==== Sys2Proof/Machine/StoreCmds.lean ====
section
/-!
DEFINITION. The store messages of port P and the end of a programming operation (R182, R183).
-/

namespace Sys2Proof.Machine

/-- The page that is being programmed (R183). -/
def Hds.programming (h : Hds) : Option Nat := h.prog.map Prod.fst

/-- A store message's handling, refused WRONG_MODE outside COMMISSIONING (R180, R182). It is reached by a frame of the
right length: a wrong length is answered BAD_FIELD in every mode (R173, assumption 42). -/
def inCommissioning (k : Byte) (handle : List Byte → State → State × Reply) (p : List Byte) (s : State) :
    State × Reply :=
  if s.hds.mode = .commissioning then handle p s else (s, refuse k .wrongMode)

/-- The state of a page as the part sees it: TORN from the start of its programming until the end (R181, R183). -/
def Hds.pageState (h : Hds) (page : Nat) : PageState :=
  if h.programming = some page then .torn else h.store.pageState page

/-! ### STORE_LOAD (R182) -/

/-- A value as the buffer takes it: at entry 0 the marker half stays blank (R182). -/
def loadValue (index : Nat) (v : Entry) : Entry := if index = 0 then v.extractLsb' 16 16 ++ 0xFFFF#16 else v

/-- Values written into successive entries from an index on, the index not passing 63 (R182). -/
def loadInto (loaded : List (Nat × Entry)) (start : Nat) : List Entry → List (Nat × Entry)
  | [] => loaded
  | v :: rest => loadInto (insertKey start (loadValue start v) loaded) (min 63 (start + 1)) rest

/-- The check of STORE_LOAD that fails first (R182; assumption 19 for a page named while another is programmed). -/
def Hds.loadCode (h : Hds) (page start : Nat) : Option Code :=
  if 63 < start then some .badField
  else if h.programming = some page then some .storeBusy
  else if h.programming.isSome then some .bufferHeld
  else if h.buffer.loaded ≠ [] ∧ h.buffer.page ≠ page then some .bufferHeld
  else none

/-- STORE_LOAD's handling: page, start index, 1 to 12 values. -/
def storeLoadReply (p : List Byte) (s : State) : State × Reply :=
  let page := field p 0 1
  let start := field p 1 1
  let n := (p.length - 2) / 4
  match s.hds.loadCode page start with
  | some c => (s, refuse kStoreLoad c)
  | none =>
    let loaded := loadInto s.hds.buffer.loaded start (fieldWords p 2 n)
    ({ s with hds.buffer := ⟨page, loaded⟩ }, done kStoreLoad (.loaded page loaded.length (decide (64 < start + n))))

/-- STORE_LOAD (R182). -/
def execStoreLoad (s : State) : Host.Outcome State Fault Refusal :=
  .next (serve .p kStoreLoad (inCommissioning kStoreLoad storeLoadReply) s)

/-! ### STORE_PROGRAM, STORE_DISCARD, STORE_READ (R182, R183) -/

/-- The check of STORE_PROGRAM that fails first (R183). -/
def Hds.programCode (h : Hds) (page : Nat) : Option Code :=
  if h.programming = some page then some .storeBusy
  else if h.programming.isSome then some .bufferHeld
  else if h.buffer.loaded ≠ [] ∧ h.buffer.page ≠ page then some .bufferHeld
  else none

/-- STORE_PROGRAM's handling: page. The outbound entry is held for the DONE of the completion. -/
def storeProgramReply (p : List Byte) (s : State) : State × Reply :=
  let page := field p 0 1
  match s.hds.programCode page with
  | some c => (s, refuse kStoreProgram c)
  | none => ({ s with hds.prog := some (page, s.now + Config.programMs) }, .later)

/-- STORE_PROGRAM (R183). -/
def execStoreProgram (s : State) : Host.Outcome State Fault Refusal :=
  .next (serve .p kStoreProgram (inCommissioning kStoreProgram storeProgramReply) s)

/-- STORE_DISCARD's handling. -/
def storeDiscardReply (_ : List Byte) (s : State) : State × Reply :=
  if s.hds.programming.isSome then (s, refuse kStoreDiscard .storeBusy)
  else ({ s with hds.buffer := ⟨0, []⟩ }, done kStoreDiscard .plain)

/-- STORE_DISCARD (R182). -/
def execStoreDiscard (s : State) : Host.Outcome State Fault Refusal :=
  .next (serve .p kStoreDiscard (inCommissioning kStoreDiscard storeDiscardReply) s)

/-- The stored entries that a STORE_READ holds (R182). -/
def Store.span (s : Store) (page start count : Nat) : List Entry :=
  (List.range (min count (64 - start))).map fun i => s.entry page (start + i)

/-- STORE_READ's handling: page, start index, count. -/
def storeReadReply (p : List Byte) (s : State) : State × Reply :=
  let page := field p 0 1
  let start := field p 1 1
  let count := field p 2 1
  if 63 < start ∨ count < 1 ∨ 12 < count then (s, refuse kStoreRead .badField)
  else if s.hds.programming = some page then (s, refuse kStoreRead .storeBusy)
  else (s, .say (.storeData page (s.hds.store.pageState page) (s.hds.store.span page start count)))

/-- STORE_READ (R182). -/
def execStoreRead (s : State) : Host.Outcome State Fault Refusal :=
  .next (serve .p kStoreRead (inCommissioning kStoreRead storeReadReply) s)

/-! ### PROGRAM_COMPLETE (R183) -/

/-- The Hull Data Store after a programming operation on a page. -/
def Hds.programmed (h : Hds) (page : Nat) : Hds :=
  { h with store := h.store.program page h.buffer.loaded, buffer := ⟨0, []⟩, prog := none }

/-- PROGRAM_COMPLETE: the page is replaced, the buffer emptied, and the DONE takes the entry held for it (R183). -/
def execProgramComplete (s : State) : Host.Outcome State Fault Refusal :=
  .next (match s.hds.prog with
    | some (page, deadline) =>
      let s1 := s.reach deadline
      let s2 := { s1 with hds := s1.hds.programmed page }
      s2.answer .p (done kStoreProgram (.page page (s2.hds.pageState page)))
    | none => s)

end Sys2Proof.Machine
end

