-- ==== Sys2Proof/Machine/Dispatch.lean ====
section
/-!
DEFINITION. The meaning of every command: one arm for each row of spec/opcode_table.json.
-/

namespace Sys2Proof.Machine

def exec (i : Instr) (s : State) : Host.Outcome State Fault Refusal :=
  match i with
  | .powerOn comm => Sys2Proof.Machine.execPowerOn comm s
  | .lineReset comm => Sys2Proof.Machine.execLineReset comm s
  | .resetHold cause => Sys2Proof.Machine.execResetHold cause s
  | .frameReceived port octets => Sys2Proof.Machine.execFrameReceived port octets s
  | .linkBreak port comm => Sys2Proof.Machine.execLinkBreak port comm s
  | .silenceTimerExpiry port => Sys2Proof.Machine.execSilenceTimerExpiry port s
  | .frameSent port comm => Sys2Proof.Machine.execFrameSent port comm s
  | .summaryTimerExpiry => Sys2Proof.Machine.execSummaryTimerExpiry s
  | .unknownKind port => Sys2Proof.Machine.execUnknownKind port s
  | .readItem => Sys2Proof.Machine.execReadItem s
  | .readRun => Sys2Proof.Machine.execReadRun s
  | .readStow => Sys2Proof.Machine.execReadStow s
  | .readLot => Sys2Proof.Machine.execReadLot s
  | .readResult => Sys2Proof.Machine.execReadResult s
  | .readStrength => Sys2Proof.Machine.execReadStrength s
  | .readAlarms => Sys2Proof.Machine.execReadAlarms s
  | .readSetting => Sys2Proof.Machine.execReadSetting s
  | .setConstant => Sys2Proof.Machine.execSetConstant s
  | .enterLot => Sys2Proof.Machine.execEnterLot s
  | .removeLot => Sys2Proof.Machine.execRemoveLot s
  | .shiftLot => Sys2Proof.Machine.execShiftLot s
  | .setDensity => Sys2Proof.Machine.execSetDensity s
  | .setManual => Sys2Proof.Machine.execSetManual s
  | .releaseManual => Sys2Proof.Machine.execReleaseManual s
  | .setSetting => Sys2Proof.Machine.execSetSetting s
  | .trialBegin => Sys2Proof.Machine.execTrialBegin s
  | .trialAdd => Sys2Proof.Machine.execTrialAdd s
  | .trialRun => Sys2Proof.Machine.execTrialRun s
  | .ackAlarm => Sys2Proof.Machine.execAckAlarm s
  | .restart => Sys2Proof.Machine.execRestart s
  | .storeLoad => Sys2Proof.Machine.execStoreLoad s
  | .storeProgram => Sys2Proof.Machine.execStoreProgram s
  | .storeDiscard => Sys2Proof.Machine.execStoreDiscard s
  | .storeRead => Sys2Proof.Machine.execStoreRead s
  | .programComplete => Sys2Proof.Machine.execProgramComplete s
  | .liftRequest crane => Sys2Proof.Machine.execLiftRequest crane s
  | .liftCancel crane => Sys2Proof.Machine.execLiftCancel crane s
  | .hookLoaded crane => Sys2Proof.Machine.execHookLoaded crane s
  | .hookPosition crane => Sys2Proof.Machine.execHookPosition crane s
  | .hookLanded crane => Sys2Proof.Machine.execHookLanded crane s
  | .stopAck port => Sys2Proof.Machine.execStopAck port s
  | .transferStart => Sys2Proof.Machine.execTransferStart s
  | .transferEnd => Sys2Proof.Machine.execTransferEnd s
  | .transferClear => Sys2Proof.Machine.execTransferClear s
  | .reservationExpiry crane => Sys2Proof.Machine.execReservationExpiry crane s
  | .ackTimerExpiry port => Sys2Proof.Machine.execAckTimerExpiry port s
  | .sweepTimerExpiry => Sys2Proof.Machine.execSweepTimerExpiry s
  | .conversionEnd count => Sys2Proof.Machine.execConversionEnd count s
  | .holdTimerExpiry tank => Sys2Proof.Machine.execHoldTimerExpiry tank s
  | .permitJobComplete => Sys2Proof.Machine.execPermitJobComplete s
  | .liveJobComplete => Sys2Proof.Machine.execLiveJobComplete s
  | .trialJobComplete => Sys2Proof.Machine.execTrialJobComplete s
  | .testJobComplete => Sys2Proof.Machine.execTestJobComplete s

end Sys2Proof.Machine
end

