-- ==== Sys2Proof/Machine/Wire.lean ====
section
/-!
DEFINITION. The outbound frames as they travel: the kind octets of R178, the widths of R179 and R10, and the payload of
every outbound message and order. The order and layout that no rule gives are assumptions 15, 16 and 32.
-/

namespace Sys2Proof.Machine

/-! ### Fields (R179) -/

/-- A field of `n` octets, most significant octet first, in two's complement (R179). -/
def octets (n : Nat) (v : Int) : List Byte := (List.range n).map fun i => BitVec.ofInt 8 (v / 256 ^ (n - 1 - i))

/-- A field of `n` octets that may carry the absent marker, all ones (R10). -/
def octetsOr (n : Nat) (v : Option Int) : List Byte := octets n (v.getD (-1))

/-- A field of `n` octets that carries a count, an identifier or an octet value. -/
def octetsN (n : Nat) (v : Nat) : List Byte := octets n (Int.ofNat v)

/-- A 16-bit serial. -/
def serialOctets (s : Serial) : List Byte := octetsN 2 s.toNat

/-- A flag octet, 0 or 1. -/
def flagOctet (b : Bool) : List Byte := octetsN 1 (bitOf b 1)

/-- A position, y signed. -/
def posOctets (q : Pos) : List Byte := octets 3 q.x ++ octets 3 q.y ++ octets 3 q.z

/-- A measured draught, a mean, or the absent marker. -/
def draughtOctets (d : Option Int) : List Byte := octetsOr 3 d

/-! ### Enumerations (R178, R179; assumption 15 where no rule numbers them) -/

/-- The refusal codes, 1 to 23 (R178). -/
def Code.num : Code → Nat
  | .unknownKind => 1
  | .badField => 2
  | .notInService => 3
  | .wrongMode => 4
  | .portPaired => 5
  | .craneBusy => 6
  | .queueFull => 7
  | .overSwl => 8
  | .outOfReach => 9
  | .stopped => 10
  | .noPermit => 11
  | .conditionUnsettled => 12
  | .portsBusy => 13
  | .duplicateLot => 14
  | .noSuchLot => 15
  | .badSpace => 16
  | .outOfSpace => 17
  | .poolFull => 18
  | .lotInMotion => 19
  | .storeBusy => 20
  | .bufferHeld => 21
  | .trialBusy => 22
  | .trialFull => 23

/-- The part modes (R179). -/
def Mode.num : Mode → Nat
  | .starting => 0
  | .service => 1
  | .commissioning => 2
  | .degraded => 3

/-- The stop criteria (R179). -/
def Criterion.num : Criterion → Nat
  | .heel => 0
  | .gm => 1
  | .draught => 2
  | .shear => 3
  | .bending => 4

/-- The alarm levels, from the lowest. -/
def Level.num : Level → Nat
  | .advisory => 0
  | .limit => 1
  | .hard => 2

/-- The states of an alarm entry, in R150's order. -/
def EntryState.num : EntryState → Nat
  | .activeUnack => 0
  | .activeAck => 1
  | .clearedUnack => 2

/-- The outcome of a notice: a state, or REMOVED, DISPLACED, NOT_LISTED after them (R157). -/
def NoticeOutcome.num : NoticeOutcome → Nat
  | .state s => s.num
  | .removed => 3
  | .displaced => 4
  | .notListed => 5

/-- The strength sets, as setting 13 (R167). -/
def StrengthSet.num : StrengthSet → Nat
  | .harbour => 0
  | .seagoing => 1

/-- The job kinds, in R39's order. -/
def JobKind.num : JobKind → Nat
  | .live => 0
  | .permit => 1
  | .trial => 2
  | .test => 3

/-- The status of a result, in the order of R160's outcomes. -/
def ResultStatus.num : ResultStatus → Nat
  | .none => 0
  | .pending => 1
  | .result => 2
  | .invalid => 3

/-- The page states, in R181's order. -/
def PageState.num : PageState → Nat
  | .blank => 0
  | .written => 1
  | .torn => 2

/-- The stop states, in R146's order. -/
def StopState.num : StopState → Nat
  | .none => 0
  | .sent => 1
  | .acked => 2
  | .unanswered => 3

/-- The filing states. -/
def FilingState.num : FilingState → Nat
  | .offVessel => 0
  | .filed => 1
  | .unfiled => 2

/-- The report states. -/
def ReportState.num : ReportState → Nat
  | .implausible => 0
  | .withinDeadband => 1
  | .applied => 2

/-- The reset causes, in R184's order. -/
def Cause.num : Cause → Nat
  | .powerOn => 0
  | .line => 1
  | .restart => 2

/-- Who entered a lot: the crane's number, 0 for the console. -/
def EnteredBy.num : EnteredBy → Nat
  | .console => 0
  | .crane c => craneNum c

/-- An end of a lift as an octet (R5). -/
def LiftEnd.octet : LiftEnd → Nat
  | .quay => 254
  | .space a => a

/-- The octets of a field of R10's table. -/
def itemWidth (f : Nat) : Nat :=
  if f ∈ [1, 8, 9, 13, 14, 18, 22, 28] then 1 else if f ∈ [12, 19, 20, 23, 26, 32] then 2 else 3

/-! ### Payloads (R178, R179) -/

/-- What a DONE carries, for the kind it answers. The answered kind is not itself a field (assumption 16). -/
def DoneBody.payload (answers : Byte) : DoneBody → List Byte
  | .plain => []
  | .entry serial => serialOctets serial
  | .stored serial v => serialOctets serial ++ octets (if answers = kSetDensity then 2 else 3) v
  | .setting id v => octetsN 1 id ++ octetsN 5 v
  | .count n => octetsN 1 n
  | .loaded pg n past => octetsN 1 pg ++ octetsN 1 n ++ flagOctet past
  | .page pg st => octetsN 1 pg ++ octetsN 1 st.num
  | .permit n => octetsN 1 n
  | .landed st pos => octetsN 1 st.num ++ (match pos with
    | some q => posOctets q
    | none => [])
  | .report st => octetsN 1 st.num
  | .stop st => octetsN 1 st.num
  | .transfer id active => octetsN 1 id ++ octetsN 1 active

/-- The summary fields of R164, all absent markers when there is no record. -/
def summaryOctets (r : Option Result) : List Byte :=
  let f (n : Nat) (g : Result → Int) : List Byte := octetsOr n (r.map g)
  f 1 (fun r => r.kind.num) ++ f 2 (fun r => r.serial.toNat)
    ++ f 3 Result.disp ++ f 3 Result.lcg ++ f 3 Result.tcg ++ f 3 Result.kg ++ f 6 Result.fsc
    ++ f 3 Result.gmf ++ f 2 Result.heel
    ++ f 3 Result.trim ++ f 3 Result.ta ++ f 3 Result.tf ++ f 3 Result.maxDraught
    ++ f 1 (fun r => r.strength.worstSf) ++ f 2 (fun r => r.strength.worstSfPm)
    ++ f 1 (fun r => r.strength.worstBm) ++ f 2 (fun r => r.strength.worstBmPm)
    ++ f 1 (fun r => r.strength.set.num) ++ f 1 (fun r => r.flags.octet)

/-- SUMMARY's 30 octets (R179). -/
def Summary.payload (s : Summary) : List Byte :=
  let f (n : Nat) (g : LiveSummary → Int) : List Byte := octetsOr n (s.live.map g)
  serialOctets s.serial ++ octetsN 1 s.mode.num ++ flagOctet s.live.isSome
    ++ f 2 (fun r => r.serial.toNat) ++ f 3 LiveSummary.disp ++ f 2 LiveSummary.heel ++ f 3 LiveSummary.gmf
    ++ f 3 LiveSummary.trim ++ f 3 LiveSummary.ta ++ f 3 LiveSummary.tf
    ++ f 2 LiveSummary.worstSfPm ++ f 2 LiveSummary.worstBmPm
    ++ flagOctet s.stop ++ octetsN 1 (linesOctet s.ala s.all s.alh)
    ++ octetsN 1 (markersOctet s.markAdvisory s.markLimit)

/-- A failing value of LIFT_REFUSED (R88). -/
def FailValue.payload : FailValue → List Byte
  | .heel h m => octets 2 h ++ octets 6 m
  | .gm v => octets 3 v
  | .draught v => octets 3 v
  | .shear pm st => octets 2 pm ++ octetsN 1 st
  | .bending pm st => octets 2 pm ++ octetsN 1 st
  | .capacity w c => octets 3 w ++ octets 3 c

/-- LOT_INFO (R163): the fields of the three holders in one layout, absent where they do not apply. -/
def LotInfo.payload : LotInfo → List Byte
  | .stowed l position =>
    octetsN 1 0 ++ octetsN 1 l.loc ++ octetsN 2 position ++ octets 3 l.weight ++ posOctets l.pos
      ++ octetsN 1 l.entered.num ++ octetsN 4 l.landed.toNat
      ++ octets 1 (-1) ++ octets 3 (-1) ++ octets 1 (-1) ++ octets 1 (-1) ++ octets 1 (-1) ++ octets 1 (-1)
      ++ octets 1 (-1)
  | .hooked c l h =>
    octetsN 1 1 ++ octetsN 1 255 ++ octets 2 (-1) ++ octets 3 l.weight ++ octets 3 h.x ++ octets 3 h.y ++ octets 3 (-1)
      ++ octets 1 (-1) ++ octets 4 (-1)
      ++ octetsN 1 (craneNum c) ++ octets 3 h.h ++ flagOctet (decide (h.source = .unknown)) ++ flagOctet l.unpermitted
      ++ octetsN 1 l.permit ++ octetsN 1 l.origin.octet
      ++ octetsN 1 (match l.dest with
        | some d => d.octet
        | none => 255)
  | .unfiled f =>
    octetsN 1 2 ++ octetsN 1 255 ++ octets 2 (-1) ++ octets 3 f.weight ++ posOctets f.pos
      ++ octets 1 (-1) ++ octetsN 4 f.landed.toNat
      ++ octetsN 1 (craneNum f.crane) ++ octets 3 (-1) ++ octets 1 (-1) ++ octets 1 (-1) ++ octets 1 (-1)
      ++ octets 1 (-1) ++ octetsN 1 f.dest

/-- One verdict of START_REPORT, with its first failing figure (R187, assumption 15). -/
def Verdict.payload : Verdict → List Byte
  | .pass => octetsN 1 0 ++ octetsN 1 255
  | .fail figure => octetsN 1 1 ++ octetsN 1 figure
  | .notRun => octetsN 1 2 ++ octetsN 1 255

/-- The index of an inconsistent change, where one is carried (R164, R170). -/
def indexOctets : Option Nat → List Byte
  | some i => octetsN 1 i
  | none => []

/-- The payload of an outbound message. The widths of LIFT_GRANTED's window and of START_REPORT's page and lot numbers
are assumption 44; what START_REPORT's number of test conditions counts is assumption 45. -/
def OutMsg.payload : OutMsg → List Byte
  | .done answers body => body.payload answers
  | .refused kind code => kind :: octetsN 1 code.num
  | .summary s => s.payload
  | .value addr field run items =>
    octetsN 1 addr ++ octetsN 1 field ++ (if run then octetsN 1 items.length else [])
      ++ items.flatMap fun e => octetsN 1 e.1 ++ octetsOr (itemWidth field) e.2
  | .stow addr kind size start lots =>
    octetsN 1 addr ++ octetsN 1 kind ++ octetsOr 2 (size.map fun e => Int.ofNat e.1) ++ octetsOr 3 (size.map Prod.snd)
      ++ octetsN 2 start ++ octetsN 1 lots.length ++ lots.flatMap fun e => octetsN 2 e.1 ++ octets 3 e.2
  | .lotInfo info => info.payload
  | .result trial status r aft fwd index =>
    flagOctet trial ++ octetsN 1 status.num ++ summaryOctets r
      ++ (if trial then indexOctets index else draughtOctets aft ++ draughtOctets fwd)
  | .strength trial status head first count values =>
    flagOctet trial ++ octetsN 1 status.num ++ octetsOr 2 (head.map fun e => Int.ofNat e.1.toNat)
      ++ octetsOr 1 (head.map fun e => Int.ofNat e.2.num) ++ octetsN 1 first ++ octetsN 1 count
      ++ (List.range count).flatMap fun i =>
        let v := values[i]?
        octetsOr 3 (v.map StationValues.sf) ++ octetsOr 6 (v.map StationValues.bm)
          ++ octetsOr 2 (v.map StationValues.sfPm) ++ octetsOr 2 (v.map StationValues.bmPm)
  | .alarms count ma ml a l h items =>
    octetsN 1 count ++ octetsN 1 (markersOctet ma ml) ++ octetsN 1 (linesOctet a l h)
      ++ items.flatMap fun e => octetsN 1 e.1 ++ octetsN 1 e.2.key.kind.code ++ octetsN 1 e.2.key.subject.octet
        ++ octetsN 1 e.2.level.num ++ octetsN 1 e.2.state.num ++ octetsN 4 e.2.raised.toNat
  | .setting id v => octetsN 1 id ++ octetsN 5 v
  | .storeData page st words =>
    octetsN 1 page ++ octetsN 1 st.num ++ words.flatMap fun w => octetsN 4 w.toNat
  | .trialResult serial status r index =>
    octetsN 1 status.num ++ indexOctets index ++ summaryOctets r ++ serialOctets serial
  | .notice n =>
    octetsN 1 n.key.kind.code ++ octetsN 1 n.key.subject.octet ++ octetsN 1 n.key.kind.level.num
      ++ octetsN 1 n.outcome.num ++ octetsN 4 n.raised.toNat ++ octetsN 1 n.count
      ++ octetsN 1 (markersOctet n.markAdvisory n.markLimit)
  | .startReport r =>
    octetsN 1 r.cause.num ++ octetsN 1 r.mode.num ++ flagOctet r.strap ++ flagOctet r.usable ++ flagOctet r.storeFault
      ++ octetsN 2 r.written ++ octetsN 2 r.torn ++ octetsN 1 r.tests.length ++ r.tests.flatMap Verdict.payload
      ++ octetsN 2 r.kept ++ octetsN 2 r.dropped ++ octetsN 2 r.free
  | .liftGranted permit reserved window serial =>
    octetsN 1 permit ++ octetsN 1 reserved ++ octetsN 5 window ++ serialOctets serial
  | .liftRefused criterion candidate serial v =>
    octetsN 1 criterion ++ octetsN 1 candidate ++ serialOctets serial ++ v.payload
  | .liftExpired permit => octetsN 1 permit
  | .liftWithdrawn permit c => octetsN 1 permit ++ octetsN 1 c.num
  | .late lot permit => octetsN 2 lot ++ octetsN 1 permit
  | .counterAdvice c moment serial => octetsN 1 (craneNum c) ++ octets 6 moment ++ serialOctets serial

/-- The kind octet of an outbound message (R178). -/
def OutMsg.kind : OutMsg → Byte
  | .done _ _ => 128
  | .refused _ _ => 129
  | .summary _ => 130
  | .value _ _ _ _ => 144
  | .stow _ _ _ _ _ => 145
  | .lotInfo _ => 146
  | .result _ _ _ _ _ _ => 147
  | .strength _ _ _ _ _ _ => 148
  | .alarms _ _ _ _ _ _ _ => 149
  | .setting _ _ => 150
  | .storeData _ _ _ => 151
  | .trialResult _ _ _ _ => 152
  | .notice _ => 153
  | .startReport _ => 154
  | .liftGranted _ _ _ _ => 160
  | .liftRefused _ _ _ _ => 161
  | .liftExpired _ => 162
  | .liftWithdrawn _ _ => 163
  | .late _ _ => 164
  | .counterAdvice _ _ _ => 176

/-- The kind octet of an order (R178). -/
def Order.kind : Order → Byte
  | .stop _ _ => 131
  | .resume _ => 132

/-- The payload of an order (R179). -/
def Order.payload : Order → List Byte
  | .stop c serial => octetsN 1 c.num ++ serialOctets serial
  | .resume serial => serialOctets serial

/-- The frame that a port is sending, as it travels; none while data out is held at 1 (R172, R174, R175). -/
def Link.onLine (l : Link) : Option (List Byte) :=
  match l.sending with
  | some .order => l.slot.map fun o => frameOctets o.kind o.payload
  | some (.frame m) => some (frameOctets m.kind m.payload)
  | none => none

end Sys2Proof.Machine
end

