-- ==== Sys2Proof/Safety.lean ====
section
/-!
DEFINITION. What the manual promises of every state between two events, as decidable predicates: the bounds of the
links (R173 to R176), of the alarm list (R150, R154), the page store's form (R181), the lot pool (R15, R23), and the
agreement of the lift records with the permit queue, the filing list and each other (R16, R23, R85, R106), the ranges
of the settings (R167). And the words in which the statements speak of one command: a frame that is taken, its reply,
and what else may change with it.
-/

namespace Sys2Proof.Machine

/-! ### Links -/

/-- A port's buffers and counts within their bounds, `held` entries of the queue being held for a later reply; a
waiting order only while the slot's order is being sent (R173, R174, R175, R176). -/
abbrev Link.wf (held : Nat) (l : Link) : Prop :=
  l.bad ≤ 3 ∧ l.inbound.length ≤ Config.inboundSize ∧ l.reserved = held ∧
    l.queue.length + l.reserved ≤ Config.outboundSize ∧ l.queue.countP OutMsg.isSummary ≤ 1 ∧
    (l.waiting ≠ none → l.sending = some .order) ∧ (l.sending = some .order → l.slot ≠ none)

/-- The entries held for a reply on a port: one on port P while a programming operation runs (R183). -/
def State.heldEntries (s : State) (q : Port) : Nat := if q = .p ∧ s.hds.prog.isSome = true then 1 else 0

/-- Every port within its bounds. -/
abbrev State.linksWf (s : State) : Prop := ∀ q ∈ ports, (s.link q).wf (s.heldEntries q)

/-! ### Alarms -/

/-- The eight kind and subject pairs of the HARD level (R151). -/
def hardKeys : List AlarmKey :=
  [⟨.gmNegative, .none⟩, ⟨.storeFault, .none⟩, ⟨.testConditionFail, .none⟩, ⟨.stopUnanswered, .port .c1⟩,
    ⟨.stopUnanswered, .port .c2⟩, ⟨.stopUnanswered, .port .c3⟩, ⟨.stopUnanswered, .port .c4⟩,
    ⟨.stopUnanswered, .port .b⟩]

/-- The alarm list within its bounds: no kind and subject twice, at most 24 entries of the two lower levels, every HARD
entry one of the eight pairs; an active entry's condition is one that its block holds raised, and a HARD condition that
a block holds raised has its active entry, so that ALH shows it (R150, R151, R152, R154, R156). -/
abbrev Als.wf (a : Als) : Prop :=
  (a.entries.map AlarmEntry.key).Nodup ∧ a.lowerCount ≤ Config.lowerAlarms ∧
    (∀ e ∈ a.entries, e.key.kind.level = .hard → e.key ∈ hardKeys) ∧ a.held.Nodup ∧
    (∀ e ∈ a.entries, e.state.active = true → e.key ∈ a.held) ∧
    ∀ k ∈ a.held, k.kind.level = .hard → ∃ e ∈ a.entries, e.key = k ∧ e.state.active = true

/-- The alarm list within its bounds, and port P without a stop state (R138, R151). -/
abbrev State.alarmsWf (s : State) : Prop := s.als.wf ∧ (s.stopPort .p).state = .none

/-! ### The page store -/

/-- The page store's one form: cells and torn pages by rising key inside the 256 pages, no blank cell, no cell on a torn
page. -/
abbrev Store.wf (t : Store) : Prop :=
  (t.cells.map Prod.fst).Pairwise (· < ·) ∧ (∀ e ∈ t.cells, e.1 < Config.pageCount * Config.pageEntries) ∧
    (∀ e ∈ t.cells, e.2 ≠ blankEntry) ∧ (t.torn.map Prod.fst).Pairwise (· < ·) ∧
    (∀ e ∈ t.torn, e.1 < Config.pageCount) ∧ ∀ e ∈ t.cells, lookup t.torn (e.1 / Config.pageEntries) = none

/-- The page buffer's form: loaded indices rising, 0 to 63 (R182). -/
abbrev Buffer.wf (b : Buffer) : Prop :=
  (b.loaded.map Prod.fst).Pairwise (· < ·) ∧ ∀ e ∈ b.loaded, e.1 < Config.pageEntries

/-- The store and the buffer in their form, and the page being programmed one of the 256. -/
abbrev State.storeWf (s : State) : Prop :=
  s.hds.store.wf ∧ s.hds.buffer.wf ∧ s.hds.programming.getD 0 < Config.pageCount

/-! ### The lot pool and the filing list -/

/-- At most 512 records in use, and none free while a load waits to be filed (R15, R23). -/
abbrev State.poolWf (s : State) : Prop :=
  s.ct.lots.length ≤ Config.poolSize ∧ (s.ct.filing ≠ [] → s.ct.lots.length = Config.poolSize)

/-! ### The lift records -/

/-- Whether a record is PENDING. -/
def LiftRec.isPending : LiftRec → Bool
  | .pending _ _ => true
  | _ => false

/-- The tandem request or permit that a record holds before lift-off (R107). -/
def LiftRec.asksTandem : LiftRec → Bool
  | .pending r _ => r.tandem.isSome
  | .granted r _ _ _ => r.tandem.isSome
  | _ => false

/-- The lot of the tandem lift that a record holds on the hooks (R107). -/
def LiftRec.tandemLot : LiftRec → Option Nat
  | .hooked l => if l.tandem.isSome then some l.lot else none
  | _ => none

/-- The lot of a HOOKED record. -/
def LiftRec.hookedLot : LiftRec → Option Nat
  | .hooked l => some l.lot
  | _ => none

/-- The lot of a LANDED_UNFILED record. -/
def LiftRec.unfiledLot : LiftRec → Option Nat
  | .unfiled n _ => some n
  | _ => none

/-- The permit queue holds each port with a PENDING record once, and no other (R85). -/
abbrev State.queueWf (s : State) : Prop :=
  s.lcu.queue.Nodup ∧ ∀ c ∈ cranes, (c ∈ s.lcu.queue ↔ (s.lift c).isPending = true)

/-- The filing list holds one entry for each LANDED_UNFILED record, of its lot, and no other (R23). -/
abbrev State.filingWf (s : State) : Prop :=
  (s.ct.filing.map Filing.crane).Nodup ∧
    (∀ c ∈ cranes, (s.lift c).unfiledLot = (s.ct.filing.find? fun f => f.crane == c).map Filing.num)

/-- While the part is out of reset: a lower port's tandem lift and its partner's record go together, a tandem request
needs an idle partner, and the upper port of a pair that is on is IDLE or TANDEM_PARTNER (R105, R106, R109). -/
def State.tandemOk (s : State) (c : Crane) : Bool :=
  match s.lift c with
  | .partner n k =>
    isUpper c && s.lcu.paired c && decide (k = mate c) && decide ((s.lift k).tandemLot = some n)
  | .pending r _ | .granted r _ _ _ =>
    !s.upperPaired c && (r.tandem.isNone || (s.lcu.paired c && !isUpper c && decide (s.lift (mate c) = .idle)))
  | .hooked l =>
    !s.upperPaired c &&
      (l.tandem.isNone || (s.lcu.paired c && !isUpper c && decide (s.lift (mate c) = .partner l.lot c)))
  | .unfiled _ _ => !s.upperPaired c
  | .idle => true

/-- In reset: records are IDLE, HOOKED or LANDED_UNFILED, and a retained tandem lift's partner is IDLE (R78). -/
def State.resetOk (s : State) (c : Crane) : Bool :=
  match s.lift c with
  | .hooked l => l.tandem.isNone || (!isUpper c && decide (s.lift (mate c) = .idle))
  | .idle | .unfiled _ _ => true
  | .pending _ _ | .granted _ _ _ _ | .partner _ _ => false

/-- The lift records agree with each other (R78, R105, R106). -/
abbrev State.recordsWf (s : State) : Prop :=
  ∀ c ∈ cranes, (if s.phase = .running then s.tandemOk c else s.resetOk c) = true

/-- The lot numbers that stow lists, hooks and the filing list hold (R16). -/
def State.heldLots (s : State) : List Nat :=
  s.ct.lots.map Lot.num ++ (cranes.filterMap fun c => (s.lift c).hookedLot) ++ s.ct.filing.map Filing.num

/-- Each lot number is held in one place (R16), and the records, queue and filing list agree (R15, R23, R85, R106). -/
abbrev State.liftsWf (s : State) : Prop :=
  s.heldLots.Nodup ∧ s.poolWf ∧ s.queueWf ∧ s.filingWf ∧ s.recordsWf

/-- Everything that the predicates above promise of a state between two events. -/
abbrev State.wf (s : State) : Prop := s.linksWf ∧ s.alarmsWf ∧ s.storeWf ∧ s.liftsWf

/-! ### Settings and permit numbers -/

/-- Every numeric setting in its range (R167). -/
abbrev Settings.inRange (t : Settings) : Prop :=
  (10 ≤ t.reservation ∧ t.reservation ≤ 600) ∧ (5 ≤ t.ackWindow ∧ t.ackWindow ≤ 300) ∧
    (2 ≤ t.summaryPeriod ∧ t.summaryPeriod ≤ 50) ∧ (5 ≤ t.silenceWindow ∧ t.silenceWindow ≤ 100) ∧
    (10 ≤ t.resolution ∧ t.resolution ≤ 16) ∧ (3 ≤ t.sweepPeriod ∧ t.sweepPeriod ≤ 50) ∧ t.soundingDeadband ≤ 50 ∧
    (20 ≤ t.stepLimit ∧ t.stepLimit ≤ 2000) ∧ (10 ≤ t.holdLimit ∧ t.holdLimit ≤ 600) ∧
    (20 ≤ t.draughtTolerance ∧ t.draughtTolerance ≤ 500) ∧
    (t.draughtLimit = 0 ∨ (1000 ≤ t.draughtLimit ∧ t.draughtLimit ≤ 20000)) ∧
    (10 ≤ t.hookDeadband ∧ t.hookDeadband ≤ 1000)

/-- A permit number's range (R12). -/
abbrev permitNumber (n : Nat) : Prop := 1 ≤ n ∧ n ≤ 255

/-- The permit number that a GRANTED record holds. -/
def LiftRec.permit : LiftRec → Option Nat
  | .granted _ n _ _ => some n
  | _ => none

/-- Settings in their ranges, at most 16 trial changes, and permit numbers from 1 to 255 (R12, R167, R169). -/
abbrev State.rangesWf (s : State) : Prop :=
  s.settings.inRange ∧ s.csv.trial.length ≤ Config.trialSize ∧ permitNumber s.lcu.counter ∧
    ∀ c ∈ cranes, ∀ n ∈ (s.lift c).permit, permitNumber n

/-! ### Tables and live records -/

/-- The stations and midpoints of a hull (R65). -/
abbrev Hull.staged (h : Hull) : Prop :=
  h.stations = (List.range 21).map (fun k => rdiv (k * h.lbp) 20) ∧
    h.mids = (List.range 20).map fun j => rdiv (nth h.stations j + nth h.stations (j + 1)) 2

/-- The working tables hold what passed its check: a hull of 20 segments that sum to its weight, with the stations of
its length; 2 to 40 hydrostatic rows of rising displacement with shares that sum to 1,000; allowables above zero for 21
stations; compartments by rising address with ordered boxes and spans, tanks of a depth that is not negative and of
points of rising sounding, constants inside their boxes; calibrations by rising channel with a range that is not
negative and a span above zero (R7 to R9, R60, R65, R68, R69, R73, R121, R186). -/
abbrev Tables.wf (t : Tables) : Prop :=
  (∀ h ∈ t.hull, h.segments.length = 20 ∧ sumOf h.segments = h.weight ∧ 40000 ≤ h.lbp ∧ h.lbp ≤ 250000 ∧ h.staged) ∧
    (∀ rows ∈ t.hydro, 2 ≤ rows.length ∧ rows.length ≤ 40 ∧ (rows.map HydroRow.disp).Pairwise (· < ·) ∧
      ∀ r ∈ rows, 0 < r.mct ∧ r.shares.length = 20 ∧ (∀ v ∈ r.shares, 0 ≤ v) ∧ sumOf r.shares = 1000) ∧
    (∀ st ∈ t.strength, st.harbour.length = 21 ∧ st.seagoing.length = 21 ∧
      ∀ a ∈ st.harbour ++ st.seagoing, 1 ≤ a.sf ∧ 1 ≤ a.hog ∧ 1 ≤ a.sag) ∧
    (t.comps.map Prod.fst).Pairwise (· < ·) ∧
    (∀ e ∈ t.comps, e.2.box.xAft ≤ e.2.box.xFwd ∧ e.2.box.yPort ≤ e.2.box.yStbd ∧ e.2.box.zLow ≤ e.2.box.zHigh ∧
      e.2.first ≤ e.2.last ∧ e.2.last ≤ 19 ∧ e.1 < 128 ∧
      (∀ d ∈ t.tank e.1, 0 ≤ d.depth ∧ (d.table.map TankPoint.sounding).Pairwise (· < ·)) ∧
      ∀ d ∈ t.const e.1, d.1.holds d.2.pos = true) ∧
    (t.calib.map Prod.fst).Pairwise (· < ·) ∧ ∀ e ∈ t.calib, e.1 < 36 ∧ 0 ≤ e.2.range ∧ e.2.zero < e.2.span

/-- While the part runs, each lot lies in the box of its CARGO space, each waiting load in the box of its destination,
and each constant in its own (R15, R20, R30, R36; for a waiting load across a reset assumption 40). -/
abbrev State.boxesWf (s : State) : Prop :=
  s.phase = .running →
    (∀ l ∈ s.ct.lots, ((s.tables.cargo l.loc).any fun e => e.1.holds l.pos) = true) ∧
    (∀ f ∈ s.ct.filing, ((s.tables.cargo f.dest).any fun e => e.1.holds f.pos) = true) ∧
    ∀ e ∈ s.ct.consts, ((s.tables.const e.1).all fun d => d.1.holds e.2.pos) = true

/-- The tables, one capacity state, live tank and live constant for each defined address of the kind, a record for each
channel and each tank address, the transfer list by rising id, positions inside their boxes, and the reset line released
while the part runs and held while it stays in reset with power good (R6, R15, R18, R24, R30, R120, R134, R184). -/
abbrev State.shapeWf (s : State) : Prop :=
  s.tables.wf ∧ s.ct.spaces.map Prod.fst = s.tables.cargoAddrs ∧ s.ct.tanks.map Prod.fst = s.tables.tankAddrs ∧
    s.ct.consts.map Prod.fst = s.tables.constAddrs ∧ s.tgt.chans.map Prod.fst = List.range 36 ∧
    s.tgt.gauges.map Prod.fst = (List.range 32).map (80 + ·) ∧ (s.tgt.transfers.map Transfer.id).Pairwise (· < ·) ∧
    (∀ t ∈ s.tgt.transfers, 1 ≤ t.id ∧ t.id ≤ 4) ∧ s.boxesWf ∧
    (s.phase = .running → s.line = false) ∧ (s.phase = .held → s.line = true)

/-! ### The evaluator's choice (R41, R42) -/

/-- Past the start-up, the evaluator is IDLE only while no job is wanted (R40 to R42). -/
abbrev State.noJobWaits (s : State) : Prop :=
  s.phase = .running → s.hds.mode ≠ .starting → s.sev.state = .idle →
    s.dirty = false ∧ s.lcu.queue = [] ∧ s.sev.trialWanted = false

/-! ### What the statements say of one command -/

/-- The serving block of a port takes a frame of this kind and payload now (R80, R160, R174). -/
abbrev State.takes (s : State) (q : Port) (k : Byte) (p : List Byte) : Prop :=
  s.phase = .running ∧ s.hds.mode ≠ .starting ∧ (q = .p → s.csv.restartPending = false) ∧
    (s.link q).inbound.head? = some ⟨k, p⟩ ∧ (s.link q).queue.length + (s.link q).reserved < Config.outboundSize

/-- A crane's port takes a frame now, and the crane is defined (R6, R80). -/
abbrev State.takesAt (s : State) (c : Crane) (k : Byte) (p : List Byte) : Prop :=
  s.takes (portOf c) k p ∧ (s.tables.crane c).isSome = true

/-- A frame of a port taken and answered, and nothing else (R173, R174): the frame leaves the inbound buffer and the
reply joins the outbound queue, or goes on the line when nothing else waits. -/
def State.replied (s : State) (q : Port) (m : OutMsg) : State :=
  s.setLink q { s.link q with inbound := (s.link q).inbound.tail, queue := (s.link q).queue ++ [m] }.start

/-- The message that joined a port's outbound queue last, when it has not been sent (R174). -/
def Link.newest (l : Link) : Option OutMsg :=
  match l.queue.getLast?, l.sending with
  | some m, _ => some m
  | none, some (.frame m) => some m
  | none, _ => none

/-- The frame commands, each with its port and the octet of its kind (R178). -/
def frameKind : Instr → Option (Port × Nat)
  | .readItem => some (.p, 1)
  | .readRun => some (.p, 2)
  | .readStow => some (.p, 3)
  | .readLot => some (.p, 4)
  | .readResult => some (.p, 5)
  | .readStrength => some (.p, 6)
  | .readAlarms => some (.p, 7)
  | .readSetting => some (.p, 8)
  | .setConstant => some (.p, 9)
  | .enterLot => some (.p, 10)
  | .removeLot => some (.p, 11)
  | .shiftLot => some (.p, 12)
  | .setDensity => some (.p, 13)
  | .setManual => some (.p, 14)
  | .releaseManual => some (.p, 15)
  | .setSetting => some (.p, 16)
  | .trialBegin => some (.p, 17)
  | .trialAdd => some (.p, 18)
  | .trialRun => some (.p, 19)
  | .ackAlarm => some (.p, 20)
  | .restart => some (.p, 21)
  | .storeLoad => some (.p, 22)
  | .storeProgram => some (.p, 23)
  | .storeDiscard => some (.p, 24)
  | .storeRead => some (.p, 25)
  | .liftRequest c => some (portOf c, 48)
  | .liftCancel c => some (portOf c, 49)
  | .hookLoaded c => some (portOf c, 50)
  | .hookPosition c => some (portOf c, 51)
  | .hookLanded c => some (portOf c, 52)
  | .stopAck q => if q = .p then none else some (q, 53)
  | .transferStart => some (.b, 64)
  | .transferEnd => some (.b, 65)
  | .transferClear => some (.b, 66)
  | .powerOn _ | .lineReset _ | .resetHold _ | .frameReceived _ _ | .linkBreak _ _ | .silenceTimerExpiry _
  | .frameSent _ _ | .summaryTimerExpiry | .unknownKind _ | .programComplete | .reservationExpiry _
  | .ackTimerExpiry _ | .sweepTimerExpiry | .conversionEnd _ | .holdTimerExpiry _ | .permitJobComplete
  | .liveJobComplete | .trialJobComplete | .testJobComplete => none

/-- The kinds that have one payload length, with it: the sum of the widths of their fields (R179). -/
def kindLengths : List (Nat × Nat) :=
  [(1, 2), (2, 3), (3, 4), (4, 2), (5, 1), (6, 3), (7, 1), (8, 1), (9, 13), (10, 15), (11, 2), (12, 12), (13, 3),
    (14, 4), (15, 1), (16, 6), (17, 0), (19, 0), (20, 2), (21, 0), (23, 1), (24, 0), (25, 3), (49, 1), (50, 16),
    (51, 9), (52, 10), (53, 0), (64, 3), (65, 1), (66, 0)]

/-- The lengths of TRIAL_ADD by the octet of its change kind (R169, R179, assumption 15). -/
def changeLengths : List (Nat × Nat) := [(0, 16), (1, 3), (2, 13), (3, 5), (4, 14), (5, 14)]

/-- A payload has a length that its kind requires: TRIAL_ADD by its change kind, a change kind that is none of the six
being left to R169 (assumption 17), STORE_LOAD by its 1 to 12 values, LIFT_REQUEST by its tandem flag (R169, R173, R179,
R182). -/
def fitsKind (k : Nat) (p : List Byte) : Prop :=
  if k = 18 then ∃ ch rest, p = ch :: rest ∧ ((ch.toNat, p.length) ∈ changeLengths ∨ 6 ≤ ch.toNat)
  else if k = 22 then ∃ n, 1 ≤ n ∧ n ≤ 12 ∧ p.length = 2 + 4 * n
  else if k = 48 then (p.length = 27 ∧ p[26]? ≠ some 1) ∨ (p.length = 41 ∧ p[26]? = some 1)
  else (k, p.length) ∈ kindLengths

/-- The messages that joined a port's outbound queue between `l` and `l'`, behind those that waited in `l`; a free
transmitter may have taken the first of them (R174). -/
def Link.joined (l l' : Link) : List OutMsg :=
  ((match l.sending, l'.sending with
    | none, some (.frame m) => [m]
    | _, _ => []) ++ l'.queue).drop l.queue.length

/-- The notices among messages (R157). -/
def noticesOf (msgs : List OutMsg) : List OutMsg := msgs.filter fun m => match m with
  | .notice _ => true
  | _ => false

/-- The state `s` with what a change of the alarm list brings taken from `t`, and nothing else: the alarm list, and on
port P the notices that joined the queue behind what waited, the first going on the line when it was free (R157, R174).
-/
def State.noting (s t : State) : State :=
  let l := s.link .p
  let notices := noticesOf (l.joined (t.link .p))
  { s.setLink .p (if notices = [] then l else { l with queue := l.queue ++ notices }.start) with als := t.als }

/-- A space judged after an operation (R18): when its load gives another capacity state, that state is written and
OVER_CAPACITY is raised, unless it stands raised already, or cleared. -/
def State.spaceJudged (s : State) (a : Nat) : State :=
  let heavy : AlarmKey := ⟨.overCapacity, .addr a⟩
  match s.tables.cargo a with
  | none => s
  | some (_, capacity) =>
    let next : CapState := if capacity < s.ct.load a then .over else .within
    if lookup s.ct.spaces a = some next then s
    else
      let u : State := { s with ct.spaces := adjust s.ct.spaces a fun _ => next }
      if s.ct.load a ≤ capacity then u.clear heavy else if heavy ∈ s.als.held then u else u.raise heavy

/-- A space judged after an operation that may have changed its load: its capacity state is what its load gives, and
OVER_CAPACITY is raised or cleared when that state changes (R18). -/
def State.capacityJudged (s t : State) (a : Nat) : Prop :=
  ∀ box capacity before, s.tables.cargo a = some (box, capacity) → lookup s.ct.spaces a = some before →
    lookup t.ct.spaces a = some (if capacity < t.ct.load a then .over else .within) ∧
    (before = .within → capacity < t.ct.load a → (⟨.overCapacity, .addr a⟩ : AlarmKey) ∈ t.als.held) ∧
    (before = .over → ¬ capacity < t.ct.load a → s.als.held.Nodup →
      (⟨.overCapacity, .addr a⟩ : AlarmKey) ∉ t.als.held)

/-- The measured draught of an end from its two channels (R132): both GOOD, the rounded mean of their last good values;
one GOOD, its own; neither GOOD, none. -/
def State.measured (s : State) (port starboard : Nat) : Option Int :=
  let good (ch : Nat) : Option Int := (lookup s.tgt.chans ch).bind fun c => if c.state = .good then c.lastGood else none
  match good port, good starboard with
  | some v, some w => some (rdiv (v + w) 2)
  | some v, none => some v
  | none, w => w

/-- The condition of SENSOR_FAULT for a tank: its channel is active and FAULT, or, once the first sweep is done, it has
no sounding and no active calibrated channel (R129). -/
def State.sensorFaulty (s : State) (a : Nat) (d : TankDef) : Prop :=
  (∃ ch c, d.channel = some ch ∧ ch ∈ s.tgt.active ∧ lookup s.tgt.chans ch = some c ∧ c.state = .fault) ∨
    (s.tgt.firstSweep = true ∧ (∃ live, lookup s.ct.tanks a = some live ∧ live.source = .none) ∧
      ∀ ch, d.channel = some ch → lookup s.tables.calib ch = none ∨ ch ∉ s.tgt.active)

/-- What it brings that the channels for which `gone` holds leave the active set at `now` (R26, R123, R130): each is
UNSWEPT with no candidate and no last good value; a SENSOR tank that names one goes to HELD with its sounding, its
release mark clear and its hold timer started, but for the start-up, where none starts (R137); a tank in another source
that names one loses its release mark alone. Every other channel, tank and gauge stays. -/
def State.leavesSweep (s t : State) (gone : Nat → Prop) (now : Nat) : Prop :=
  (∀ ch, (¬ gone ch → lookup t.tgt.chans ch = lookup s.tgt.chans ch) ∧
    (gone ch → (lookup s.tgt.chans ch).isSome = true → lookup t.tgt.chans ch = some ⟨.unswept, none, none⟩)) ∧
  ∀ a,
    let leaves := ∃ ch d, gone ch ∧ s.tables.tankOf ch = some (a, d)
    (¬ leaves → lookup t.ct.tanks a = lookup s.ct.tanks a ∧ t.tgt.gauge a = s.tgt.gauge a) ∧
    (leaves → ∀ live, lookup s.ct.tanks a = some live →
      (live.source = .sensor → lookup t.ct.tanks a = some { live with source := .held } ∧
        ((lookup s.tgt.gauges a).isSome = true → t.tgt.gauge a =
          ⟨false, if s.hds.mode = .starting then (s.tgt.gauge a).hold else some (now + s.settings.holdLimit * 1000)⟩)) ∧
      (live.source ≠ .sensor → lookup t.ct.tanks a = some live ∧
        t.tgt.gauge a = { s.tgt.gauge a with release := false }))

/-- SENSOR_FAULT stands for a tank exactly while its condition holds (R129); that each condition is held once is part of
the invariant `AlarmListStaysWithinBounds`. -/
def State.faultJudged (s t : State) (a : Nat) (d : TankDef) : Prop :=
  s.als.held.Nodup → ((⟨.sensorFault, .addr a⟩ : AlarmKey) ∈ t.als.held ↔ t.sensorFaulty a d)

/-! ### The items of an image (R52 to R57, R117) -/

/-- The weight that hangs on a crane's own hook: a single load, its share of a tandem lift, or nothing (R54). -/
def onHook (recs : PerCrane LiftRec) (c : Crane) : Option Int :=
  match recs.get c with
  | .hooked l => some ((l.tandem.map Shares.lower).getD l.weight)
  | .partner _ k => match recs.get k with
    | .hooked l => l.tandem.map Shares.upper
    | _ => none
  | _ => none

/-- What the items that no hook places add up to, each counted by `f`: the lightship, the lots, tanks and constants over
their spans, the filing list entries, and the loads that the image hangs (R52, R53, R55, R56). -/
def Scene.countFixed (sc : Scene) (t : Tables) (f : Item → Int) : Int :=
  let spread (a : Nat) : Reach := match t.comp a with
    | some e => .spread e.first e.last
    | none => .spread 0 0
  (match t.hull with
    | some h => f ⟨h.weight, h.pos, .arrayed⟩
    | none => 0) +
    sumOf (sc.lots.map fun l => f ⟨l.weight, l.pos, spread l.loc⟩) +
    sumOf (sc.tanks.map fun e => match t.tank e.1 with
      | some d => f ⟨e.2.weight, ⟨d.cx, d.cy, e.2.liqZ⟩, spread e.1⟩
      | none => 0) +
    sumOf (sc.consts.map fun e => f ⟨e.2.weight, e.2.pos, spread e.1⟩) +
    sumOf (sc.filing.map fun e => f ⟨e.weight, e.pos, .point⟩) +
    sumOf (sc.hung.map f)

/-- What one crane adds while its hook carries no load at an UNKNOWN position: its load at the held hook position, and
its structure where the image places it, or else where the table holds it (R52, R54, R55). -/
def Scene.countCrane (sc : Scene) (t : Tables) (recs : PerCrane LiftRec) (hooks : PerCrane Hook)
    (structs : PerCrane (Option Pos)) (f : Item → Int) (c : Crane) : Int :=
  (match onHook recs c with
    | some w => f ⟨w, ⟨(hooks.get c).x, (hooks.get c).y, (hooks.get c).h⟩, .point⟩
    | none => 0) +
    match t.crane c with
    | some d => match sc.place.get c with
      | some q => f ⟨d.weight, d.centroid q, .point⟩
      | none => match structs.get c with
        | some q => f ⟨d.weight, q, .point⟩
        | none => 0
    | none => 0

/-- Whether a crane carries a load or share while its hook position is UNKNOWN (R54, R117). -/
def strays (recs : PerCrane LiftRec) (hooks : PerCrane Hook) (c : Crane) : Bool :=
  (onHook recs c).isSome && (hooks.get c).source == .unknown

/-- The side of an image's worst points: the sign of the rest moment, the sum of weight × y over its items without the
loads whose hook is UNKNOWN and the structures of those cranes (R117). -/
def Scene.worstSide (sc : Scene) (t : Tables) (recs : PerCrane LiftRec) (hooks : PerCrane Hook)
    (structs : PerCrane (Option Pos)) : Int :=
  let f (it : Item) : Int := it.w * it.pos.y
  let rest := sc.countFixed t f +
    sumOf (cranes.map fun c => if strays recs hooks c then 0 else sc.countCrane t recs hooks structs f c)
  if 0 ≤ rest then 1 else -1

/-- What every item of an image adds up to, each counted by `f`; a load whose hook is UNKNOWN hangs at the worst point,
at the hook's held height, and that crane's structure stands to match, unless a trial change has placed it (R52 to R56,
R117). -/
def Scene.count (sc : Scene) (t : Tables) (recs : PerCrane LiftRec) (hooks : PerCrane Hook)
    (structs : PerCrane (Option Pos)) (f : Item → Int) : Int :=
  let side := sc.worstSide t recs hooks structs
  sc.countFixed t f + sumOf (cranes.map fun c =>
    if strays recs hooks c then
      match onHook recs c, t.crane c with
      | some w, some d =>
        let y := d.py + side * d.outreach
        f ⟨w, ⟨d.px, y, (hooks.get c).h⟩, .point⟩ +
          f ⟨d.weight, d.centroid ((sc.place.get c).getD ⟨d.px, y⟩), .point⟩
      | _, _ => 0
    else sc.countCrane t recs hooks structs f c)

/-- The load that a request hangs at its candidate of a number, counted from 1: at the crane's point, or each share of a
tandem request at its crane's, all at the suspension height (R55, R108). -/
def Request.hangs (r : Request) (number : Nat) : List Item :=
  match r.cands[number - 1]? with
  | some q =>
    match r.tandem, q.partner with
    | some shares, some other => [⟨shares.lower, ⟨q.own.x, q.own.y, r.susp⟩, .point⟩,
        ⟨shares.upper, ⟨other.x, other.y, r.susp⟩, .point⟩]
    | _, _ => [⟨r.weight, ⟨q.own.x, q.own.y, r.susp⟩, .point⟩]
  | none => []

/-- The reservation of a crane's record: its request and the number of the reserved candidate (R55). -/
def reservation (recs : PerCrane LiftRec) (c : Crane) : Option (Request × Nat) :=
  match recs.get c with
  | .granted r _ number _ => some (r, number)
  | _ => none

/-- A lot stands in the origin of a hold pickup that names it (R55). -/
def Request.takesOut (r : Request) (l : Lot) : Bool := r.lot == l.num && r.origin == .space l.loc

/-- A position inside a box, faces included (R7, R56). -/
def Box.contains (b : Box) (q : Pos) : Prop :=
  b.xAft ≤ q.x ∧ q.x ≤ b.xFwd ∧ b.yPort ≤ q.y ∧ q.y ≤ b.yStbd ∧ b.zLow ≤ q.z ∧ q.z ≤ b.zHigh

/-- A lot number that a stow list, a hook load or the filing list of an image holds (R56). -/
def Scene.names (sc : Scene) (recs : PerCrane LiftRec) (n : Nat) : Prop :=
  (∃ l ∈ sc.lots, l.num = n) ∨ (∃ f ∈ sc.filing, f.num = n) ∨ ∃ c, (recs.get c).hookedLot = some n

/-- The live condition's own parts, with nothing hung or placed (R52). -/
def CondTable.scene (ct : CondTable) : Scene := ⟨ct.lots, ct.filing, ct.tanks, ct.consts, ⟨none, none, none, none⟩, []⟩

/-- The structure centroid that matches the worst point of a crane's hook in the live condition, the hooks being as
given (R116, R117). -/
def State.worstCentroid (s : State) (hooks : PerCrane Hook) (d : CraneDef) : Pos :=
  d.centroid ⟨d.px, d.py + s.ct.scene.worstSide s.tables s.lcu.recs hooks s.ct.structs * d.outreach⟩

/-- The cranes for which `lost` holds and whose REPORTED hook carries a load are UNKNOWN in `t`: the held position is
kept, POSITION_UNKNOWN stands, the structure of a defined crane stands at the worst point, and the serial has moved on
once for each; every other crane has its hook and structure, and with no such crane the serial and the alarm list stay
(R116, R117). -/
def State.hookLost (s t : State) (lost : Crane → Prop) : Prop :=
  let loses (c : Crane) : Prop := lost c ∧ (s.lift c).holdsLoad = true ∧ (s.hook c).source = .reported
  (∀ c, loses c →
    t.hook c = { s.hook c with source := .unknown } ∧
    (⟨.positionUnknown, .crane c⟩ : AlarmKey) ∈ t.als.held ∧
    (s.tables.crane c = none → t.ct.structs.get c = s.ct.structs.get c) ∧
    (∀ d, s.tables.crane c = some d → t.ct.structs.get c = some (s.worstCentroid t.lcu.hooks d)) ∧
    t.ct.serial = s.ct.serial + 1 ∧ t.als = (s.raise ⟨.positionUnknown, .crane c⟩).als) ∧
  (∀ c, ¬ loses c → t.hook c = s.hook c ∧ t.ct.structs.get c = s.ct.structs.get c) ∧
  ((∀ c, ¬ loses c) → t.ct.serial = s.ct.serial ∧ t.als = s.als)

/-- The fields that R10 gives an address, by identifier (R7, R10, R17, R18, R24, R30, R31). -/
def State.itemTable (s : State) (a : Nat) : List (Nat × Int) :=
  match s.tables.comp a with
  | none => [(1, 0)]
  | some e =>
    let kind : Int := match e.body with
      | .cargo _ => 1
      | .tank _ => 2
      | .crane _ => 3
      | .constant _ => 4
    let centroid (q : Pos) : List (Nat × Int) := [(35, q.x), (36, q.y), (37, q.z)]
    [(1, kind), (2, e.box.xAft), (3, e.box.xFwd), (4, e.box.yPort), (5, e.box.yStbd), (6, e.box.zLow),
      (7, e.box.zHigh), (8, Int.ofNat e.first), (9, Int.ofNat e.last)] ++
    match e.body with
    | .cargo capacity =>
      let here := s.ct.lots.filter fun l => l.loc == a
      [(10, capacity), (11, sumOf (here.map Lot.weight)), (12, Int.ofNat here.length)] ++
        match lookup s.ct.spaces a with
        | some .within => [(13, 0)]
        | some .over => [(13, 1)]
        | none => []
    | .tank d =>
      [(14, Int.ofNat d.table.length), (15, d.depth), (16, d.cx), (17, d.cy), (18, d.channel.elim 255 Int.ofNat),
        (19, d.density), (20, d.maxInertia)] ++
        match lookup s.ct.tanks a with
        | some live =>
          let source : Int := match live.source with
            | .none => 0
            | .sensor => 1
            | .held => 2
            | .manual => 3
          [(21, live.sounding), (22, source), (23, live.density), (24, live.volume), (25, live.liqZ),
            (26, live.inertia), (27, live.weight), (28, if live.inTransfer then 1 else 0)]
        | none => []
    | .crane d =>
      [(29, d.px), (30, d.py), (31, d.weight), (32, d.boom), (33, d.outreach), (34, d.swl)] ++
        ((cranes.find? fun c => a == 111 + craneNum c).bind s.ct.structs.get).elim [] centroid
    | .constant d =>
      [(38, d.weight), (39, d.pos.x), (40, d.pos.y), (41, d.pos.z)] ++
        match lookup s.ct.consts a with
        | some live => (27, live.weight) :: centroid live.pos
        | none => []

/-- The KIND of an address: 0 UNDEFINED, 1 CARGO, 2 TANK, 3 CRANE, 4 CONSTANT (R10). -/
def State.kindAt (s : State) (a : Nat) : Nat := ((lookup (s.itemTable a) 1).getD 0).toNat

/-- A position that a frame's fields can carry (R179): x and z unsigned, y signed, in three octets each. -/
abbrev Pos.onWire (q : Pos) : Prop :=
  (0 ≤ q.x ∧ q.x < 16777216) ∧ (-8388608 ≤ q.y ∧ q.y < 8388608) ∧ (0 ≤ q.z ∧ q.z < 16777216)

/-- A point that a frame's fields can carry (R179). -/
abbrev Pt.onWire (q : Pt) : Prop := (0 ≤ q.x ∧ q.x < 16777216) ∧ (-8388608 ≤ q.y ∧ q.y < 8388608)

/-- A point, y signed (R179). -/
def ptOctets (q : Pt) : List Byte := octets 3 q.x ++ octets 3 q.y

/-- The fields of a trial change as TRIAL_ADD carries them, the change kind first (R169, R179, assumption 15). -/
def TrialChange.payload : TrialChange → List Byte
  | .addLot n a w q => octetsN 1 0 ++ octetsN 2 n ++ octetsN 1 a ++ octets 3 w ++ posOctets q
  | .removeLot n => octetsN 1 1 ++ octetsN 2 n
  | .shiftLot n a q => octetsN 1 2 ++ octetsN 2 n ++ octetsN 1 a ++ posOctets q
  | .setSounding a v => octetsN 1 3 ++ octetsN 1 a ++ octets 3 v
  | .setConst slot w q => octetsN 1 4 ++ octetsN 1 slot ++ octets 3 w ++ posOctets q
  | .hang c w q h => octetsN 1 5 ++ octetsN 1 (craneNum c) ++ octets 3 w ++ ptOctets q ++ octets 3 h

/-- The fields of a trial change fit their widths (R179). -/
def TrialChange.onWire : TrialChange → Prop
  | .addLot n a w q => n < 65536 ∧ a < 256 ∧ (0 ≤ w ∧ w < 16777216) ∧ q.onWire
  | .removeLot n => n < 65536
  | .shiftLot n a q => n < 65536 ∧ a < 256 ∧ q.onWire
  | .setSounding a v => a < 256 ∧ 0 ≤ v ∧ v < 16777216
  | .setConst slot w q => slot < 256 ∧ (0 ≤ w ∧ w < 16777216) ∧ q.onWire
  | .hang _ w q h => (0 ≤ w ∧ w < 16777216) ∧ q.onWire ∧ 0 ≤ h ∧ h < 16777216

/-- The fields of a trial change, its address octet apart, lie in the ranges that TRIAL_ADD checks (R169). -/
def TrialChange.inRange : TrialChange → Prop
  | .addLot n _ w q => 1 ≤ n ∧ (1 ≤ w ∧ w ≤ 20000) ∧ q.inFrame = true
  | .removeLot n => 1 ≤ n
  | .shiftLot n _ q => 1 ≤ n ∧ q.inFrame = true
  | .setSounding _ v => v ≤ 80000
  | .setConst slot w q => slot ≤ 15 ∧ w ≤ 60000 ∧ q.inFrame = true
  | .hang _ w q h => (1 ≤ w ∧ w ≤ 20000) ∧ q.inFrame = true ∧ h ≤ 80000

/-- The address octet that a trial change carries, if it carries one (R169). -/
def TrialChange.address : TrialChange → Option Nat
  | .addLot _ a _ _ => some a
  | .shiftLot _ a _ => some a
  | .setSounding a _ => some a
  | .removeLot _ | .setConst _ _ _ | .hang _ _ _ _ => none

/-- The numeric settings with their ranges (R167); the draught limit, setting 12, keeps 0 besides. -/
def numericSettings : List (Nat × Nat × Nat) :=
  [(1, 10, 600), (2, 5, 300), (3, 2, 50), (4, 5, 100), (6, 10, 16), (7, 3, 50), (8, 0, 50), (9, 20, 2000),
    (10, 10, 600), (11, 20, 500), (12, 1000, 20000), (14, 10, 1000)]

/-- The fields of a LIFT_REQUEST as it carries them: 27 octets, or 41 with the tandem flag set (R82, R107, R179). -/
def LiftAsk.payload (a : LiftAsk) : List Byte :=
  octetsN 2 a.lot ++ octets 3 a.weight ++ octetsN 1 a.origin ++ octetsN 1 a.dest ++ ptOctets a.pickup
    ++ ptOctets a.setDown ++ octetsN 1 a.side ++ octets 3 a.out ++ octets 3 a.susp ++ octetsN 1 a.flag
    ++ (if a.flag = 1 then octetsN 2 a.permille ++ ptOctets a.matePickup ++ ptOctets a.mateSetDown else [])

/-- The fields of a LIFT_REQUEST fit their widths (R179). -/
abbrev LiftAsk.onWire (a : LiftAsk) : Prop :=
  a.lot < 65536 ∧ (0 ≤ a.weight ∧ a.weight < 16777216) ∧ a.origin < 256 ∧ a.dest < 256 ∧ a.pickup.onWire ∧
    a.setDown.onWire ∧ a.side < 256 ∧ (0 ≤ a.out ∧ a.out < 16777216) ∧ (0 ≤ a.susp ∧ a.susp < 16777216) ∧
    a.flag < 256 ∧ a.permille < 65536 ∧ a.matePickup.onWire ∧ a.mateSetDown.onWire

/-- A field of a LIFT_REQUEST outside its range, or an address octet invalid by R5 (R82, R107). -/
abbrev LiftAsk.outOfRange (a : LiftAsk) : Prop :=
  a.lot = 0 ∨ a.weight < 1 ∨ 20000 < a.weight ∨ (128 ≤ a.origin ∧ a.origin ≠ 254) ∨ (128 ≤ a.dest ∧ a.dest ≠ 254) ∨
    a.pickup.inFrame = false ∨ a.setDown.inFrame = false ∨ 2 < a.side ∨ 60000 < a.out ∨ 80000 < a.susp ∨ 1 < a.flag ∨
    (a.flag = 1 ∧ (a.permille < 1 ∨ 999 < a.permille ∨ a.matePickup.inFrame = false ∨ a.mateSetDown.inFrame = false))

/-- The fields of a HOOK_LOADED as it carries them (R96, R179). -/
def hookLoadedPayload (permit lot : Nat) (w : Int) (origin : Nat) (q : Pt) (h : Int) : List Byte :=
  octetsN 1 permit ++ octetsN 2 lot ++ octets 3 w ++ octetsN 1 origin ++ ptOctets q ++ octets 3 h

/-- What a lift-off of lot `n` by crane `c` takes from where the lot was held (R21, R23, R99, R100, R111): the lot
leaves its stow list, and its record goes to the load at the head of the filing list when one waits; another port's
HOOKED record of it goes to IDLE, with a tandem partner's, UNKNOWN hooks settling at their pedestals and the load alarms
clearing; its filing list entry goes with its port's record and LANDED_UNFILED. LOT_RENUMBERED is an event exactly when
the lot was held elsewhere than at the origin named, told here where the alarm list has room. The records that the
lift-off itself sets are those for which `own` holds. -/
def State.takesLot (s t : State) (c : Crane) (n : Nat) (origin : LiftEnd) (own : Crane → Prop) : Prop :=
  let freed := (s.ct.lots.any fun l => l.num == n) && !s.ct.filing.isEmpty
  let hangs (k : Crane) : Prop := (s.lift k).hookedLot = some n ∨ ∃ lower, s.lift k = .partner n lower
  let files (k : Crane) : Prop := freed = true ∧ (s.ct.filing.head?.map Filing.crane) = some k
  let elsewhere : Prop := (∃ l ∈ s.ct.lots, l.num = n ∧ origin ≠ .space l.loc) ∨
    (∃ k, k ≠ c ∧ (s.lift k).hookedLot = some n) ∨ ∃ f ∈ s.ct.filing, f.num = n ∧ f.crane ≠ c
  let renumbered : AlarmKey := ⟨.lotRenumbered, .crane c⟩
  t.ct.lots = s.ct.lots.filter (fun l => l.num != n) ++ (if freed then (s.ct.filing.take 1).map fun f =>
    ⟨f.num, f.weight, f.pos, f.dest, .crane f.crane, f.landed⟩ else []) ∧
  t.ct.filing = (if freed then s.ct.filing.tail else s.ct.filing.filter fun f => f.num != n) ∧
  (∀ a, if (∃ l ∈ s.ct.lots, l.num = n ∧ l.loc = a) ∨ (∃ f ∈ s.ct.filing, f.num = n ∧ f.dest = a) then
      s.capacityJudged t a
    else lookup t.ct.spaces a = lookup s.ct.spaces a) ∧
  (∀ k, ¬ own k →
    (hangs k ∨ (s.lift k).unfiledLot = some n ∨ files k → t.lift k = .idle) ∧
    (¬ (hangs k ∨ (s.lift k).unfiledLot = some n ∨ files k) → t.lift k = s.lift k) ∧
    (hangs k → (s.hook k).source = .unknown → ∀ d, s.tables.crane k = some d →
      t.hook k = ⟨d.px, d.py, 0, .reported⟩ ∧ t.ct.structs.get k = some (d.centroid ⟨d.px, d.py⟩)) ∧
    (¬ hangs k ∨ (s.hook k).source = .reported →
      t.hook k = s.hook k ∧ t.ct.structs.get k = s.ct.structs.get k) ∧
    (s.als.held.Nodup → hangs k → (⟨.unpermittedLift, .crane k⟩ : AlarmKey) ∉ t.als.held ∧
      (⟨.positionUnknown, .crane k⟩ : AlarmKey) ∉ t.als.held) ∧
    (s.als.held.Nodup → (s.lift k).unfiledLot = some n ∨ files k →
      (⟨.landedUnfiled, .crane k⟩ : AlarmKey) ∉ t.als.held)) ∧
  (s.als.lowerCount + 5 ≤ 24 →
    (elsewhere → t.als.find renumbered = some ⟨renumbered, .clearedUnack, s.seconds⟩) ∧
    (¬ elsewhere → t.als.find renumbered = s.als.find renumbered)) ∧
  t.ct.serial = s.ct.serial + (if freed then 2 else 1)

/-- The state `s` with what a lift-off of crane `c` may change taken from `t`, and nothing else: the lots, the filing
list, the capacity states, the structures and the serial, the records and the hooks, and the port's stop state and order
slot (R97 to R100, R110, R145). -/
def State.lifting (s t : State) (c : Crane) : State :=
  { s.setLink (portOf c) { s.link (portOf c) with
      slot := (t.link (portOf c)).slot
      waiting := (t.link (portOf c)).waiting } with
    ct.lots := t.ct.lots
    ct.filing := t.ct.filing
    ct.spaces := t.ct.spaces
    ct.structs := t.ct.structs
    ct.serial := t.ct.serial
    lcu.recs := t.lcu.recs
    lcu.hooks := t.lcu.hooks
    lmn.ports := t.lmn.ports }

/-- STOP to a crane port whose record goes to HOOKED while a stop stands (R145, R146): with stop state NONE or ACKED the
standing stop's order is placed and the window runs; otherwise stop state and order slot are as they were. -/
def State.stopJoins (s t : State) (c : Crane) : Prop :=
  let q := portOf c
  let l := s.link q
  let l' := t.link q
  (∀ crit serial, s.lmn.stop = some (crit, serial) → (s.stopPort q).state = .none ∨ (s.stopPort q).state = .acked →
    t.stopPort q = ⟨.sent, some (s.now + s.settings.ackWindow * 100)⟩ ∧
    (l.sending = some .order → l'.waiting = some (.stop crit serial) ∧ l'.slot = l.slot) ∧
    (l.sending ≠ some .order → l'.slot = some (.stop crit serial) ∧ l'.waiting = l.waiting)) ∧
  (s.lmn.stop = none ∨ (s.stopPort q).state = .sent ∨ (s.stopPort q).state = .unanswered →
    t.stopPort q = s.stopPort q ∧ l'.slot = l.slot ∧ l'.waiting = l.waiting) ∧
  ∀ k, k ≠ q → t.stopPort k = s.stopPort k

/-- What an acknowledgement leaves of an entry (R152). -/
def AlarmEntry.acked (e : AlarmEntry) : Option AlarmEntry :=
  match e.state with
  | .activeUnack => some { e with state := .activeAck }
  | .activeAck => some e
  | .clearedUnack => none

/-! ### What a LINE or RESTART reset keeps (R36, R78, R115, R119) -/

/-- The lots whose space is still a defined CARGO space, each clamped into the space's new box (R36). -/
def State.keptLots (s t : State) : List Lot :=
  s.ct.lots.filterMap fun l => (t.tables.cargo l.loc).map fun e => { l with pos := e.1.clampPos l.pos }

/-- The filing list entries whose destination is still a defined CARGO space, each clamped into the destination's new
box (R15, R36, assumption 40). -/
def State.keptFiling (s t : State) : List Filing :=
  s.ct.filing.filterMap fun f => (t.tables.cargo f.dest).map fun e => { f with pos := e.1.clampPos f.pos }

/-- How many waiting loads the records freed by the drops file (R36). -/
def State.filedAtReset (s t : State) : Nat :=
  min (s.keptFiling t).length (Config.poolSize - (s.keptLots t).length)

/-- The load of a HOOKED record that a reset keeps: every crane of it is defined after the load (R119). -/
def State.keptLoad (s t : State) (c : Crane) : Option Load :=
  match s.lift c with
  | .hooked l =>
    if (t.tables.crane c).isSome && (l.tandem.isNone || (t.tables.crane (mate c)).isSome) then some l else none
  | _ => none

/-- The lot of the tandem lift that a crane's partner keeps across a reset (R119). -/
def State.keptPartner (s t : State) (c : Crane) : Option Nat :=
  (s.keptLoad t (mate c)).bind fun l => if l.tandem.isSome then some l.lot else none

/-- Whether a crane holds a load or a share after a reset (R119). -/
def State.keptHolds (s t : State) (c : Crane) : Bool := (s.keptLoad t c).isSome || (s.keptPartner t c).isSome

/-- The live fields of a tank after a reset (R36). -/
def TankLive.afterReset (d : TankDef) (live : TankLive) : TankLive :=
  let v := if live.source = .manual then min live.sounding d.depth else live.sounding
  let p := d.values v
  match live.source with
  | .none => ⟨0, .none, live.density, 0, d.firstZ, 0, 0, false⟩
  | src =>
    ⟨v, if src = .manual then .manual else .held, live.density, p.volume, p.liqZ, p.inertia,
      rdiv (p.volume * live.density) 100000, false⟩

/-- The Condition Table after a LINE or RESTART reset, but for the crane structures and the serial (R36). -/
def State.keepsTable (s t : State) : Prop :=
  t.ct.lots = s.keptLots t ++
      ((s.keptFiling t).take (s.filedAtReset t)).map (fun f => ⟨f.num, f.weight, f.pos, f.dest, .crane f.crane, f.landed⟩) ∧
    t.ct.filing = (s.keptFiling t).drop (s.filedAtReset t) ∧
    (∀ a box capacity, t.tables.cargo a = some (box, capacity) →
      lookup t.ct.spaces a = some (if capacity < t.ct.load a then .over else .within)) ∧
    (∀ a d, t.tables.tank a = some d → lookup t.ct.tanks a = some (match lookup s.ct.tanks a with
      | some live => live.afterReset d
      | none => ⟨0, .none, d.density, 0, d.firstZ, 0, 0, false⟩)) ∧
    (∀ a box d, t.tables.const a = some (box, d) → lookup t.ct.consts a = some (match lookup s.ct.consts a with
      | some live => if box.holds live.pos then live else ⟨d.weight, d.pos⟩
      | none => ⟨d.weight, d.pos⟩))

/-- The lift records, hooks and structures after a LINE or RESTART reset (R12, R31, R78, R115, R119). -/
def State.keepsLifts (s t : State) : Prop :=
  (∀ c, t.lift c = (match s.keptLoad t c, s.keptPartner t c, s.lift c with
    | some l, _, _ => .hooked l
    | none, some n, _ => .partner n (mate c)
    | none, none, .unfiled n w => if t.ct.filing.any fun f => f.crane == c then .unfiled n w else .idle
    | none, none, _ => .idle)) ∧
    (∀ c d, t.tables.crane c = some d →
      (t.hook c = if s.keptHolds t c then { s.hook c with source := .unknown } else ⟨d.px, d.py, 0, .reported⟩) ∧
      (s.keptHolds t c = false → t.ct.structs.get c = some ⟨d.px, d.py, d.z⟩) ∧
      (s.keptHolds t c = true → t.ct.structs.get c = some (t.worstCentroid t.lcu.hooks d) ∧
        (⟨.positionUnknown, .crane c⟩ : AlarmKey) ∈ t.als.held)) ∧
    (∀ c l, s.keptLoad t c = some l → l.unpermitted = true →
      (⟨.unpermittedLift, .crane c⟩ : AlarmKey) ∈ t.als.held) ∧
    (∀ f ∈ t.ct.filing, (⟨.landedUnfiled, .crane f.crane⟩ : AlarmKey) ∈ t.als.held) ∧
    t.lcu.queue = [] ∧ t.lcu.inHand = none ∧ t.lcu.counter = 1 ∧
    t.lcu.pairA = (s.keptPartner t .k2).isSome ∧ t.lcu.pairB = (s.keptPartner t .k4).isSome

/-- The serial and the counts of START_REPORT after a LINE or RESTART reset: each drop, each filing and each move to the
worst point is one operation, and the drops of lots, filing list entries and hook loads are counted together (R33, R36,
R119, R187). -/
def State.keepsCounts (s t : State) : Prop :=
  let drops := (s.ct.lots.length - (s.keptLots t).length) + (s.ct.filing.length - (s.keptFiling t).length) +
    cranes.countP fun c => (s.lift c).hookedLot.isSome && (s.keptLoad t c).isNone
  t.ct.serial = s.ct.serial + BitVec.ofNat 16 (drops + s.filedAtReset t + cranes.countP fun c => s.keptHolds t c) ∧
    t.hds.dropped = drops ∧ t.hds.kept = t.ct.lots.length + t.ct.filing.length

/-! ### The start-up (R137, R180, R184 to R187) -/

/-- The start-up's next step in the evaluator (R48, R51, R185, R186): the first of the test conditions left that passed
its check runs under HARBOUR, each one passed over being NOT_RUN, and after the last the LIVE job is taken. -/
def State.handsOver (t : State) (verdicts : List Verdict) (todo : List TestCondition) (taken : Option Serial) : Prop :=
  t.hds.verdicts = verdicts ++ (todo.takeWhile fun x => !x.runnable).map (fun _ => .notRun) ∧
  match todo.dropWhile fun x => !x.runnable with
  | x :: later => t.hds.stage = .tests later ∧ t.sev.taken = taken ∧
      t.sev.state = .busy ⟨.test, t.ct.serial, .harbour, t.ct, t.lcu.recs, t.lcu.hooks, none, [], some x⟩
  | [] => t.hds.stage = .firstLive ∧ t.sev.taken = some t.ct.serial ∧
      t.sev.state = .busy ⟨.live, t.ct.serial, t.settings.strength, t.ct, t.lcu.recs, t.lcu.hooks, none, [], none⟩

/-- The mode entry (R4, R122, R130, R180, R185, R187): the mode by R180, the elapsed-seconds count running, the sweep
timer and the hold timers of tanks in HELD started, and START_REPORT the newest message of port P, unless its queue has
no free entry. -/
def State.entersMode (t : State) (verdicts : List Verdict) (elapsed : Option Nat) : Prop :=
  t.hds.stage = .entered ∧ t.hds.verdicts = verdicts ∧
  t.hds.mode = (if t.hds.strap then .commissioning else if t.hds.storeFault || t.hds.testFail then .degraded else .service) ∧
  t.elapsed = some (elapsed.getD t.now) ∧ t.tgt.timer = some (t.now + t.settings.sweepPeriod * 100) ∧
  (∀ a d live, t.tables.tank a = some d → lookup t.ct.tanks a = some live → live.source = .held →
    (lookup t.tgt.gauges a).isSome = true → (t.tgt.gauge a).hold = some (t.now + t.settings.holdLimit * 1000)) ∧
  ((t.link .p).newest = some (.startReport
      { cause := t.hds.cause
        mode := t.hds.mode
        strap := t.hds.strap
        usable := decide (t.sev.state ≠ .disabled)
        storeFault := t.hds.storeFault
        written := t.hds.written
        torn := t.hds.torn
        tests := verdicts
        kept := t.hds.kept
        dropped := t.hds.dropped
        free := 512 - t.ct.lots.length }) ∨
    8 ≤ (t.link .p).queue.length + (t.link .p).reserved)

/-- The alarm list at the end of a reset (R18, R78, R119, R129, R150, R154, R180, R186): a block holds a condition
raised exactly while it stands, every entry is ACTIVE_UNACK with the time of the reset, and while the list has room
every such condition is listed and no marker is set. -/
def State.alarmsAfterReset (t : State) : Prop :=
  (∀ k : AlarmKey, k ∈ t.als.held ↔
    (k = ⟨.storeFault, .none⟩ ∧ t.hds.storeFault = true) ∨ (k = ⟨.noTestCondition, .none⟩ ∧ t.tables.tests = []) ∨
    (∃ a, k = ⟨.overCapacity, .addr a⟩ ∧ lookup t.ct.spaces a = some .over) ∨
    (∃ c l, k = ⟨.unpermittedLift, .crane c⟩ ∧ t.lift c = .hooked l ∧ l.unpermitted = true) ∨
    (∃ c, k = ⟨.positionUnknown, .crane c⟩ ∧ (t.lift c).holdsLoad = true) ∨
    (∃ c n w, k = ⟨.landedUnfiled, .crane c⟩ ∧ t.lift c = .unfiled n w) ∨
    ∃ a d, k = ⟨.sensorFault, .addr a⟩ ∧ t.tables.tank a = some d ∧ t.sensorFaulty a d) ∧
  (∀ e ∈ t.als.entries, e.key ∈ t.als.held ∧ e.state = .activeUnack ∧ e.raised = t.seconds) ∧
  (t.als.lowerCount < 24 → t.als.markAdvisory = false ∧ t.als.markLimit = false ∧
    ∀ k ∈ t.als.held, ∃ e ∈ t.als.entries, e.key = k)

/-! ### The load and its checks (R181, R185, R186; the order of the words is assumption 3) -/

/-- The words that a page type holds: the entries after the headers of its WRITTEN pages, by rising page, blank entries
left out (R181, assumption 3). -/
def Store.words (s : Store) (type : Nat) : List Nat :=
  ((List.range 256).filter fun p => s.pageState p == .written && (s.entry p 0).toNat / 65536 == type).flatMap fun p =>
    (((List.range 63).map fun i => s.entry p (i + 1)).filter fun e => e != 0xFFFFFFFF#32).map BitVec.toNat

/-- A word that carries a signed figure (R179, assumption 3). -/
abbrev signed24 (v : Nat) : Int := if 8388608 ≤ v ∧ v < 16777216 then (v : Int) - 16777216 else v

/-- The HULL record passes (R186). -/
abbrev hullPasses (x : List Nat) : Prop :=
  25 ≤ x.length ∧ 40000 ≤ x.getD 0 0 ∧ x.getD 0 0 ≤ 250000 ∧ 1 ≤ x.getD 1 0 ∧ x.getD 2 0 ≤ 250000 ∧
    -25000 ≤ signed24 (x.getD 3 0) ∧ signed24 (x.getD 3 0) ≤ 25000 ∧ x.getD 4 0 ≤ 80000 ∧
    ((x.drop 5).take 20).sum = x.getD 1 0

/-- The limit record is there, in range and in order (R139, R186). -/
abbrev limitsPass (x : List Nat) : Prop :=
  29 ≤ x.length ∧ 1 ≤ x.getD 26 0 ∧ x.getD 26 0 ≤ x.getD 25 0 ∧ x.getD 25 0 ≤ 9999 ∧ x.getD 27 0 ≤ x.getD 28 0 ∧
    x.getD 28 0 ≤ 20000

/-- The hydrostatic rows pass (R60, R69, R186). -/
abbrev hydroPasses (x : List Nat) : Prop :=
  let n := x.length / 26
  2 ≤ n ∧ n ≤ 40 ∧ ∀ i, i < n → 0 < x.getD (26 * i + 5) 0 ∧ (∀ v ∈ (x.drop (26 * i + 6)).take 20, v ≤ 1000) ∧
    ((x.drop (26 * i + 6)).take 20).sum = 1000 ∧ (i + 1 < n → x.getD (26 * i) 0 < x.getD (26 * i + 26) 0)

/-- The 126 allowables are in range (R73, R186). -/
abbrev strengthPasses (x : List Nat) : Prop :=
  126 ≤ x.length ∧ ∀ i, i < 126 → 1 ≤ x.getD i 0 ∧ x.getD i 0 ≤ if i % 3 = 0 then 600000 else 15000000

/-- A tank table's points pass in a box's height (R8). -/
abbrev pointsPass (zLow zHigh : Int) (pts : List TankPoint) : Prop :=
  2 ≤ pts.length ∧ pts.length ≤ 24 ∧ (pts.map TankPoint.sounding).Pairwise (· < ·) ∧
    ∀ p ∈ pts, 0 ≤ p.sounding ∧ p.sounding ≤ 80000 ∧ 0 ≤ p.volume ∧ p.volume ≤ 200000 ∧ zLow ≤ p.liqZ ∧
      p.liqZ ≤ zHigh ∧ 0 ≤ p.inertia ∧ p.inertia ≤ 65535

/-- A compartment entry of 17 words passes: kind in its own groups, well-formed box and span, and the fields of its
kind, the tank tables being those of the store (R6 to R9, R186). -/
abbrev entryPasses (tables : List (Nat × List TankPoint)) (x : List Nat) : Prop :=
  let u (i : Nat) : Int := x.getD i 0
  let v (i : Nat) : Int := signed24 (x.getD i 0)
  u 2 ≤ u 3 ∧ u 3 ≤ 250000 ∧ -25000 ≤ v 4 ∧ v 4 ≤ v 5 ∧ v 5 ≤ 25000 ∧ u 6 ≤ u 7 ∧ u 7 ≤ 80000 ∧ u 8 ≤ u 9 ∧ u 9 ≤ 19 ∧
    ((u 1 = 1 ∧ u 0 < 80 ∧ 1 ≤ u 10 ∧ u 10 ≤ 60000) ∨
      (u 1 = 2 ∧ 80 ≤ u 0 ∧ u 0 < 112 ∧
        ((lookup tables (x.getD 10 0)).any fun pts => decide (pointsPass (u 6) (u 7) pts)) = true ∧
        u 2 ≤ u 11 ∧ u 11 ≤ u 3 ∧ v 4 ≤ v 12 ∧ v 12 ≤ v 5 ∧ (u 13 ≤ 31 ∨ u 13 = 255) ∧ 6000 ≤ u 14 ∧ u 14 ≤ 20000) ∨
      (u 1 = 3 ∧ 112 ≤ u 0 ∧ u 0 < 116 ∧ -25000 ≤ v 11 ∧ v 11 ≤ 25000 ∧ 1 ≤ u 12 ∧ u 12 ≤ 60000 ∧ u 13 ≤ 80000 ∧
        u 14 ≤ 1000 ∧ 1000 ≤ u 15 ∧ u 15 ≤ 60000 ∧ 1 ≤ u 16 ∧ u 16 ≤ 20000 ∧ u 15 ≤ u 10 ∧ u 10 + u 15 ≤ 250000 ∧
        mag (v 11) + u 15 ≤ 25000) ∨
      (u 1 = 4 ∧ 116 ≤ u 0 ∧ u 0 < 128 ∧ u 10 ≤ 60000 ∧ u 2 ≤ u 11 ∧ u 11 ≤ u 3 ∧ v 4 ≤ v 12 ∧ v 12 ≤ v 5 ∧
        u 6 ≤ u 13 ∧ u 13 ≤ u 7))

/-- Two tanks of different addresses, each the first entry of its address that passes, name one channel (R8,
assumption 21). -/
abbrev channelTwice (passing : List (List Nat)) : Prop :=
  let first (i : Nat) : Prop := ∀ j, j < i → (passing.getD j []).getD 0 0 ≠ (passing.getD i []).getD 0 0
  ∃ i, i < passing.length ∧ ∃ j, j < i ∧ first i ∧ first j ∧
    (passing.getD i []).getD 1 0 = 2 ∧ (passing.getD j []).getD 1 0 = 2 ∧
    (passing.getD i []).getD 13 0 ≠ 255 ∧ (passing.getD i []).getD 13 0 = (passing.getD j []).getD 13 0

/-- A calibration record of 6 words passes: channel, zero, span, range, fault low, fault high (R121, assumption 34). -/
abbrev calibrationPasses (x : List Nat) : Prop :=
  let u (i : Nat) : Nat := x.getD i 0
  u 0 ≤ 35 ∧ u 1 < u 2 ∧ u 2 ≤ 65535 ∧ u 4 ≤ u 5 ∧ u 5 ≤ 65535 ∧
    if u 0 < 32 then 100 ≤ u 3 ∧ u 3 ≤ 80000 else 1000 ≤ u 3 ∧ u 3 ≤ 30000

/-- A test condition passes: 1 to 48 items, each in the frame and with a span of 0 to 19 or the point mark (R186,
assumption 22). -/
abbrev testPasses (c : TestCondition) : Prop :=
  1 ≤ c.items.length ∧ c.items.length ≤ 48 ∧ ∀ it ∈ c.items, it.pos.inFrame = true ∧
    ∀ e ∈ it.span, e.1 ≤ e.2 ∧ e.2 ≤ 19

/-- The `n` words of record `i` of a stream. -/
def recordAt (n i : Nat) (x : List Nat) : List Nat := (x.drop (n * i)).take n

/-- A check of the load fails (R186). -/
def Store.checkFails (s : Store) : Prop :=
  let entries := (List.range ((s.words 4).length / 17)).map fun i => recordAt 17 i (s.words 4)
  let tables := tankTables (s.words 5).length (s.words 5)
  ¬ hullPasses (s.words 1) ∨ ¬ limitsPass (s.words 1) ∨ ¬ hydroPasses (s.words 2) ∨ ¬ strengthPasses (s.words 3) ∨
    (∃ e ∈ entries, ¬ entryPasses tables e) ∨
    channelTwice (entries.filter fun e => decide (entryPasses tables e)) ∨
    (∃ i, i < (s.words 6).length / 6 ∧ ¬ calibrationPasses (recordAt 6 i (s.words 6))) ∨
    ∃ c ∈ s.load.tables.tests, ¬ testPasses c

/-- What every reset leaves in the blocks that keep nothing (R38, R50, R120, R137, R138, R150, R160, R167, R177, R182,
R184 to R187), with its cause and the strap recorded, the store as the reset found it, and the start-up sweep begun over
every calibrated channel; with no channel to convert the start-up has gone on to the tests, the LIVE job, or the mode.
-/
def State.resetBlocks (s t : State) (cause : Cause) (comm : Bool) : Prop :=
  let active := (List.range 36).filter fun ch => (lookup t.tables.calib ch).isSome
  let tests := t.tables.tests.take 4
  let elapsed := if cause = .powerOn then none else s.elapsed
  t.phase = .running ∧ t.line = false ∧ t.hds.cause = cause ∧ t.hds.strap = comm ∧ t.hds.store = s.hds.storeAfterReset ∧
    t.tables = t.hds.store.load.tables ∧ t.hds.storeFault = t.hds.store.load.fault ∧
    t.hds.written = t.hds.store.load.written ∧ t.hds.torn = t.hds.store.load.torn ∧ t.hds.testFail = false ∧
    t.hds.buffer = ⟨0, []⟩ ∧ t.hds.prog = none ∧
    (t.hds.mode = .starting ∨ t.sev.state = .disabled) ∧ (t.sev.state = .disabled ↔ t.tables.usable = false) ∧
    t.sev.live = none ∧ t.sev.last = none ∧ t.sev.trialWanted = false ∧
    t.csv.trial = [] ∧ t.csv.trialState = .idle ∧ t.csv.outcome = .none ∧
    t.csv.restartPending = false ∧ t.csv.settings = { Settings.initial with mask := t.settings.mask } ∧
    (∀ ch, ch < 36 → t.settings.mask.getLsbD ch = (lookup t.tables.calib ch).isSome) ∧
    t.lmn = ⟨none, ⟨⟨.none, none⟩, ⟨.none, none⟩, ⟨.none, none⟩, ⟨.none, none⟩, ⟨.none, none⟩, ⟨.none, none⟩⟩⟩ ∧
    t.tgt.transfers = [] ∧ t.tgt.active = active ∧
    t.tgt.chans = (List.range 36).map (fun ch => (ch, ⟨.unswept, none, none⟩)) ∧
    (∀ a, (t.tgt.gauge a).release = false) ∧
    (active ≠ [] → t.tgt.sweep = .running active 14 (t.now + 16) ∧ t.tgt.firstSweep = false ∧ t.hds.mode = .starting ∧
      t.hds.stage = .sweep ∧ t.hds.verdicts = [] ∧ t.sev.taken = none ∧ (∀ img, t.sev.state ≠ .busy img)) ∧
    (active = [] → t.tgt.sweep = .idle ∧ t.tgt.firstSweep = true) ∧
    (active = [] → t.tables.usable = true → t.hds.mode = .starting ∧ t.handsOver [] tests none) ∧
    (active = [] → t.tables.usable = false →
      t.sev.taken = none ∧ t.entersMode (tests.map fun _ => .notRun) elapsed) ∧
    (t.hds.mode = .starting → t.elapsed = elapsed ∧ t.tgt.timer = none ∧ ∀ a, (t.tgt.gauge a).hold = none) ∧
    t.alarmsAfterReset ∧ t.sli.summary = some (t.now + 1000) ∧
    ∀ q, (t.link q).state = .silent ∧ (t.link q).bad = 0 ∧ (t.link q).silence = some (t.now + 2000) ∧
      (t.link q).inbound = [] ∧ (t.link q).slot = none ∧ (q ≠ .p → (t.link q).queue = [] ∧ (t.link q).sending = none)

/-- A value of three octets. -/
abbrev weightOnWire (w : Int) : Prop := 0 ≤ w ∧ w < 16777216

end Sys2Proof.Machine
end

