-- ==== Sys2Proof/Certificates/Slice0/Obligations.lean ====
section
/-!
DEFINITION. The statements for the provers. A frame's payload is written with `octetsN`, `octets`, `ptOctets` and
`posOctets` from the values that the frame carries, in R179's order, every value its field can carry being allowed; so
each of these statements says of every payload of the kind's length what the part makes of it. `replied` is a frame
answered with nothing else done.
-/

open Sys2Proof Sys2Proof.Machine

/-! ### Steps, invariants, resets -/

/-- One step is the front command's effect with the queue's rest, or, with none waiting, a millisecond of the time base,
which runs while power is good (R4). That an idle step is a millisecond is the model's choice (assumption 7). -/
def Obligations.StepTakesTheFrontCommand : Prop :=
  ∀ s : State,
    (∀ c rest, s.pending = c :: rest → step s = exec c { s with pending := rest }) ∧
    (s.pending = [] → step s = .next (if s.phase = .off then s else { s with now := s.now + 1 }))

/-- Every command answers a next state, for every state and all operands, and no command touches the queue of waiting
commands. No rule of the manual says so: that a command whose event cannot occur leaves the state as it is is
assumption 5, and the queue, which is the model's own, is assumptions 1 and 7. -/
def Obligations.EveryCommandAnswersAndLeavesTheQueue : Prop :=
  ∀ (c : Instr) (s : State), ∃ t, exec c s = .next t ∧ t.pending = s.pending

/-- The state before the first POWER_ON meets every invariant below (assumption 1). -/
def Obligations.UnpoweredPartMeetsTheInvariants : Prop :=
  State.reset.wf ∧ State.reset.rangesWf ∧ State.reset.shapeWf ∧ State.reset.noJobWaits

/-- Every step keeps the bounds of the six links: at most 4 frames inbound, at most 8 entries outbound with those held
for a reply, at most one waiting SUMMARY, a consecutive-bad count of at most 3, and an order waiting only while one is
being sent (R173 to R176, R183). -/
def Obligations.LinksStayWithinBounds : Prop := ∀ s t : State, s.linksWf → step s = .next t → t.linksWf

/-- Every step keeps the alarm list's form: no kind and subject twice, at most 24 ADVISORY and LIMIT entries, no HARD
entry but the eight pairs, an active entry for every HARD condition that holds, and active entries only for conditions
that hold (R150, R151, R154, R156). -/
def Obligations.AlarmListStaysWithinBounds : Prop := ∀ s t : State, s.alarmsWf → step s = .next t → t.alarmsWf

/-- Every step keeps the page store and the buffer in their one form (R181 to R183). -/
def Obligations.PageStoreKeepsItsForm : Prop := ∀ s t : State, s.storeWf → step s = .next t → t.storeWf

/-- Every step keeps the lots and the lift records in agreement: no lot number in two places, at most 512 records and
none free while a load waits to be filed, the permit queue the PENDING ports, the filing list the LANDED_UNFILED ones,
and tandem lifts with their partners (R15, R16, R23, R78, R85, R105, R106). -/
def Obligations.LiftRecordsStayConsistent : Prop := ∀ s t : State, s.liftsWf → step s = .next t → t.liftsWf

/-- Every step keeps each setting in its range, the trial list at no more than 16 changes, and permit numbers from 1 to
255 (R12, R167, R169). -/
def Obligations.SettingsAndPermitNumbersStayInRange : Prop := ∀ s t : State, s.rangesWf → step s = .next t → t.rangesWf

/-- Every step keeps the working tables to entries that passed their checks, one live record for each defined address,
36 channels and 32 tanks in the gauging unit, the transfer list in id order, every lot and waiting load and constant
inside its box, and the reset line released while the part runs (R6 to R9, R15, R24, R30, R120, R121, R134, R184, R186).
That a calibration passes only with its zero below its span is the model's reading of R121 (assumption 34), that one
entry stands for each key is assumption 21, and that a waiting load is clamped at a reset is assumption 40. -/
def Obligations.TablesAndRecordsKeepTheirShape : Prop := ∀ s t : State, s.shapeWf → step s = .next t → t.shapeWf

/-- The evaluator's choice (R38 to R42, R51). Every step leaves it BUSY or without a job wanted: past the start-up it is
never IDLE beside a dirty condition, a queued request or a wanted trial (the moment of the choice is assumption 11). And
the choice itself: a BUSY, DISABLED or starting evaluator takes nothing; an IDLE one takes, after a LIVE job, a PERMIT
job or else a TRIAL job that is wanted, and otherwise the first wanted of LIVE, PERMIT, TRIAL. The job's image is the
table, the records and the hooks as they stand, with the serial, the strength set in force, the crane at the head of the
permit queue or the trial list; a LIVE job takes the serial, a PERMIT job is the evaluation in hand with its discard
mark clear, and a TRIAL job clears trial wanted and sets the trial RUNNING. -/
def Obligations.NoJobIsLeftWaiting : Prop :=
  (∀ s t : State, s.noJobWaits → step s = .next t → t.noJobWaits) ∧
  ∀ s : State,
    let permit := s.lcu.queue ≠ []
    let trial := s.sev.trialWanted = true
    let wanted : Option JobKind :=
      if s.sev.last = some .live ∧ permit then some .permit
      else if s.sev.last = some .live ∧ trial then some .trial
      else if s.sev.taken ≠ some s.ct.serial then some .live
      else if permit then some .permit
      else if trial then some .trial
      else none
    (s.sev.state ≠ .idle ∨ s.hds.mode = .starting → s.takeJob = s) ∧
    (s.sev.state = .idle → s.hds.mode ≠ .starting → wanted = none → s.takeJob = s) ∧
    (s.sev.state = .idle → s.hds.mode ≠ .starting → ∀ kind, wanted = some kind →
      s.takeJob = { s with
        sev.state := .busy
          { kind := kind
            serial := s.ct.serial
            strength := s.csv.settings.strength
            table := s.ct
            recs := s.lcu.recs
            hooks := s.lcu.hooks
            crane := if kind = .permit then s.lcu.queue.head? else none
            trial := if kind = .trial then s.csv.trial else []
            test := none }
        sev.taken := if kind = .live then some s.ct.serial else s.sev.taken
        sev.trialWanted := if kind = .trial then false else s.sev.trialWanted
        lcu.inHand := if kind = .permit then s.lcu.queue.head?.map fun c => (c, false) else s.lcu.inHand
        csv.trialState := if kind = .trial then .running else s.csv.trialState })

/-- POWER_ON (R4, R35, R78, R115, R184): power-good rises with the reset line released, and every block is at its
POWER_ON value, as `resetBlocks` says of those that keep nothing: the time base and the elapsed seconds 0, no lot, no
lift, every space WITHIN, every tank in NONE at its default density, every constant at its defaults, every hook and
structure at its pedestal, the serial 0, the permit counter 1, both pairings off. With power already good there is no
such event (assumption 5). With the reset line held the part stays in reset, with those values and the time base at 0,
until the line is released; that a release of the line is then a LINE reset is assumption 14. -/
def Obligations.PowerOnEmptiesThePart : Prop :=
  ∀ (s : State) (comm : Bool),
    (s.phase ≠ .off → exec (.powerOn comm) s = .next s) ∧
    (s.phase = .off → s.line = true → ∃ t, exec (.powerOn comm) s = .next t ∧
      t.phase = .held ∧ t.line = true ∧ t.now = 0 ∧ t.elapsed = none ∧ t.pending = s.pending ∧
      t.ct = ⟨[], [], [], [], [], ⟨none, none, none, none⟩, 0⟩ ∧ (∀ c, t.lift c = .idle) ∧ t.lcu.queue = [] ∧
      t.lcu.inHand = none ∧ t.lcu.counter = 1 ∧ t.lcu.pairA = false ∧ t.lcu.pairB = false ∧
      t.als.entries = [] ∧ t.als.held = [] ∧ t.tgt.transfers = [] ∧ t.hds.mode = .starting ∧
      t.hds.store = s.hds.storeAfterReset ∧ ∀ q, t.link q = ⟨.silent, 0, none, [], [], 0, none, none, none⟩) ∧
    (s.phase = .off → s.line = false → ∃ t, exec (.powerOn comm) s = .next t ∧ s.resetBlocks t .powerOn comm ∧
      t.now = 0 ∧ t.seconds = 0 ∧ t.pending = s.pending ∧
      t.ct.lots = [] ∧ t.ct.filing = [] ∧ t.ct.serial = 0 ∧
      (∀ a, lookup t.ct.spaces a = if (t.tables.cargo a).isSome then some .within else none) ∧
      (∀ a d, t.tables.tank a = some d →
        lookup t.ct.tanks a = some ⟨0, .none, d.density, 0, d.firstZ, 0, 0, false⟩) ∧
      (∀ a box d, t.tables.const a = some (box, d) → lookup t.ct.consts a = some ⟨d.weight, d.pos⟩) ∧
      (∀ c, t.lift c = .idle) ∧
      (∀ c d, t.tables.crane c = some d →
        t.hook c = ⟨d.px, d.py, 0, .reported⟩ ∧ t.ct.structs.get c = some ⟨d.px, d.py, d.z⟩) ∧
      t.lcu.queue = [] ∧ t.lcu.inHand = none ∧ t.lcu.counter = 1 ∧ t.lcu.pairA = false ∧ t.lcu.pairB = false ∧
      t.hds.kept = 0 ∧ t.hds.dropped = 0)

/-- LINE_RESET (R36, R78, R115, R119, R184): the lots, filing list, tanks and constants that the new definitions still
admit, the HOOKED and LANDED_UNFILED records with their hooks UNKNOWN, and the blocks that keep nothing as `resetBlocks`
says; the time base runs on. With power low the line is released and the part stays in reset (assumption 13); taken
while the part runs it is the hold and the release together (assumption 13). That a kept filing list entry's position is
clamped into its destination's new box is read from R15 and R20 (assumption 40), and the worst point where the hull
record is unusable is the model's choice (assumption 24). The premise is the invariant `LiftRecordsStayConsistent`. -/
def Obligations.LineResetKeepsTheCondition : Prop :=
  ∀ (s : State) (comm : Bool),
    (s.phase = .off → exec (.lineReset comm) s = .next { s with line := false }) ∧
    (s.liftsWf → s.phase ≠ .off → ∃ t, exec (.lineReset comm) s = .next t ∧
      s.resetBlocks t .line comm ∧ s.keepsTable t ∧ s.keepsLifts t ∧ s.keepsCounts t ∧
      t.now = s.now ∧ t.seconds = s.seconds ∧ t.pending = s.pending)

/-- RESTART (R160, R171): it is answered DONE, and from then on every frame command of port P leaves the state as it is,
its frame staying in the buffer (assumption 5); the reset comes when that DONE has been sent, or at a break of port P
before, with what a LINE reset keeps (R36, R78, R115, R119, R184) and RESTART as its cause. That a kept filing list
entry is clamped into its destination's new box is assumption 40, and the worst point where the hull record is unusable
assumption 24. The premises of the second and the third clause are the invariants `NoJobIsLeftWaiting` and, with the
reset line released while the part runs, `LiftRecordsStayConsistent` and `TablesAndRecordsKeepTheirShape`. -/
def Obligations.RestartResetsWhenItsDoneIsSent : Prop :=
  ∀ (s : State) (comm : Bool),
    (s.takes .p kRestart [] →
      exec .restart s = .next ({ s with csv.restartPending := true }.replied .p (.done kRestart .plain))) ∧
    (s.phase = .running → s.noJobWaits → s.csv.restartPending = true →
      ∀ c : Instr, (∃ k, frameKind c = some (.p, k)) ∨ c = .unknownKind .p → exec c s = .next s) ∧
    (s.liftsWf → s.phase = .running → s.line = false → s.csv.restartPending = true →
      ∀ c : Instr, (c = .frameSent .p comm ∧ (s.link .p).sending = some (.frame (.done kRestart .plain))) ∨
          c = .linkBreak .p comm →
        ∃ t, exec c s = .next t ∧ s.resetBlocks t .restart comm ∧ s.keepsTable t ∧ s.keepsLifts t ∧
          s.keepsCounts t ∧ t.now = s.now ∧ t.seconds = s.seconds ∧ t.pending = s.pending)

/-- RESET_HOLD (R4, R156, R183, R184): the part is in reset, off while power is low, and remembers that the line is
held; every timer is stopped, every buffer, queue and order slot empty, the page buffer and the permit queue among them,
the alarm list empty with its lines released, no reservation, evaluation, stop, transfer or sweep left; a page being
programmed is TORN. The Condition Table and the HOOKED and LANDED_UNFILED records stay for the reset to come. That the
blocks take these values at the hold is the model's choice (assumption 26). -/
def Obligations.HoldStopsEveryTimer : Prop :=
  ∀ (s : State) (cause : HoldCause), ∃ t, exec (.resetHold cause) s = .next t ∧
    t.phase = (if cause = .power ∨ s.phase = .off then .off else .held) ∧
    t.line = (if cause = .line then true else s.line) ∧
    (∀ q, t.link q = ⟨.silent, 0, none, [], [], 0, none, none, none⟩) ∧ t.sli.summary = none ∧
    (∀ q, t.stopPort q = ⟨.none, none⟩) ∧ t.lmn.stop = none ∧
    t.tgt.timer = none ∧ t.tgt.sweep = .idle ∧ (∀ a, t.tgt.gauge a = ⟨false, none⟩) ∧ t.tgt.transfers = [] ∧
    t.als.entries = [] ∧ t.als.held = [] ∧ t.als.lineA = false ∧ t.als.lineL = false ∧ t.als.lineH = false ∧
    t.hds.prog = none ∧ t.hds.mode = .starting ∧ t.hds.buffer = ⟨0, []⟩ ∧
    (∀ page deadline, s.hds.prog = some (page, deadline) → t.hds.pageState page = .torn) ∧
    t.lcu.queue = [] ∧ t.lcu.inHand = none ∧ t.sev.state = .idle ∧ t.sev.trialWanted = false ∧ t.csv.trial = [] ∧
    (∀ c, t.lift c = match s.lift c with
      | .hooked l => .hooked l
      | .unfiled n w => .unfiled n w
      | _ => .idle) ∧
    (∀ c, t.hook c = s.hook c) ∧ t.ct = s.ct ∧ t.now = s.now ∧ t.elapsed = s.elapsed ∧ t.pending = s.pending

/-! ### Links (ch. 11) -/

/-- The frame check (R172): the check of R172's own example, the computation over an intact frame and its check gives 0,
and the receiver reads kind and payload back from it. -/
def Obligations.IntactFrameLeavesNoResidue : Prop :=
  crc [0x31, 0x32, 0x33, 0x34, 0x35, 0x36, 0x37, 0x38, 0x39] = 0x29B1 ∧
  ∀ (k : Byte) (p : List Byte), p.length ≤ 56 →
    crc (frameOctets k p) = 0 ∧ judgeFrame (frameOctets k p) = .whole ⟨k, p⟩

/-- FRAME_RECEIVED (R173, R177): a frame whose check matches joins the buffer, or is lost with OVERRUN reported when the
buffer holds 4; either way the consecutive-bad count goes to 0, LINK_DEGRADED clears, the silence timer restarts and the
port is ACTIVE, PORT_SILENT clearing. A frame too long, cut short or with a wrong check is discarded, the count goes up
by one to 3 at most, and LINK_DEGRADED stands at 3. Nothing else changes but port P's queue and the alarm list, of which
the first case says each change, in the order of assumption 41. -/
def Obligations.FramesAreJudged : Prop :=
  ∀ (s : State) (q : Port), s.phase = .running →
    (∀ (k : Byte) (p : List Byte), p.length ≤ 56 →
      let l := s.link q
      let l' : Link := { l with
        bad := 0
        silence := some (s.now + s.settings.silenceWindow * 100)
        state := .active
        inbound := if l.inbound.length < 4 then l.inbound ++ [⟨k, p⟩] else l.inbound }
      ∃ t, exec (.frameReceived q (frameOctets k p)) s = .next t ∧ t = (s.setLink q l').noting t ∧
        (s.als.held.Nodup → (⟨.linkDegraded, .port q⟩ : AlarmKey) ∉ t.als.held ∧
          (l.state ≠ .active → (⟨.portSilent, .port q⟩ : AlarmKey) ∉ t.als.held)) ∧
        (4 ≤ l.inbound.length → t.als.find ⟨.overrun, .port q⟩ = none → t.als.markAdvisory = true) ∧
        (let heard := s.clear ⟨.linkDegraded, .port q⟩
         let active := if l.state = .active then heard else heard.clear ⟨.portSilent, .port q⟩
         t.als = (if l.inbound.length < 4 then active else active.event ⟨.overrun, .port q⟩).als)) ∧
    (∀ o : List Byte,
      o.length < 2 ∨ 56 < (o.getD 1 0).toNat ∨ o.length < (o.getD 1 0).toNat + 4 ∨
        crc (o.take ((o.getD 1 0).toNat + 4)) ≠ 0 →
      let degraded : AlarmKey := ⟨.linkDegraded, .port q⟩
      ∃ t, exec (.frameReceived q o) s = .next t ∧
        t = (s.setLink q { s.link q with bad := min 3 ((s.link q).bad + 1) }).noting t ∧
        (2 ≤ (s.link q).bad → degraded ∈ t.als.held) ∧
        t.als = if 2 ≤ (s.link q).bad ∧ degraded ∉ s.als.held then (s.raise degraded).als else s.als)

/-- LINK_BREAK (R94, R116, R175, R177): the port is RESTARTING, its buffer and queue are emptied and what it was sending
is abandoned, the order slot keeping its order, which is sent again; a crane port's request or permit ends without a
message, the discard mark being set when the request is under evaluation, and a REPORTED hook that holds a load goes
UNKNOWN as `hookLost` says, with what that brings the alarm list and its notices. Then the evaluator chooses, and
nothing else changes, the alarm list staying when no hook is lost. A RESTART pending on port P is
`RestartResetsWhenItsDoneIsSent`. Where the hull record is unusable the worst point is assumption 24. -/
def Obligations.BreakFlushesThePort : Prop :=
  ∀ (s : State) (q : Port) (comm : Bool), s.phase = .running → (q = .p → s.csv.restartPending = false) →
    ∃ t, exec (.linkBreak q comm) s = .next t ∧
      t = (({ s with
        lcu.recs := t.lcu.recs
        lcu.queue := t.lcu.queue
        lcu.inHand := s.lcu.inHand.map fun (h : Crane × Bool) =>
          if portOf h.1 = q ∧ (s.lift h.1).isPending = true then (h.1, true) else h
        lcu.hooks := t.lcu.hooks
        ct.structs := t.ct.structs
        ct.serial := t.ct.serial }.setLink q { s.link q with
          state := .restarting
          inbound := []
          queue := []
          sending := if (s.link q).slot.isSome then some .order else none }).noting t).takeJob ∧
      (∀ c, t.lift c = if portOf c = q then (match s.lift c with
        | .pending _ _ | .granted _ _ _ _ => .idle
        | r => r) else s.lift c) ∧
      t.lcu.queue = (match craneOfPort q with
        | some c => if (s.lift c).isPending then s.lcu.queue.erase c else s.lcu.queue
        | none => s.lcu.queue) ∧
      s.hookLost t fun c => portOf c = q

/-- SILENCE_TIMER_EXPIRY (R116, R177): the timer is stopped, PORT_SILENT stands, an ACTIVE port goes SILENT, and then a
REPORTED hook of that port's crane that holds a load goes UNKNOWN as `hookLost` says. Then the evaluator chooses.
Nothing else changes but the alarm list by these two alarms, with their notices on port P. With no timer running there
is no such event (assumption 5). Where the hull record is unusable the worst point is assumption 24. -/
def Obligations.SilenceIsReported : Prop :=
  ∀ (s : State) (q : Port),
    ((s.link q).silence = none → exec (.silenceTimerExpiry q) s = .next s) ∧
    (∀ deadline, (s.link q).silence = some deadline →
      let l := s.link q
      let l' : Link := { l with silence := none, state := if l.state = .active then .silent else l.state }
      ∃ t, exec (.silenceTimerExpiry q) s = .next t ∧
        t = (({ s with
          now := max s.now deadline
          lcu.hooks := t.lcu.hooks
          ct.structs := t.ct.structs
          ct.serial := t.ct.serial }.setLink q l').noting t).takeJob ∧
        (⟨.portSilent, .port q⟩ : AlarmKey) ∈ t.als.held ∧
        ({ s with now := max s.now deadline }.raise ⟨.portSilent, .port q⟩).hookLost t fun c =>
          portOf c = q ∧ l.state = PortState.active)

/-- What a port sends (R172, R178, R179): the slot's order or the message taken from the queue, as a frame of its kind
octet and its payload, most significant octet first and signed fields in two's complement; STOP, RESUME, REFUSED and
SUMMARY field by field as R179 lays them out; of every other message the kind octet and the payload's length, the sum of
its fields' widths. The layout and numbers that R179 does not give are the model's choice (assumptions 15, 16, 32, 39,
44, 45). And FRAME_SENT (R174, R175): the order that was sent leaves the slot and the waiting order takes its place;
then the transmitter takes the slot's order, or else the head of the queue, or is free. With nothing being sent there is
no such event (assumption 5). Nothing else changes. The DONE of a RESTART is `RestartResetsWhenItsDoneIsSent`. -/
def Obligations.TransmitterTakesTheOrderFirst : Prop :=
  (∀ (n i : Nat) (v : Int), i < n → (octets n v).length = n ∧
    (octets n v)[i]? = some ((BitVec.ofInt (8 * n) v).extractLsb' (8 * (n - 1 - i)) 8)) ∧
  (∀ l : Link, l.onLine = match l.sending with
    | none => none
    | some .order => l.slot.map fun o => frameOctets o.kind o.payload
    | some (.frame m) => some (frameOctets m.kind m.payload)) ∧
  (∀ (c : Criterion) (n : Serial),
    (Order.stop c n).kind = 131 ∧ (Order.resume n).kind = 132 ∧ (Order.resume n).payload = octets 2 n.toNat ∧
    (Order.stop c n).payload = octets 1 (match c with
      | .heel => 0
      | .gm => 1
      | .draught => 2
      | .shear => 3
      | .bending => 4) ++ octets 2 n.toNat) ∧
  (∀ (k : Byte) (i : Nat) (c : Code),
    ([.unknownKind, .badField, .notInService, .wrongMode, .portPaired, .craneBusy, .queueFull, .overSwl, .outOfReach,
      .stopped, .noPermit, .conditionUnsettled, .portsBusy, .duplicateLot, .noSuchLot, .badSpace, .outOfSpace, .poolFull,
      .lotInMotion, .storeBusy, .bufferHeld, .trialBusy, .trialFull] : List Code)[i]? = some c →
    (OutMsg.refused k c).payload = [k, BitVec.ofNat 8 (i + 1)]) ∧
  (∀ x : Summary,
    let f (n : Nat) (g : LiveSummary → Int) : List Byte := octets n (match x.live with
      | some r => g r
      | none => -1)
    let bit (b : Bool) (n : Int) : Int := if b then n else 0
    (OutMsg.summary x).payload = octets 2 x.serial.toNat ++ octets 1 (match x.mode with
      | .starting => 0
      | .service => 1
      | .commissioning => 2
      | .degraded => 3) ++ octets 1 (bit x.live.isSome 1) ++ f 2 (fun r => r.serial.toNat) ++ f 3 LiveSummary.disp ++
      f 2 LiveSummary.heel ++ f 3 LiveSummary.gmf ++ f 3 LiveSummary.trim ++ f 3 LiveSummary.ta ++ f 3 LiveSummary.tf ++
      f 2 LiveSummary.worstSfPm ++ f 2 LiveSummary.worstBmPm ++ octets 1 (bit x.stop 1) ++
      octets 1 (bit x.ala 1 + bit x.all 2 + bit x.alh 4) ++ octets 1 (bit x.markAdvisory 1 + bit x.markLimit 2)) ∧
  (∀ m : OutMsg, (m.kind.toNat, m.payload.length) = match m with
    | .done k body => (128, match body with
      | .plain => 0
      | .count _ | .permit _ | .report _ | .stop _ => 1
      | .entry _ | .page _ _ | .transfer _ _ => 2
      | .loaded _ _ _ => 3
      | .stored _ _ => if k = kSetDensity then 4 else 5
      | .setting _ _ => 6
      | .landed _ at' => if at'.isSome then 10 else 1)
    | .refused _ _ => (129, 2)
    | .summary _ => (130, 30)
    | .value _ f run items => (144, 2 + (if run then 1 else 0) + items.length *
      (1 + if f ∈ [1, 8, 9, 13, 14, 18, 22, 28] then 1 else if f ∈ [12, 19, 20, 23, 26, 32] then 2 else 3))
    | .stow _ _ _ _ lots => (145, 10 + 5 * lots.length)
    | .lotInfo _ => (146, 30)
    | .result trial _ _ _ _ index => (147, 48 + if trial then (if index.isSome then 1 else 0) else 6)
    | .strength _ _ _ _ count _ => (148, 7 + 13 * count)
    | .alarms _ _ _ _ _ _ items => (149, 3 + 9 * items.length)
    | .setting _ _ => (150, 6)
    | .storeData _ _ words => (151, 2 + 4 * words.length)
    | .trialResult _ _ _ index => (152, 49 + if index.isSome then 1 else 0)
    | .notice _ => (153, 10)
    | .startReport r => (154, 16 + 2 * r.tests.length)
    | .liftGranted _ _ _ _ => (160, 9)
    | .liftRefused _ _ _ v => (161, 4 + match v with
      | .heel _ _ => 8
      | .gm _ | .draught _ | .shear _ _ | .bending _ _ => 3
      | .capacity _ _ => 6)
    | .liftExpired _ => (162, 1)
    | .liftWithdrawn _ _ => (163, 2)
    | .late _ _ => (164, 3)
    | .counterAdvice _ _ _ => (176, 9)) ∧
  ∀ (s : State) (q : Port) (comm : Bool),
    ¬ (q = .p ∧ s.csv.restartPending = true ∧ (s.link q).sending = some (.frame (.done kRestart .plain))) →
    let l := s.link q
    let order := if l.sending = some .order then l.waiting else l.slot
    exec (.frameSent q comm) s = .next (
      if l.sending = none then s
      else s.setLink q { l with
        slot := order
        waiting := if l.sending = some .order then none else l.waiting
        sending := if order.isSome then some .order else l.queue.head?.map Tx.frame
        queue := if order.isSome then l.queue else l.queue.tail })

/-- SUMMARY_TIMER_EXPIRY (R176): the timer restarts for the period in force, and on each port one SUMMARY of the state
as it stands replaces a SUMMARY that waits, or joins the tail where an entry is free, or is skipped. Nothing else
changes. With no timer running there is no such event, and the state stays (assumption 5). -/
def Obligations.SummaryGoesOutOnEveryPort : Prop :=
  ∀ s : State,
    (s.sli.summary = none → exec .summaryTimerExpiry s = .next s) ∧
    (∀ deadline, s.sli.summary = some deadline →
      let m : OutMsg := .summary
        { serial := s.ct.serial
          mode := s.hds.mode
          live := s.sev.live.map fun r => ⟨r.serial, r.disp, r.heel, r.gmf, r.trim, r.ta, r.tf, r.strength.worstSfPm,
            r.strength.worstBmPm⟩
          stop := s.lmn.stop.isSome
          ala := s.als.lineA
          all := s.als.lineL
          alh := s.als.lineH
          markAdvisory := s.als.markAdvisory
          markLimit := s.als.markLimit }
      ∃ t, exec .summaryTimerExpiry s = .next t ∧
        t = { s with now := max s.now deadline, sli := t.sli } ∧
        t.sli.summary = some (max s.now deadline + s.settings.summaryPeriod * 100) ∧
        ∀ q, t.link q =
          if (s.link q).queue.any OutMsg.isSummary then
            { s.link q with queue := (s.link q).queue.map fun e => if e.isSummary then m else e }
          else if (s.link q).queue.length + (s.link q).reserved < 8 then
            { s.link q with queue := (s.link q).queue ++ [m] }.start
          else s.link q)

/-- Which frames are taken, and which are refused unread (R6, R80, R160, R173, R174, R178, R179). A frame of a kind that
its port does not serve is answered with the kind octet received and UNKNOWN_KIND; one of a kind that the port serves is
no such event (assumption 5). A frame of a served kind whose length is not one its kind requires is answered BAD_FIELD,
and one of the right length on the port of an undefined crane BAD_SPACE; nothing else changes. Of the lengths,
SET_CONSTANT's rests on assumption 39, those of the transfer frames on assumption 44, the values of TRIAL_ADD's change
kinds on assumption 15, and that a change kind that is none of the six has no required length on assumption 17; that a
store message's length is judged before the mode is assumption 42. No frame is taken, and nothing changes, while the
part mode is STARTING, on port P while a restart is pending, while the outbound queue has no free entry, or when the
frame at the head of the buffer is not of the command's kind or there is none. The premise that no job is left waiting
is the invariant `NoJobIsLeftWaiting`. -/
def Obligations.UnservedKindIsUnknown : Prop :=
  (∀ (s : State) (q : Port) (k : Byte) (p : List Byte), s.takes q k p →
    let served : List Nat := match q with
      | .p => (List.range 25).map (· + 1)
      | .b => [53, 64, 65, 66]
      | .c1 | .c2 | .c3 | .c4 => [48, 49, 50, 51, 52, 53]
    exec (.unknownKind q) s = .next (if k.toNat ∈ served then s else s.replied q (.refused k .unknownKind))) ∧
  (∀ (s : State) (c : Instr) (q : Port), ((∃ k, frameKind c = some (q, k)) ∨ c = .unknownKind q) →
    (s.hds.mode = .starting → exec c s = .next s) ∧
    (s.phase = .running → s.noJobWaits →
      (q = .p ∧ s.csv.restartPending = true) ∨ 8 ≤ (s.link q).queue.length + (s.link q).reserved ∨
        (s.link q).inbound = [] → exec c s = .next s)) ∧
  ∀ (s : State) (c : Instr) (q : Port) (k : Nat) (head : Byte) (p : List Byte), frameKind c = some (q, k) →
    s.noJobWaits → s.takes q head p →
    (head.toNat ≠ k → exec c s = .next s) ∧
    (head.toNat = k → ¬ fitsKind k p → exec c s = .next (s.replied q (.refused head .badField))) ∧
    (head.toNat = k → fitsKind k p → ∀ crane, craneOfPort q = some crane → s.tables.crane crane = none →
      exec c s = .next (s.replied q (.refused head .badSpace)))

/-! ### Reads (ch. 10.2) -/

/-- READ_ITEM, READ_RUN and READ_STOW (R5, R10, R161, R162): which reply goes out for every address octet and every
other field, and that nothing else changes: an item with its address's KIND, by R10's table of the 41 fields as
`itemTable` writes it, the absent marker where the table has none; a run that does not leave its block; or the stow
list's length, the space's total weight and the lots from the start position on, with the absent marker for an address
that is no defined CARGO space. The order of the two checks, address octet before the other field, is the model's choice
(assumption 25). -/
def Obligations.ReadsAnswerByAddress : Prop :=
  ∀ (s : State) (a f n i : Nat), a < 256 → f < 256 → n < 256 → i < 65536 →
    (s.takes .p kReadItem (octetsN 1 a ++ octetsN 1 f) →
      exec .readItem s = .next (s.replied .p (
        if 128 ≤ a ∧ a ≠ 254 then .refused kReadItem .badField
        else if a = 254 then .refused kReadItem .badSpace
        else if f < 1 ∨ 41 < f then .refused kReadItem .badField
        else .value a f false [(s.kindAt a, lookup (s.itemTable a) f)]))) ∧
    (s.takes .p kReadRun (octetsN 1 a ++ octetsN 1 f ++ octetsN 1 n) →
      exec .readRun s = .next (s.replied .p (
        if 128 ≤ a ∧ a ≠ 254 then .refused kReadRun .badField
        else if a = 254 then .refused kReadRun .badSpace
        else if f < 1 ∨ 41 < f ∨ n < 1 ∨ 13 < n then .refused kReadRun .badField
        else .value a f true ((List.range (min n (16 - a % 16))).map fun k =>
          (s.kindAt (a + k), lookup (s.itemTable (a + k)) f))))) ∧
    (s.takes .p kReadStow (octetsN 1 a ++ octetsN 2 i ++ octetsN 1 n) →
      exec .readStow s = .next (s.replied .p (
        if 128 ≤ a ∧ a ≠ 254 then .refused kReadStow .badField
        else if a = 254 then .refused kReadStow .badSpace
        else if n < 1 ∨ 8 < n then .refused kReadStow .badField
        else if (s.tables.cargo a).isSome = true then
          .stow a 1 (some ((s.ct.stow a).length, s.ct.total a)) i
            (((s.ct.stow a).drop i).take n |>.map fun l => (l.num, l.weight))
        else .stow a (s.kindAt a) none i [])))

/-- READ_LOT (R163): LOT_INFO from the stow list entry with its position, or the HOOKED record, or the filing list, in
that order; NO_SUCH_LOT when none holds the number, BAD_FIELD for lot number 0; and nothing else changes. -/
def Obligations.LotReadFindsTheHolder : Prop :=
  ∀ (s : State) (n : Nat), n < 65536 → s.takes .p kReadLot (octetsN 2 n) →
    (n = 0 → exec .readLot s = .next (s.replied .p (.refused kReadLot .badField))) ∧
    (n ≠ 0 → ∀ l, s.ct.lots.find? (fun e => e.num == n) = some l →
      exec .readLot s = .next (s.replied .p (.lotInfo (.stowed l ((s.ct.stow l.loc).findIdx fun e => e.num == n))))) ∧
    (n ≠ 0 → (∀ l ∈ s.ct.lots, l.num ≠ n) →
      (∀ c l, s.lift c = .hooked l → l.lot = n → (∀ c' l', s.lift c' = .hooked l' → l'.lot = n → c' = c) →
        exec .readLot s = .next (s.replied .p (.lotInfo (.hooked c l (s.hook c))))) ∧
      ((∀ c l, s.lift c = .hooked l → l.lot ≠ n) →
        exec .readLot s = .next (s.replied .p (match s.ct.filing.find? fun f => f.num == n with
          | some f => .lotInfo (.unfiled f)
          | none => .refused kReadLot .noSuchLot))))

/-- READ_RESULT and READ_STRENGTH (R132, R164, R165): LIVE has status RESULT with the live record while one is installed
and NONE without; TRIAL has the outcome's status, its record with RESULT, and the index of the first inconsistent change
with INVALID. The measured draughts go with the live record: of an end's two channels the rounded mean of the last good
values where both are GOOD, that of the one that is GOOD, or none. The stations asked for follow, none past station 20;
a wrong selector, station or count is BAD_FIELD; and nothing else changes. Selector 0 for LIVE and 1 for TRIAL is the
model's choice (assumption 15). -/
def Obligations.ResultReadsAnswerTheSelectedRecord : Prop :=
  ∀ (s : State) (v k n : Nat), v < 256 → k < 256 → n < 256 →
    let live : ResultStatus × Option Result := match s.sev.live with
      | some r => (.result, some r)
      | none => (.none, none)
    let trial : ResultStatus × Option Result := match s.csv.outcome with
      | .none => (.none, none)
      | .pending => (.pending, none)
      | .result r => (.result, some r)
      | .invalid _ _ => (.invalid, none)
    let index : Option Nat := match s.csv.outcome with
      | .invalid i _ => some i
      | _ => none
    (s.takes .p kReadResult (octetsN 1 v) →
      exec .readResult s = .next (s.replied .p (
        if v = 0 then .result false live.1 live.2 (s.measured 32 33) (s.measured 34 35) none
        else if v = 1 then .result true trial.1 trial.2 none none index
        else .refused kReadResult .badField))) ∧
    (s.takes .p kReadStrength (octetsN 1 v ++ octetsN 1 k ++ octetsN 1 n) →
      exec .readStrength s = .next (s.replied .p (
        if 1 < v ∨ 20 < k ∨ n < 1 ∨ 3 < n then .refused kReadStrength .badField
        else
          let sel := if v = 0 then live else trial
          .strength (v == 1) sel.1 (sel.2.map fun r => (r.serial, r.strength.set)) k (min n (21 - k))
            (match sel.2 with
              | some r => (List.range (min n (21 - k))).map fun i => ⟨nth r.strength.sf (k + i), nth r.strength.bm (k + i),
                  nth r.strength.sfPm (k + i), nth r.strength.bmPm (k + i)⟩
              | none => []))))

/-- READ_ALARMS and READ_SETTING (R159, R165, R167): at most four entries from the start index on, with the count, the
markers and the lines; a setting's stored value, a pairing's from the LCU; BAD_FIELD outside the ranges; and nothing
else changes. -/
def Obligations.AlarmAndSettingReadsAnswer : Prop :=
  ∀ (s : State) (v : Nat), v < 256 →
    (s.takes .p kReadAlarms (octetsN 1 v) →
      exec .readAlarms s = .next (s.replied .p (
        if 31 < v then .refused kReadAlarms .badField
        else .alarms s.als.entries.length s.als.markAdvisory s.als.markLimit s.als.lineA s.als.lineL s.als.lineH
          ((List.range (min 4 (s.als.entries.length - v))).filterMap fun i =>
            s.als.entries[v + i]?.map fun e => (v + i, e))))) ∧
    (s.takes .p kReadSetting (octetsN 1 v) →
      exec .readSetting s = .next (s.replied .p (
        if v < 1 ∨ 16 < v then .refused kReadSetting .badField
        else if v = 15 then .setting v (if s.lcu.pairA then 1 else 0)
        else if v = 16 then .setting v (if s.lcu.pairB then 1 else 0)
        else .setting v ((s.settings.value v).getD 0))))

/-! ### Data entry (ch. 2, ch. 10.3) -/

/-- SET_CONSTANT (R30): its three checks in their order; else the slot's weight and centroid are written, the serial
moves on exactly when they differ from those held, DONE carries it (R166), and nothing else changes but the evaluator's
choice of a job. That the frame carries the slot in one octet is assumption 39. -/
def Obligations.SetConstantWritesTheSlot : Prop :=
  ∀ (s : State) (slot : Nat) (w : Int) (q : Pos), slot < 256 → weightOnWire w → q.onWire →
    s.takes .p kSetConstant (octetsN 1 slot ++ octets 3 w ++ posOctets q) →
    let refused (c : Code) : Prop := exec .setConstant s = .next (s.replied .p (.refused kSetConstant c)).takeJob
    if 60000 < w ∨ q.inFrame = false ∨ 15 < slot then refused .badField
    else
      match s.tables.const (112 + slot) with
      | none => refused .badSpace
      | some (box, _) =>
        if box.holds q = false then refused .outOfSpace
        else
          let serial := if lookup s.ct.consts (112 + slot) = some ⟨w, q⟩ then s.ct.serial else s.ct.serial + 1
          exec .setConstant s = .next ({ s with
            ct.consts := adjust s.ct.consts (112 + slot) fun _ => ⟨w, q⟩
            ct.serial := serial }.replied .p (.done kSetConstant (.entry serial))).takeJob

/-- ENTER_LOT (R19): its five checks in their order; else the lot joins the tail of its space's stow list as entered by
the console now, the space's capacity state follows its new load with OVER_CAPACITY (R18), the serial moves on once, and
DONE carries it. Nothing else changes but the alarm list with its notices and the evaluator's choice of a job. That DONE
stands behind the notices is assumption 10. -/
def Obligations.EnterLotFollowsItsChecks : Prop :=
  ∀ (s : State) (n a : Nat) (w : Int) (q : Pos), n < 65536 → a < 256 → weightOnWire w → q.onWire →
    s.takes .p kEnterLot (octetsN 2 n ++ octetsN 1 a ++ octets 3 w ++ posOctets q) →
    let refused (c : Code) : Prop := exec .enterLot s = .next (s.replied .p (.refused kEnterLot c)).takeJob
    if n = 0 ∨ w < 1 ∨ 20000 < w ∨ q.inFrame = false ∨ (128 ≤ a ∧ a ≠ 254) then refused .badField
    else
      match s.tables.cargo a with
      | none => refused .badSpace
      | some (box, capacity) =>
        if (s.ct.lots.any fun l => l.num == n) = true ∨ (cranes.any fun c => (s.lift c).lotOf == some n) = true then
          refused .duplicateLot
        else if box.holds q = false then refused .outOfSpace
        else if Config.poolSize ≤ s.ct.lots.length then refused .poolFull
        else ∃ t, exec .enterLot s = .next t ∧
          t = (({ s with
            ct.lots := s.ct.lots ++ [(⟨n, w, q, a, .console, s.seconds⟩ : Lot)]
            ct.serial := s.ct.serial + 1 }.spaceJudged a).replied .p
              (.done kEnterLot (.entry (s.ct.serial + 1)))).takeJob ∧
          ((lookup s.ct.spaces a).isSome = true →
            lookup t.ct.spaces a = some (if capacity < s.ct.load a + w then .over else .within)) ∧
          (lookup t.ct.spaces a = lookup s.ct.spaces a → t.als = s.als) ∧
          (∀ b, b ≠ a → lookup t.ct.spaces b = lookup s.ct.spaces b)

/-- REMOVE_LOT (R21, R23): its checks in their order, LOT_IN_MOTION for a lot that is on a hook or waits in the filing
list, or that is the origin of a PENDING or GRANTED lift from a space; else the lot leaves its stow list and frees its
record, the serial moving on once; when a load waits in the filing list, the record goes to it at once, as the next
operation: that load joins the tail of its destination's list, its crane's record goes to IDLE and the serial moves on
again. The space that the lot left has the capacity state of its load, with OVER_CAPACITY (R18), and a filing clears
LANDED_UNFILED. Nothing else changes but the alarm list with its notices and the evaluator's choice of a job. DONE
carries the serial after the take (assumption 37) and stands behind the notices (assumption 10). The premise on the pool
is the invariant `LiftRecordsStayConsistent`. What counts as the origin of a lift is assumption 35. -/
def Obligations.RemoveLotTakesAndFiles : Prop :=
  ∀ (s : State) (n : Nat), n < 65536 → s.ct.lots.length ≤ Config.poolSize → s.takes .p kRemoveLot (octetsN 2 n) →
    let held : Bool := cranes.any fun c => match s.lift c with
      | .hooked l => l.lot == n
      | .unfiled m _ => m == n
      | _ => false
    let origin : Bool := cranes.any fun c => match s.lift c with
      | .pending r _ | .granted r _ _ _ => r.lot == n && r.origin != .quay
      | _ => false
    let refused (c : Code) : Prop := exec .removeLot s = .next (s.replied .p (.refused kRemoveLot c)).takeJob
    if n = 0 then refused .badField
    else
      match s.ct.lots.find? fun l => l.num == n with
      | none => if held = true then refused .lotInMotion else refused .noSuchLot
      | some l =>
        if origin = true then refused .lotInMotion
        else
          let rest := s.ct.lots.eraseP fun (e : Lot) => e.num == n
          let taken : State := { s with ct.lots := rest, ct.serial := s.ct.serial + 1 }.spaceJudged l.loc
          let filed : State := match s.ct.filing with
            | [] => taken
            | f :: waiting =>
              { taken with
                ct.lots := rest ++ [(⟨f.num, f.weight, f.pos, f.dest, .crane f.crane, f.landed⟩ : Lot)]
                ct.filing := waiting
                ct.serial := s.ct.serial + 2
                lcu.recs := s.lcu.recs.set f.crane .idle }.clear ⟨.landedUnfiled, .crane f.crane⟩
          ∃ t, exec .removeLot s = .next t ∧
            t = (filed.replied .p (.done kRemoveLot (.entry (s.ct.serial + 1)))).takeJob ∧
            (∀ b, b ≠ l.loc → lookup t.ct.spaces b = lookup s.ct.spaces b) ∧
            (∀ box capacity, s.tables.cargo l.loc = some (box, capacity) → (lookup s.ct.spaces l.loc).isSome = true →
              lookup t.ct.spaces l.loc =
                some (if capacity < CondTable.load { s.ct with lots := rest } l.loc then .over else .within))

/-- SHIFT_LOT (R22): its five checks in their order, LOT_IN_MOTION as for REMOVE_LOT. Within its own space the lot keeps
its place and takes the new position, and the serial moves on when that differs; to another space it leaves its list and
joins the other's tail, and the serial moves on. Its number, weight, "entered by" and "landed at" stay. Nothing else
changes but the two capacity states with OVER_CAPACITY (R18), the alarm list with its notices and the evaluator's choice
of a job. What counts as the origin of a lift is assumption 35, and that DONE stands behind the notices is assumption
10. -/
def Obligations.ShiftLotMovesTheLot : Prop :=
  ∀ (s : State) (n a : Nat) (q : Pos), n < 65536 → a < 256 → q.onWire →
    s.takes .p kShiftLot (octetsN 2 n ++ octetsN 1 a ++ posOctets q) →
    let held : Bool := cranes.any fun c => match s.lift c with
      | .hooked l => l.lot == n
      | .unfiled m _ => m == n
      | _ => false
    let origin : Bool := cranes.any fun c => match s.lift c with
      | .pending r _ | .granted r _ _ _ => r.lot == n && r.origin != .quay
      | _ => false
    let refused (c : Code) : Prop := exec .shiftLot s = .next (s.replied .p (.refused kShiftLot c)).takeJob
    if n = 0 ∨ q.inFrame = false ∨ (128 ≤ a ∧ a ≠ 254) then refused .badField
    else
      match s.ct.lots.find? fun l => l.num == n with
      | none => if held = true then refused .lotInMotion else refused .noSuchLot
      | some l =>
        if held = true ∨ origin = true then refused .lotInMotion
        else
          match s.tables.cargo a with
          | none => refused .badSpace
          | some (box, _) =>
            if box.holds q = false then refused .outOfSpace
            else if l.loc = a then
              let serial := if l.pos = q then s.ct.serial else s.ct.serial + 1
              exec .shiftLot s = .next ({ s with
                ct.lots := s.ct.lots.map fun (e : Lot) => if e.num = n then { e with pos := q } else e
                ct.serial := serial }.replied .p (.done kShiftLot (.entry serial))).takeJob
            else ∃ t, exec .shiftLot s = .next t ∧
              t = ((({ s with
                ct.lots := (s.ct.lots.eraseP fun (e : Lot) => e.num == n) ++ [{ l with loc := a, pos := q }]
                ct.serial := s.ct.serial + 1 }.spaceJudged l.loc).spaceJudged a).replied .p
                  (.done kShiftLot (.entry (s.ct.serial + 1)))).takeJob ∧
              (∀ b, b ≠ a → b ≠ l.loc → lookup t.ct.spaces b = lookup s.ct.spaces b) ∧
              (∀ b box capacity, b = a ∨ b = l.loc → s.tables.cargo b = some (box, capacity) →
                (lookup s.ct.spaces b).isSome = true →
                lookup t.ct.spaces b = some (if capacity < t.ct.load b then .over else .within))

/-- SET_DENSITY (R27, R24): BAD_FIELD or BAD_SPACE by R5; else the clamped density is written and the derived fields
follow, the serial moves on exactly when the density differs, DONE carries the stored value (R166), and nothing else
changes but the evaluator's choice of a job. -/
def Obligations.SetDensityRecomputesTheWeight : Prop :=
  ∀ (s : State) (a v : Nat), a < 256 → v < 65536 → s.takes .p kSetDensity (octetsN 1 a ++ octetsN 2 v) →
    let refused (c : Code) : Prop := exec .setDensity s = .next (s.replied .p (.refused kSetDensity c)).takeJob
    if 128 ≤ a ∧ a ≠ 254 then refused .badField
    else
      match s.tables.tank a with
      | none => refused .badSpace
      | some d =>
        ∀ live, s.tank a = some live →
          let stored := max 6000 (min 20000 (Int.ofNat v))
          let serial := if live.density = stored then s.ct.serial else s.ct.serial + 1
          let filled := live.source ≠ .none
          let p := d.values live.sounding
          exec .setDensity s = .next ({ s with
            ct.tanks := adjust s.ct.tanks a fun _ =>
              { sounding := if filled then live.sounding else 0
                source := live.source
                density := stored
                volume := if filled then p.volume else 0
                liqZ := if filled then p.liqZ else d.firstZ
                inertia := if filled then p.inertia else 0
                weight := if filled then rdiv (p.volume * stored) 100000 else 0
                inTransfer := live.inTransfer }
            ct.serial := serial }.replied .p (.done kSetDensity (.stored serial stored))).takeJob

/-- SET_MANUAL (R24, R25, R28, R131): BAD_FIELD or BAD_SPACE by R5; else the sounding, clamped to the tank's depth, is
written with source MANUAL and the derived fields follow; the serial moves on exactly when weight, liquid z or inertia
changes; the channel's candidate is dropped, the release mark cleared and the hold timer stopped, SENSOR_LOST clears,
and SENSOR_FAULT is judged (R129); DONE carries the stored sounding. Nothing else changes but the alarm list with its
notices and the evaluator's choice of a job. That DONE stands behind the notices is assumption 10. And what a tank table
gives (R25): on a point that point's values, between two neighbouring points each value by the rounded proportion, below
the first point the first's and above the last the last's; the premise is part of the invariant
`TablesAndRecordsKeepTheirShape`. -/
def Obligations.SetManualWritesTheSounding : Prop :=
  (∀ (d : TankDef) (x : Int), (d.table.map TankPoint.sounding).Pairwise (· < ·) →
    let gives (volume liqZ inertia : Int) : Prop :=
      (d.values x).volume = volume ∧ (d.values x).liqZ = liqZ ∧ (d.values x).inertia = inertia
    (∀ p ∈ d.table, x = p.sounding → gives p.volume p.liqZ p.inertia) ∧
    (∀ below a b above, d.table = below ++ a :: b :: above → a.sounding < x → x < b.sounding →
      let along (v w : Int) : Int := v + rdiv ((w - v) * (x - a.sounding)) (b.sounding - a.sounding)
      gives (along a.volume b.volume) (along a.liqZ b.liqZ) (along a.inertia b.inertia)) ∧
    (∀ a above, d.table = a :: above → x < a.sounding → gives a.volume a.liqZ a.inertia) ∧
    (∀ below b, d.table = below ++ [b] → b.sounding < x → gives b.volume b.liqZ b.inertia)) ∧
  ∀ (s : State) (a : Nat) (v : Int), a < 256 → weightOnWire v → s.takes .p kSetManual (octetsN 1 a ++ octets 3 v) →
    let refused (c : Code) : Prop := exec .setManual s = .next (s.replied .p (.refused kSetManual c)).takeJob
    if 128 ≤ a ∧ a ≠ 254 then refused .badField
    else
      match s.tables.tank a with
      | none => refused .badSpace
      | some d =>
        ∀ live, s.tank a = some live → 0 ≤ d.depth →
          let stored := min d.depth v
          let p := d.values stored
          let w := rdiv (p.volume * live.density) 100000
          let serial := if live.weight = w ∧ live.liqZ = p.liqZ ∧ live.inertia = p.inertia then s.ct.serial
            else s.ct.serial + 1
          ∃ t, exec .setManual s = .next t ∧
            t = ((({ s with
              ct.tanks := adjust s.ct.tanks a fun _ =>
                ⟨stored, .manual, live.density, p.volume, p.liqZ, p.inertia, w, live.inTransfer⟩
              ct.serial := serial
              tgt.chans := (match d.channel with
                | some ch => adjust s.tgt.chans ch fun c => { c with candidate := none }
                | none => s.tgt.chans)
              tgt.gauges := adjust s.tgt.gauges a fun _ => ⟨false, none⟩ }.noting t).replied .p
                (.done kSetManual (.stored serial stored)))).takeJob ∧
            (s.als.held.Nodup → (⟨.sensorLost, .addr a⟩ : AlarmKey) ∉ t.als.held) ∧ s.faultJudged t a d

/-- RELEASE_MANUAL (R28, R131): BAD_FIELD or BAD_SPACE by R5; a MANUAL tank goes to HELD with its sounding and derived
fields kept, its channel's candidate dropped, its release mark set and its hold timer started for the sensor hold limit;
a tank in any other source is left as it is. DONE carries the serial, which does not move, and nothing else changes but
the evaluator's choice of a job. -/
def Obligations.ReleaseManualHoldsTheTank : Prop :=
  ∀ (s : State) (a : Nat), a < 256 → s.takes .p kReleaseManual (octetsN 1 a) →
    let refused (c : Code) : Prop := exec .releaseManual s = .next (s.replied .p (.refused kReleaseManual c)).takeJob
    let reply : OutMsg := .done kReleaseManual (.entry s.ct.serial)
    if 128 ≤ a ∧ a ≠ 254 then refused .badField
    else
      match s.tables.tank a with
      | none => refused .badSpace
      | some d =>
        ∀ live, s.tank a = some live →
          if live.source = .manual then
            exec .releaseManual s = .next ({ s with
              ct.tanks := adjust s.ct.tanks a fun e => { e with source := .held }
              tgt.chans := (match d.channel with
                | some ch => adjust s.tgt.chans ch fun c => { c with candidate := none }
                | none => s.tgt.chans)
              tgt.gauges := adjust s.tgt.gauges a fun _ => ⟨true, some (s.now + s.settings.holdLimit * 1000)⟩
              }.replied .p reply).takeJob
          else exec .releaseManual s = .next (s.replied .p reply).takeJob

/-! ### Settings, trials, acknowledgement, restart (ch. 9, ch. 10.4 to 10.6) -/

/-- SET_SETTING on Console Services' own settings (R34, R124, R167): an identifier outside 1 to 16 and a strength set
above 1 are BAD_FIELD; a numeric value is clamped, a mask takes its low 36 bits; DONE carries the stored value; every
other setting keeps its value; the serial moves on exactly for a new strength set or draught limit. Nothing else changes
but the evaluator's choice of a job. A mask that becomes empty besides stops the sweep and leaves no channel active:
every channel that was active leaves the sweep with what that brings its tank, as `leavesSweep` says, every other
channel, tank and gauge staying (R123, R130), and SENSOR_FAULT is judged for every tank (R129); that DONE then stands
behind the notices is assumption 10. -/
def Obligations.SetSettingStoresTheClampedValue : Prop :=
  ∀ (s : State) (id v : Nat), id < 256 → v < 2 ^ 40 → s.takes .p kSetSetting (octetsN 1 id ++ octetsN 5 v) →
    let refused (c : Code) : Prop := exec .setSetting s = .next (s.replied .p (.refused kSetSetting c)).takeJob
    let stores (stored : Nat) (moves : Bool) : Prop :=
      ∃ set : Settings, set.value id = some stored ∧ (∀ j, j ≠ id → set.value j = s.settings.value j) ∧
        exec .setSetting s = .next ({ s with
          csv.settings := set
          ct.serial := if moves && s.settings.value id != some stored then s.ct.serial + 1 else s.ct.serial
          }.replied .p (.done kSetSetting (.setting id stored))).takeJob
    (id < 1 ∨ 16 < id → refused .badField) ∧
    (∀ lo hi, (id, lo, hi) ∈ numericSettings →
      stores (if id = 12 ∧ v = 0 then 0 else max lo (min hi v)) (id == 12)) ∧
    (id = 13 → if 1 < v then refused .badField else stores v true) ∧
    (id = 5 → v % 2 ^ 36 ≠ 0 ∨ s.settings.mask = 0 → stores (v % 2 ^ 36) false) ∧
    (id = 5 → v % 2 ^ 36 = 0 → s.settings.mask ≠ 0 →
      ∃ t, exec .setSetting s = .next t ∧
        t = ((({ s with
          csv.settings.mask := 0
          ct.tanks := t.ct.tanks
          tgt.chans := t.tgt.chans
          tgt.gauges := t.tgt.gauges
          tgt.sweep := .idle
          tgt.active := [] }.noting t).replied .p (.done kSetSetting (.setting 5 0)))).takeJob ∧
        s.leavesSweep t (fun ch => ch ∈ s.tgt.active) s.now ∧
        (∀ a d, s.tables.tank a = some d → s.faultJudged t a d))

/-- SET_SETTING on a pairing (R105, R167): a value above 1 is BAD_FIELD; with either crane of the pair undefined it is
refused BAD_SPACE; a value already held changes nothing; with both records IDLE the pairing takes the value; otherwise
it is refused PORTS_BUSY. -/
def Obligations.PairingChangesOnlyBetweenIdlePorts : Prop :=
  ∀ (s : State) (id v : Nat) (c : Crane), v < 2 ^ 40 → (id = 15 ∧ c = .k1) ∨ (id = 16 ∧ c = .k3) →
    s.takes .p kSetSetting (octetsN 1 id ++ octetsN 5 v) →
    let refused (e : Code) : Prop := exec .setSetting s = .next (s.replied .p (.refused kSetSetting e)).takeJob
    let reply : OutMsg := .done kSetSetting (.setting id v)
    if 1 < v then refused .badField
    else if s.tables.crane c = none ∨ s.tables.crane (mate c) = none then refused .badSpace
    else if s.lcu.paired c = (v == 1) then exec .setSetting s = .next (s.replied .p reply).takeJob
    else if s.lift c ≠ .idle ∨ s.lift (mate c) ≠ .idle then refused .portsBusy
    else
      exec .setSetting s = .next ({ s with
        lcu.pairA := if c = Crane.k1 then v == 1 else s.lcu.pairA
        lcu.pairB := if c = Crane.k3 then v == 1 else s.lcu.pairB }.replied .p reply).takeJob

/-- TRIAL_BEGIN, TRIAL_ADD and TRIAL_RUN (R49, R169, R170): the list emptied; or TRIAL_FULL with 16 changes, BAD_FIELD
for a change kind that is none of the six or a field out of range, a crane octet outside 1 to 4 among them, the address
octet by R5, and otherwise the change at the tail with DONE carrying the length; or NOT_IN_SERVICE while the evaluator
is DISABLED, TRIAL_BUSY while a trial is wanted or running, and otherwise the trial WANTED with its outcome PENDING and
DONE carrying the length, the evaluator then choosing. Nothing else changes. The values 0 to 5 of the change kinds, and
the order of the address check after the ranges, are the model's choice (assumptions 15 and 25). -/
def Obligations.TrialListIsBuiltAndRun : Prop :=
  ∀ s : State,
    (s.takes .p kTrialBegin [] →
      exec .trialBegin s = .next ({ s with csv.trial := [] }.replied .p (.done kTrialBegin .plain))) ∧
    (∀ ch : TrialChange, ch.onWire → s.takes .p kTrialAdd ch.payload →
      let refused (c : Code) : Prop := exec .trialAdd s = .next (s.replied .p (.refused kTrialAdd c))
      (16 ≤ s.csv.trial.length → refused .trialFull) ∧
      (s.csv.trial.length < 16 → ¬ ch.inRange → refused .badField) ∧
      (s.csv.trial.length < 16 → ch.inRange → (∃ a ∈ ch.address, 128 ≤ a ∧ a ≠ 254) → refused .badField) ∧
      (s.csv.trial.length < 16 → ch.inRange → 254 ∈ ch.address → refused .badSpace) ∧
      (s.csv.trial.length < 16 → ch.inRange → (∀ a ∈ ch.address, a < 128) →
        exec .trialAdd s = .next ({ s with csv.trial := s.csv.trial ++ [ch] }.replied .p
          (.done kTrialAdd (.count (s.csv.trial.length + 1)))))) ∧
    (∀ (k : Nat) (p : List Byte), 6 ≤ k → k < 256 → s.csv.trial.length < 16 → s.takes .p kTrialAdd (octetsN 1 k ++ p) →
      exec .trialAdd s = .next (s.replied .p (.refused kTrialAdd .badField))) ∧
    (∀ (k : Nat) (w : Int) (q : Pt) (h : Int), k < 1 ∨ 4 < k → k < 256 → weightOnWire w → q.onWire → weightOnWire h →
      s.csv.trial.length < 16 →
      s.takes .p kTrialAdd (octetsN 1 5 ++ octetsN 1 k ++ octets 3 w ++ ptOctets q ++ octets 3 h) →
      exec .trialAdd s = .next (s.replied .p (.refused kTrialAdd .badField))) ∧
    (s.takes .p kTrialRun [] →
      exec .trialRun s = .next (
        if s.sev.state = .disabled then s.replied .p (.refused kTrialRun .notInService)
        else if s.csv.trialState ≠ .idle then s.replied .p (.refused kTrialRun .trialBusy)
        else { s with
          csv.trialState := .wanted
          csv.outcome := .pending
          sev.trialWanted := true }.replied .p (.done kTrialRun (.count s.csv.trial.length))).takeJob)

/-- The alarm list's changes (R152 to R158). A raise, a clear and an event act on the entry of their kind and subject as
R152's table and R153 say; a new entry joins the tail, a HARD one always and one of the lower levels while fewer than 24
of them are listed; with 24, a LIMIT entry displaces the oldest ADVISORY entry, or else the oldest CLEARED_UNACK LIMIT
entry, an ADVISORY entry the oldest CLEARED_UNACK ADVISORY entry, and one that finds none is not listed; a displaced
unacknowledged entry and an entry not listed set the marker of their level, and the removal of an entry of the lower
levels clears both. Each change offers port P its notices, with the count and the markers after it. And ACK_ALARM: a
kind code above 25 is BAD_FIELD; code 0 acknowledges every entry, another code the entry of the kind and subject. An
ACTIVE_UNACK entry goes to ACTIVE_ACK, a CLEARED_UNACK entry is removed, every other entry and the order of the list
stay, and DONE carries how many entries changed and stands behind their notices (assumption 10). Nothing else changes
but port P's queue. What the blocks hold raised besides, and that a raise reaches the list each time, is assumption 12.
And the lines (R156): ALA and ALL are asserted exactly while an unacknowledged entry of their level is listed or their
marker is set, ALH exactly while a HARD entry is active, acknowledged or not. -/
def Obligations.AcknowledgementActsOnTheNamedEntries : Prop :=
  (∀ a : Als,
    let lists (level : Level) (x y : EntryState) : Prop :=
      ∃ e ∈ a.entries, e.key.kind.level = level ∧ (e.state = x ∨ e.state = y)
    (a.lineA = true ↔ lists .advisory .activeUnack .clearedUnack ∨ a.markAdvisory = true) ∧
    (a.lineL = true ↔ lists .limit .activeUnack .clearedUnack ∨ a.markLimit = true) ∧
    (a.lineH = true ↔ lists .hard .activeUnack .activeAck)) ∧
  (∀ (s : State) (k : AlarmKey),
    let level := k.kind.level
    let entry := s.als.entries.find? fun e => e.key == k
    let told (a : Als) (changes : List (AlarmKey × NoticeOutcome × Seconds)) : State :=
      { s.setLink .p (changes.foldl (fun l c => l.offer (.notice
          ⟨c.1, c.2.1, c.2.2, a.entries.length, a.markAdvisory, a.markLimit⟩)) (s.link .p)) with als := a }
    let moved (a : Als) (state : EntryState) (raised : Seconds) : State :=
      told { a with entries := a.entries.map fun (e : AlarmEntry) => if e.key = k then ⟨k, state, raised⟩ else e }
        [(k, .state state, raised)]
    let removed (a : Als) (raised : Seconds) : State :=
      told { a with
        entries := a.entries.eraseP fun (e : AlarmEntry) => e.key == k
        markAdvisory := a.markAdvisory && level == .hard
        markLimit := a.markLimit && level == .hard } [(k, .removed, raised)]
    let lower := s.als.entries.countP fun e => e.key.kind.level != .hard
    let oldest (v : Level) (cleared : Bool) : Option AlarmEntry := s.als.entries.find? fun e =>
      e.key.kind.level == v && (!cleared || e.state == .clearedUnack)
    let victim : Option AlarmEntry :=
      if level = .limit then (oldest .advisory false).or (oldest .limit true) else oldest .advisory true
    let created (a : Als) (state : EntryState) : State :=
      if level = .hard ∨ lower < 24 then
        told { a with entries := a.entries ++ [(⟨k, state, s.seconds⟩ : AlarmEntry)] } [(k, .state state, s.seconds)]
      else match victim with
        | some v => told { a with
            entries := (a.entries.eraseP fun (e : AlarmEntry) => e.key == v.key) ++
              [(⟨k, state, s.seconds⟩ : AlarmEntry)]
            markAdvisory := a.markAdvisory || (v.state != .activeAck && v.key.kind.level == .advisory)
            markLimit := a.markLimit || (v.state != .activeAck && v.key.kind.level == .limit) }
            [(v.key, .displaced, v.raised), (k, .state state, s.seconds)]
        | none => told { a with
            markAdvisory := a.markAdvisory || level == .advisory
            markLimit := a.markLimit || level == .limit } [(k, .notListed, 0)]
    let raising : Als := { s.als with held := if k ∈ s.als.held then s.als.held else s.als.held ++ [k] }
    let clearing : Als := { s.als with held := s.als.held.erase k }
    s.raise k = (match entry with
      | none => created raising .activeUnack
      | some e => if e.state = .clearedUnack then moved raising .activeUnack s.seconds else { s with als := raising }) ∧
    s.event k = (match entry with
      | none => created s.als .clearedUnack
      | some _ => moved s.als .clearedUnack s.seconds) ∧
    (k ∉ s.als.held → s.clear k = s) ∧
    (k ∈ s.als.held → s.clear k = match entry with
      | some ⟨_, .activeUnack, raised⟩ =>
        told { clearing with entries := s.als.entries.map fun (e : AlarmEntry) =>
            if e.key = k then { e with state := .clearedUnack } else e } [(k, .state .clearedUnack, raised)]
      | some ⟨_, .activeAck, raised⟩ => removed clearing raised
      | _ => { s with als := clearing })) ∧
  ∀ (s : State) (code sub : Nat), code < 256 → sub < 256 → (s.als.entries.map AlarmEntry.key).Nodup →
    s.takes .p kAckAlarm (octetsN 1 code ++ octetsN 1 sub) →
    if 25 < code then exec .ackAlarm s = .next (s.replied .p (.refused kAckAlarm .badField))
    else
      let named (e : AlarmEntry) : Bool := code == 0 || (e.key.kind.code == code && e.key.subject.octet == sub)
      let frees := s.als.entries.any fun e => named e && e.state == .clearedUnack && e.level != .hard
      ∃ t, exec .ackAlarm s = .next t ∧
        t = (s.noting t).replied .p
          (.done kAckAlarm (.count (s.als.entries.countP fun e => named e && e.state != .activeAck))) ∧
        t.als = { s.als with
          entries := s.als.entries.filterMap fun e => if named e then e.acked else some e
          markAdvisory := s.als.markAdvisory && !frees
          markLimit := s.als.markLimit && !frees }

/-! ### The store messages (ch. 12.2) -/

/-- STORE_LOAD, STORE_PROGRAM, STORE_DISCARD and STORE_READ outside COMMISSIONING (R180, R182): WRONG_MODE, and nothing
else changes. -/
def Obligations.StoreMessagesNeedCommissioning : Prop :=
  ∀ (s : State) (p : List Byte), s.hds.mode ≠ .commissioning →
    (s.takes .p kStoreLoad p → 6 ≤ p.length ∧ p.length ≤ 50 ∧ (p.length - 2) % 4 = 0 →
      exec .storeLoad s = .next (s.replied .p (.refused kStoreLoad .wrongMode))) ∧
    (s.takes .p kStoreProgram p → p.length = 1 →
      exec .storeProgram s = .next (s.replied .p (.refused kStoreProgram .wrongMode))) ∧
    (s.takes .p kStoreDiscard p → p.length = 0 →
      exec .storeDiscard s = .next (s.replied .p (.refused kStoreDiscard .wrongMode))) ∧
    (s.takes .p kStoreRead p → p.length = 3 →
      exec .storeRead s = .next (s.replied .p (.refused kStoreRead .wrongMode)))

/-- STORE_LOAD in COMMISSIONING (R182): its checks in their order; else the values are written and marked from the start
index on, entry 63 taking every value past it in turn, entry 0 taking the page type only; the other entries stay; DONE
carries the page, the number of loaded entries, and OVERRUN-AT-END. Nothing else changes. That the number counts the
whole buffer is assumption 36, and that another page being programmed gives BUFFER_HELD is assumption 19. -/
def Obligations.StoreLoadFillsTheBuffer : Prop :=
  ∀ (s : State) (page start : Nat) (ws : List Entry), page < 256 → start < 256 → 1 ≤ ws.length → ws.length ≤ 12 →
    s.hds.mode = .commissioning →
    s.takes .p kStoreLoad (octetsN 1 page ++ octetsN 1 start ++ ws.flatMap fun w => octetsN 4 w.toNat) →
    let refused (c : Code) : Prop := exec .storeLoad s = .next (s.replied .p (.refused kStoreLoad c))
    let old := s.hds.buffer.loaded
    if 63 < start then refused .badField
    else if s.hds.prog.map Prod.fst = some page then refused .storeBusy
    else if s.hds.prog ≠ none ∨ (old ≠ [] ∧ s.hds.buffer.page ≠ page) then refused .bufferHeld
    else
      ∃ loaded : List (Nat × Entry),
        (∀ i, 0 < i → i < 63 →
          lookup loaded i = if start ≤ i ∧ i < start + ws.length then ws[i - start]? else lookup old i) ∧
        (lookup loaded 0 =
          if start = 0 then ws.head?.map fun w => w.extractLsb' 16 16 ++ 0xFFFF#16 else lookup old 0) ∧
        (lookup loaded 63 = if 63 < start + ws.length then ws.getLast? else lookup old 63) ∧
        exec .storeLoad s = .next ({ s with hds.buffer := ⟨page, loaded⟩ }.replied .p
          (.done kStoreLoad (.loaded page loaded.length (decide (64 < start + ws.length)))))

/-- The pages and their load (R181, R185, R186): a page is BLANK when its 64 entries are blank, else WRITTEN when the
marker is its own number, else TORN; the load counts the WRITTEN and the TORN pages; and STORE_FAULT is raised exactly
for a TORN page, a WRITTEN page of an unknown type, a missing COMPARTMENT table, and a failing check of the hull record,
the limit record, the hydrostatic rows, the allowables, a compartment entry, two tanks on one channel, a calibration or
a test condition; a table that has no page fails its check. The order of the words is assumption 3, of two entries for
one key assumption 21, and what a torn page holds assumption 4. The premise is the invariant `PageStoreKeepsItsForm`. -/
def Obligations.PagesAreLoadedAndChecked : Prop :=
  ∀ s : Store, s.wf →
    let blank (p : Nat) : Prop := ∀ i, i < 64 → s.entry p i = 0xFFFFFFFF#32
    let marked (p : Nat) : Prop := (s.entry p 0).toNat % 65536 = p
    let stands (p : Nat) (st : PageState) : Bool := decide (s.pageState p = st)
    let type (p : Nat) : Nat := (s.entry p 0).toNat / 65536
    (∀ p, p < 256 → (s.pageState p = .blank ↔ blank p) ∧ (s.pageState p = .written ↔ ¬ blank p ∧ marked p) ∧
      (s.pageState p = .torn ↔ ¬ blank p ∧ ¬ marked p)) ∧
    s.load.written = (List.range 256).countP (stands · .written) ∧
    s.load.torn = (List.range 256).countP (stands · .torn) ∧
    (s.load.fault = true ↔ (∃ p, p < 256 ∧ stands p .torn = true) ∨
      (∃ p, p < 256 ∧ stands p .written = true ∧ (type p < 1 ∨ 7 < type p)) ∨
      (∀ p, p < 256 → stands p .written = true → type p ≠ 4) ∨ s.checkFails)

/-- STORE_PROGRAM and PROGRAM_COMPLETE (R183). In COMMISSIONING: STORE_BUSY for the page being programmed, BUFFER_HELD
for another while an operation runs or while the buffer is held for another page; else the operation starts and lasts 8
ms, one entry of the outbound queue is held for its DONE, the page reads TORN from then on, and no page changes yet. At
the end every entry of the page takes its loaded value, the header the loaded type with the page's number as marker, an
entry not loaded is blank, and all of them are blank when nothing was loaded; the page is then WRITTEN, or BLANK; every
other page stays; the buffer is emptied; DONE takes the entry held for it. Nothing else changes. -/
def Obligations.ProgrammingReplacesThePage : Prop :=
  (∀ (s : State) (page : Nat), page < 256 → s.hds.mode = .commissioning → s.takes .p kStoreProgram (octetsN 1 page) →
    let refused (c : Code) : Prop := exec .storeProgram s = .next (s.replied .p (.refused kStoreProgram c))
    if s.hds.prog.map Prod.fst = some page then refused .storeBusy
    else if s.hds.prog ≠ none ∨ (s.hds.buffer.loaded ≠ [] ∧ s.hds.buffer.page ≠ page) then refused .bufferHeld
    else
      ∃ t, exec .storeProgram s = .next t ∧ t.hds.pageState page = .torn ∧
        t = { s.setLink .p { s.link .p with
            inbound := (s.link .p).inbound.tail
            reserved := (s.link .p).reserved + 1 } with
          hds.prog := some (page, s.now + 8) }) ∧
  ∀ (s : State) (page deadline : Nat), s.hds.prog = some (page, deadline) → page < 256 →
    let loaded := s.hds.buffer.loaded
    let state : PageState := if loaded = [] then .blank else .written
    ∃ t, exec .programComplete s = .next t ∧
      t = { s.setLink .p (t.link .p) with
        now := max s.now deadline
        hds.store := t.hds.store
        hds.buffer := ⟨0, []⟩
        hds.prog := none } ∧
      (∀ i, 0 < i → i < 64 →
        t.hds.store.entry page i = if loaded = [] then blankEntry else (lookup loaded i).getD blankEntry) ∧
      (t.hds.store.entry page 0 =
        if loaded = [] then blankEntry
        else ((lookup loaded 0).getD blankEntry).extractLsb' 16 16 ++ BitVec.ofNat 16 page) ∧
      (∀ other i, other ≠ page → i < 64 → t.hds.store.entry other i = s.hds.store.entry other i) ∧
      t.hds.pageState page = state ∧
      t.link .p = { s.link .p with
        reserved := (s.link .p).reserved - 1
        queue := (s.link .p).queue ++ [OutMsg.done kStoreProgram (.page page state)] }.start

/-- STORE_DISCARD and STORE_READ in COMMISSIONING (R182): the buffer emptied, or STORE_BUSY while an operation runs;
BAD_FIELD out of range, STORE_BUSY for the page being programmed, or else the page's state with the stored entries from
the start index on, none past entry 63. Nothing else changes. -/
def Obligations.DiscardEmptiesAndReadShowsThePage : Prop :=
  ∀ s : State, s.hds.mode = .commissioning →
    (s.takes .p kStoreDiscard [] →
      if s.hds.prog ≠ none then exec .storeDiscard s = .next (s.replied .p (.refused kStoreDiscard .storeBusy))
      else exec .storeDiscard s =
        .next ({ s with hds.buffer := ⟨0, []⟩ }.replied .p (.done kStoreDiscard .plain))) ∧
    (∀ page start n, page < 256 → start < 256 → n < 256 →
      s.takes .p kStoreRead (octetsN 1 page ++ octetsN 1 start ++ octetsN 1 n) →
      exec .storeRead s = .next (s.replied .p (
        if 63 < start ∨ n < 1 ∨ 12 < n then .refused kStoreRead .badField
        else if s.hds.prog.map Prod.fst = some page then .refused kStoreRead .storeBusy
        else .storeData page (s.hds.store.pageState page)
          ((List.range (min n (64 - start))).map fun i => s.hds.store.entry page (start + i)))))

/-! ### Lift requests and permits (ch. 5, ch. 6.2) -/

/-- LIFT_REQUEST (R82 to R85, R107, R108): its eleven checks in their order, the first that fails giving the code; else
the record goes to PENDING with the evaluated weight, the shares of a tandem request, its candidates in order and
attempt count 0, the request joins the tail of the permit queue, and no answer is sent. Then the evaluator chooses, and
nothing else changes. What checks 9 and 10 make of an undefined partner crane is assumption 18; side 0 for PORT, 1 for
STARBOARD and 2 for BOTH are R179's. -/
def Obligations.LiftRequestIsCheckedAndQueued : Prop :=
  ∀ (s : State) (c : Crane) (ask : LiftAsk) (d : CraneDef), ask.onWire → s.tables.crane c = some d →
    s.takes (portOf c) kLiftRequest ask.payload →
    let refused (e : Code) : Prop :=
      exec (.liftRequest c) s = .next (s.replied (portOf c) (.refused kLiftRequest e)).takeJob
    let tandem : Bool := ask.flag == 1
    let partner := s.tables.crane (mate c)
    let lot := s.ct.lots.find? fun l => l.num == ask.lot
    let w := match lot with
      | some l => if ask.origin = 254 then ask.weight else max ask.weight l.weight
      | none => ask.weight
    let lower := rdiv (w * ask.permille) 1000
    let far (k : CraneDef) (q : Pt) : Bool :=
      decide (k.outreach * k.outreach < (q.x - k.px) * (q.x - k.px) + (q.y - k.py) * (q.y - k.py))
    let point (own other : Pt) : Candidate := ⟨own, if tandem then some other else none⟩
    let extreme (side : Int) : Candidate := point ⟨d.px, d.py + side * ask.out⟩ (match partner with
      | some k => ⟨k.px, k.py + side * ask.out⟩
      | none => ⟨0, 0⟩)
    (s.hds.mode ≠ .service → refused .notInService) ∧
    (s.hds.mode = .service →
      if (isUpper c && s.lcu.paired c) = true then refused .portPaired
      else if s.lift c ≠ .idle then refused .craneBusy
      else if s.lmn.stop ≠ none then refused .stopped
      else if 8 ≤ s.lcu.queue.length then refused .queueFull
      else
        (ask.outOfRange → refused .badField) ∧
        (¬ ask.outOfRange →
          if (ask.origin ≠ 254 ∧ s.tables.cargo ask.origin = none) ∨ (ask.dest ≠ 254 ∧ s.tables.cargo ask.dest = none) then
            refused .badSpace
          else if ask.origin = 254 ∧ (lot ≠ none ∨ (cranes.any fun k => (s.lift k).lotOf == some ask.lot) = true) then
            refused .duplicateLot
          else if ask.origin ≠ 254 ∧ lot.map Lot.loc ≠ some ask.origin then refused .noSuchLot
          else if (if tandem then decide (d.swl < lower) || partner.any fun k => decide (k.swl < w - lower)
              else decide (d.swl < w)) = true then refused .overSwl
          else if (far d ask.pickup || far d ask.setDown || decide (d.outreach < ask.out) ||
              (tandem && partner.any fun k =>
                far k ask.matePickup || far k ask.mateSetDown || decide (k.outreach < ask.out))) = true then
            refused .outOfReach
          else if tandem = true ∧ (s.lcu.paired c = false ∨ s.lift (mate c) ≠ .idle) then refused .portPaired
          else
            exec (.liftRequest c) s = .next { s.setLink (portOf c) { s.link (portOf c) with
                inbound := (s.link (portOf c)).inbound.tail } with
              lcu.recs := s.lcu.recs.set c (.pending
                { lot := ask.lot
                  weight := w
                  origin := if ask.origin = 254 then .quay else .space ask.origin
                  dest := if ask.dest = 254 then .quay else .space ask.dest
                  cands := [point ask.pickup ask.matePickup, point ask.setDown ask.mateSetDown]
                    ++ (if ask.side = 0 ∨ ask.side = 2 then [extreme (-1)] else [])
                    ++ (if ask.side = 1 ∨ ask.side = 2 then [extreme 1] else [])
                  susp := ask.susp
                  tandem := if tandem then some ⟨ask.permille, lower, w - lower⟩ else none } 0)
              lcu.queue := s.lcu.queue ++ [c] }.takeJob))

/-- LIFT_CANCEL (R93, R106): PORT_PAIRED on a paired upper port; a PENDING request leaves the queue, the discard mark
being set when it is under evaluation, and DONE carries 0; a GRANTED permit of the number given ends, and DONE carries
it; in every other case NO_PERMIT. Nothing else changes, the serial among it. -/
def Obligations.CancelEndsARequestOrPermit : Prop :=
  ∀ (s : State) (c : Crane) (n : Nat), n < 256 → s.takesAt c kLiftCancel (octetsN 1 n) →
    exec (.liftCancel c) s = .next (
      if (isUpper c && s.lcu.paired c) = true then s.replied (portOf c) (.refused kLiftCancel .portPaired)
      else match s.lift c with
        | .pending _ _ => { s with
            lcu.recs := s.lcu.recs.set c .idle
            lcu.queue := s.lcu.queue.erase c
            lcu.inHand := s.lcu.inHand.map fun (h : Crane × Bool) => if h.1 = c then (c, true) else h
            }.replied (portOf c) (.done kLiftCancel (.permit 0))
        | .granted _ m _ _ =>
          if n = m then
            { s with lcu.recs := s.lcu.recs.set c .idle }.replied (portOf c) (.done kLiftCancel (.permit m))
          else s.replied (portOf c) (.refused kLiftCancel .noPermit)
        | _ => s.replied (portOf c) (.refused kLiftCancel .noPermit))

/-- RESERVATION_EXPIRY and HOLD_TIMER_EXPIRY (R92, R130): a GRANTED record goes to IDLE at its deadline and LIFT_EXPIRED
with its permit number goes out on its port, unless the queue has no free entry; a tank's hold timer stops and
SENSOR_LOST stands. With no timer running there is no such event (assumption 5). Nothing else changes, the serial among
it, but the alarm list with its notices in the second case. -/
def Obligations.ReservationAndHoldEndAtTheirDeadlines : Prop :=
  (∀ (s : State) (c : Crane),
    exec (.reservationExpiry c) s = .next (match s.lift c with
      | .granted _ n _ deadline => { s.setLink (portOf c) ((s.link (portOf c)).offer (.liftExpired n)) with
          now := max s.now deadline
          lcu.recs := s.lcu.recs.set c .idle }
      | _ => s)) ∧
  (∀ (s : State) (a : Nat),
    ((s.tgt.gauge a).hold = none → exec (.holdTimerExpiry a) s = .next s) ∧
    (∀ deadline, (s.tgt.gauge a).hold = some deadline →
      ∃ t, exec (.holdTimerExpiry a) s = .next t ∧ (⟨.sensorLost, .addr a⟩ : AlarmKey) ∈ t.als.held ∧
        t = { s with
          now := max s.now deadline
          tgt.gauges := adjust s.tgt.gauges a fun g => { g with hold := none } }.raise ⟨.sensorLost, .addr a⟩))

/-! ### Lift-off, hook, landing (ch. 5.5, 5.6, ch. 6.3, 6.4) -/

/-- HOOK_LOADED on a GRANTED record of the same permit number and lot number (R97, R99, R100, R110): the record goes to
HOOKED with the frame's weight, clamped, and origin, the destination kept, the unpermitted flag clear; the hook stands
REPORTED at the pickup point with the permit's suspension height and the structure matches it; the lot is held by
nothing else, what held it being taken as `takesLot` says; for a tandem permit the shares are formed again from the
frame's weight and the upper port's record goes to TANDEM_PARTNER with its hook at the partner pickup point, UNKNOWN
with POSITION_UNKNOWN and its structure at the worst point when that port is not ACTIVE. Every other lot, record, hook,
structure and port stays. The serial moves on once, and once more when a record that the lift-off freed files a waiting
load. STOP joins when a stop stands, as `stopJoins` says. DONE carries the permit number. Where the hull record is
unusable the worst point is assumption 24. -/
def Obligations.PermittedLiftOffHangsTheLot : Prop :=
  ∀ (s : State) (c : Crane) (r : Request) (permit slot deadline : Nat) (w : Int) (origin : Nat) (q : Pt) (h : Int)
    (d : CraneDef), s.liftsWf → weightOnWire w → origin < 128 ∨ origin = 254 → q.onWire → weightOnWire h →
    permit < 256 → 1 ≤ r.lot → r.lot < 65536 → s.lift c = .granted r permit slot deadline →
    s.tables.crane c = some d → r.cands ≠ [] →
    s.takes (portOf c) kHookLoaded (hookLoadedPayload permit r.lot w origin q h) →
    let weight := max 1 (min 20000 w)
    let from' : LiftEnd := if origin = 254 then .quay else .space origin
    let pickup := (r.cands.headD ⟨⟨0, 0⟩, none⟩).own
    let upper : Option Pt := r.tandem.bind fun _ => (r.cands.headD ⟨⟨0, 0⟩, none⟩).partner
    ∃ t, exec (.hookLoaded c) s = .next t ∧
      t.lift c = .hooked
        { permit := permit
          lot := r.lot
          weight := weight
          origin := from'
          dest := some r.dest
          unpermitted := false
          tandem := r.tandem.map fun sh =>
            let lower := rdiv (weight * sh.permille) 1000
            ⟨sh.permille, lower, weight - lower⟩ } ∧
      t.hook c = ⟨pickup.x, pickup.y, r.susp, .reported⟩ ∧
      t.ct.structs.get c = some (d.centroid pickup) ∧
      s.takesLot t c r.lot from' (fun k => k = c ∨ (upper.isSome = true ∧ k = mate c)) ∧
      (∀ l ∈ t.ct.lots, l.num ≠ r.lot) ∧ (∀ f ∈ t.ct.filing, f.num ≠ r.lot) ∧
      (∀ k l, t.lift k = .hooked l → l.lot = r.lot → k = c) ∧
      (∀ q', upper = some q' →
        let reported := (s.link (portOf (mate c))).state = .active
        t.lift (mate c) = .partner r.lot c ∧
        t.hook (mate c) = ⟨q'.x, q'.y, r.susp, if reported then .reported else .unknown⟩ ∧
        (∀ d', s.tables.crane (mate c) = some d' → t.ct.structs.get (mate c) =
          some (if reported then d'.centroid q' else t.worstCentroid t.lcu.hooks d')) ∧
        (¬ reported → (⟨.positionUnknown, .crane (mate c)⟩ : AlarmKey) ∈ t.als.held)) ∧
      s.stopJoins t c ∧
      t = (({ s.lifting t c with lcu.queue := s.lcu.queue, lcu.inHand := s.lcu.inHand }.noting t).replied (portOf c)
        (.done kHookLoaded (.permit permit))).takeJob

/-- HOOK_LOADED without a live permit (R96, R98 to R100, R106, R145). PORT_PAIRED on a paired upper port; BAD_FIELD for
lot number 0 or an origin octet that names nothing; CRANE_BUSY on a HOOKED record, and on a LANDED_UNFILED record of
another lot. From IDLE, PENDING, a GRANTED record of another permit or lot number, or LANDED_UNFILED with the same lot,
the record goes to HOOKED with the unpermitted flag set, permit number 0 and no destination, the hook stands where the
frame says with the structure to match, a PENDING request leaves the queue, the discard mark being set when it is under
evaluation, the lot is held by nothing else, what held it being taken as `takesLot` says, UNPERMITTED_LIFT stands, and
LATE carries the frame's lot and permit number. The serial moves on once, and once more for a filing. STOP joins when a
stop stands, as `stopJoins` says; that it takes the line before LATE is assumption 43. Every other lot, record, hook,
structure and port stays. -/
def Obligations.UnpermittedLiftOffIsRecordedLate : Prop :=
  ∀ (s : State) (c : Crane) (permit n : Nat) (w : Int) (origin : Nat) (q : Pt) (h : Int) (d : CraneDef),
    weightOnWire w → origin < 256 → q.onWire → weightOnWire h → permit < 256 → n < 65536 →
    s.tables.crane c = some d →
    s.takes (portOf c) kHookLoaded (hookLoadedPayload permit n w origin q h) →
    let refused (e : Code) : Prop :=
      exec (.hookLoaded c) s = .next (s.replied (portOf c) (.refused kHookLoaded e)).takeJob
    let paired := (isUpper c && s.lcu.paired c) = true
    let bad := n = 0 ∨ (128 ≤ origin ∧ origin ≠ 254)
    let busy := (∃ l, s.lift c = .hooked l) ∨ (∃ m k, s.lift c = .partner m k) ∨ ∃ m v, s.lift c = .unfiled m v ∧ m ≠ n
    let permitted := ∃ r slot deadline, s.lift c = .granted r permit slot deadline ∧ r.lot = n
    (paired → refused .portPaired) ∧
    (¬ paired → bad → refused .badField) ∧
    (¬ paired → ¬ bad → busy → refused .craneBusy) ∧
    (¬ paired → ¬ bad → ¬ busy → ¬ permitted → s.liftsWf →
      let pt : Pt := ⟨max 0 (min 250000 q.x), max (-25000) (min 25000 q.y)⟩
      let from' : LiftEnd := if origin = 254 then .quay else .space origin
      ∃ t, exec (.hookLoaded c) s = .next t ∧
        t.lift c = .hooked
          { permit := 0
            lot := n
            weight := max 1 (min 20000 w)
            origin := from'
            dest := none
            unpermitted := true
            tandem := none } ∧
        t.hook c = ⟨pt.x, pt.y, max 0 (min 80000 h), .reported⟩ ∧
        t.ct.structs.get c = some (d.centroid pt) ∧
        s.takesLot t c n from' (fun k => k = c) ∧
        (∀ l ∈ t.ct.lots, l.num ≠ n) ∧ (∀ f ∈ t.ct.filing, f.num ≠ n) ∧
        (∀ k l, t.lift k = .hooked l → l.lot = n → k = c) ∧
        (⟨.unpermittedLift, .crane c⟩ : AlarmKey) ∈ t.als.held ∧
        (s.als.held.Nodup → (∃ v, s.lift c = .unfiled n v) →
          (⟨.landedUnfiled, .crane c⟩ : AlarmKey) ∉ t.als.held) ∧
        s.stopJoins t c ∧
        t = (({ s.lifting t c with
          lcu.queue := s.lcu.queue.erase c
          lcu.inHand := if (s.lift c).isPending then
              s.lcu.inHand.map fun (e : Crane × Bool) => if e.1 = c then (c, true) else e
            else s.lcu.inHand }.noting t).replied (portOf c) (.late n permit)).takeJob ∧
        (∀ crit serial, s.lmn.stop = some (crit, serial) → (s.stopPort (portOf c)).state = .none →
          (s.link (portOf c)).sending = none → (t.link (portOf c)).sending = some .order))

/-- HOOK_POSITION (R1, R112 to R114, R118): a report outside 1.02 of the outreach raises POSITION_IMPLAUSIBLE, each
time, and moves nothing; a plausible one clears it; one that differs from a REPORTED hook by less than the deadband in
all three figures moves nothing; any other is written as the held position with source REPORTED, clears
POSITION_UNKNOWN, moves the crane structure, and moves the serial on once. DONE carries the report state. Nothing else
changes but the alarm list with its notices and the evaluator's choice of a job. -/
def Obligations.HookReportIsJudgedAndApplied : Prop :=
  ∀ (s : State) (c : Crane) (q : Pt) (h : Int) (d : CraneDef), q.onWire → weightOnWire h →
    s.tables.crane c = some d → s.takes (portOf c) kHookPosition (ptOctets q ++ octets 3 h) →
    let x := max 0 (min 250000 q.x)
    let y := max (-25000) (min 25000 q.y)
    let z := max 0 (min 80000 h)
    let dx := x - d.px
    let dy := y - d.py
    let held := s.hook c
    let band := (s.settings.hookDeadband : Int)
    ∃ t, exec (.hookPosition c) s = .next t ∧
      if 2601 * (d.outreach * d.outreach) < 2500 * (dx * dx + dy * dy) then
        t = ((s.raise ⟨.positionImplausible, .crane c⟩).replied (portOf c)
          (.done kHookPosition (.report .implausible))).takeJob ∧
        (⟨.positionImplausible, .crane c⟩ : AlarmKey) ∈ t.als.held
      else if held.source = .reported ∧ mag (x - held.x) < band ∧ mag (y - held.y) < band ∧ mag (z - held.h) < band then
        t = ((s.clear ⟨.positionImplausible, .crane c⟩).replied (portOf c)
          (.done kHookPosition (.report .withinDeadband))).takeJob ∧
        (s.als.held.Nodup → (⟨.positionImplausible, .crane c⟩ : AlarmKey) ∉ t.als.held)
      else
        t = ((({ s with
          lcu.hooks := s.lcu.hooks.set c ⟨x, y, z, .reported⟩
          ct.structs := s.ct.structs.set c
            (some ⟨d.px + rdiv (dx * d.boom) 1000, d.py + rdiv (dy * d.boom) 1000, d.z⟩)
          ct.serial := s.ct.serial + 1 }.clear ⟨.positionImplausible, .crane c⟩).clear
            ⟨.positionUnknown, .crane c⟩).replied (portOf c) (.done kHookPosition (.report .applied))).takeJob ∧
        (s.als.held.Nodup → (⟨.positionImplausible, .crane c⟩ : AlarmKey) ∉ t.als.held ∧
          (⟨.positionUnknown, .crane c⟩ : AlarmKey) ∉ t.als.held)

/-- HOOK_LANDED (R20, R101 to R103, R106, R111, R115): PORT_PAIRED on a paired upper port, and its checks in their
order; else the lift ends. To QUAY the record goes to IDLE. Into a space the position is clamped into the box; with a
free record the lot joins the tail of the space's stow list, entered by the crane now, and the record goes to IDLE; with
none the load joins the tail of the filing list, and the record goes to LANDED_UNFILED with its alarm; the space is
judged (R18). A tandem partner's record goes to IDLE with it. A REPORTED hook and its structure are kept; an UNKNOWN one
settles at the landed point with height 0, a tandem's upper one at its pedestal, and the structure moves with it.
UNPERMITTED_LIFT and POSITION_UNKNOWN clear. DESTINATION_CHANGED is an event exactly when the record has a destination
and the landing's differs from it, POSITION_CLAMPED exactly when the box moves the position; these, the clears,
LANDED_UNFILED and OVER_CAPACITY are all that happens to the alarm list and its notices, in the order of assumption 41,
and OVER_CAPACITY only when the capacity state changes (assumption 12). The serial moves on once, and DONE carries the
filing state and the clamped position. Every other record, hook, structure, lot and filing list entry stays. -/
def Obligations.LandingEndsTheLift : Prop :=
  ∀ (s : State) (c : Crane) (dest : Nat) (q : Pos), dest < 256 → q.onWire →
    s.takesAt c kHookLanded (octetsN 1 dest ++ posOctets q) →
    let refused (e : Code) : Prop :=
      exec (.hookLanded c) s = .next (s.replied (portOf c) (.refused kHookLanded e)).takeJob
    let at' : Pos := ⟨max 0 (min 250000 q.x), max (-25000) (min 25000 q.y), max 0 (min 80000 q.z)⟩
    let to' : LiftEnd := if dest = 254 then .quay else .space dest
    if (isUpper c && s.lcu.paired c) = true then refused .portPaired
    else if 128 ≤ dest ∧ dest ≠ 254 then refused .badField
    else
      match s.lift c with
      | .hooked l =>
        let settles (t : State) (k : Crane) (at'' : CraneDef → Pt) : Prop :=
          ((s.hook k).source = .reported → t.hook k = s.hook k ∧ t.ct.structs.get k = s.ct.structs.get k) ∧
          ((s.hook k).source = .unknown → ∀ d, s.tables.crane k = some d →
            t.hook k = ⟨(at'' d).x, (at'' d).y, 0, .reported⟩ ∧ t.ct.structs.get k = some (d.centroid (at'' d)))
        let keeps (t : State) (record : LiftRec) (body : DoneBody) : Prop :=
          t.lift c = record ∧
          (∀ k, k ≠ c → t.lift k = if k = mate c ∧ l.tandem.isSome = true then .idle else s.lift k) ∧
          t.hook c = (if (s.hook c).source = .reported then s.hook c else ⟨at'.x, at'.y, 0, .reported⟩) ∧
          settles t c (fun _ => ⟨at'.x, at'.y⟩) ∧
          (l.tandem.isSome = true → settles t (mate c) fun d => ⟨d.px, d.py⟩) ∧
          (∀ k, k ≠ c → ¬ (k = mate c ∧ l.tandem.isSome = true) →
            t.hook k = s.hook k ∧ t.ct.structs.get k = s.ct.structs.get k) ∧
          (s.als.held.Nodup → ∀ k, k = c ∨ (k = mate c ∧ l.tandem.isSome = true) →
            (⟨.unpermittedLift, .crane k⟩ : AlarmKey) ∉ t.als.held ∧
            (⟨.positionUnknown, .crane k⟩ : AlarmKey) ∉ t.als.held) ∧
          t = (({ s with
            ct.lots := t.ct.lots
            ct.filing := t.ct.filing
            ct.spaces := t.ct.spaces
            ct.structs := t.ct.structs
            ct.serial := s.ct.serial + 1
            lcu.recs := t.lcu.recs
            lcu.hooks := t.lcu.hooks }.noting t).replied (portOf c) (.done kHookLanded body)).takeJob
        let told (t x : State) : Prop := t.als = x.als ∧ t.link .p = x.link .p
        let changed : State := if l.dest.isSome = true ∧ l.dest ≠ some to' then s.event ⟨.destinationChanged, .crane c⟩ else s
        let ended (x : State) : State :=
          let y := (x.clear ⟨.unpermittedLift, .crane c⟩).clear ⟨.positionUnknown, .crane c⟩
          if l.tandem.isSome = true then
            (y.clear ⟨.unpermittedLift, .crane (mate c)⟩).clear ⟨.positionUnknown, .crane (mate c)⟩
          else y
        if dest = 254 then
          ∃ t, exec (.hookLanded c) s = .next t ∧ keeps t .idle (.landed .offVessel none) ∧
            told t (ended changed) ∧
            t.ct.lots = s.ct.lots ∧ t.ct.filing = s.ct.filing ∧ t.ct.spaces = s.ct.spaces
        else
          match s.tables.cargo dest with
          | none => refused .badSpace
          | some (b, capacity) =>
            let p : Pos := ⟨max b.xAft (min b.xFwd at'.x), max b.yPort (min b.yStbd at'.y), max b.zLow (min b.zHigh at'.z)⟩
            b.xAft ≤ b.xFwd → b.yPort ≤ b.yStbd → b.zLow ≤ b.zHigh →
            let filed := s.ct.lots.length < Config.poolSize
            let clamped : State := if p = at' then changed else changed.event ⟨.positionClamped, .crane c⟩
            let landed : State :=
              if filed then ended clamped else (ended clamped).raise ⟨.landedUnfiled, .crane c⟩
            let heavy : AlarmKey := ⟨.overCapacity, .addr dest⟩
            ∃ t, exec (.hookLanded c) s = .next t ∧
              told t (if lookup s.ct.spaces dest = some (if capacity < t.ct.load dest then .over else .within) then landed
                else if t.ct.load dest ≤ capacity then landed.clear heavy
                else if heavy ∈ landed.als.held then landed
                else landed.raise heavy) ∧
              keeps t (if filed then .idle else .unfiled l.lot l.weight)
                (.landed (if filed then .filed else .unfiled) (some p)) ∧
              t.ct.lots = (if filed then s.ct.lots ++ [⟨l.lot, l.weight, p, dest, .crane c, s.seconds⟩] else s.ct.lots) ∧
              t.ct.filing =
                (if filed then s.ct.filing else s.ct.filing ++ [⟨c, l.lot, l.weight, p, dest, s.seconds⟩]) ∧
              (¬ filed → (⟨.landedUnfiled, .crane c⟩ : AlarmKey) ∈ t.als.held) ∧
              ((lookup s.ct.spaces dest).isSome = true →
                lookup t.ct.spaces dest = some (if capacity < t.ct.load dest then .over else .within)) ∧
              s.capacityJudged t dest ∧ (∀ a, a ≠ dest → lookup t.ct.spaces a = lookup s.ct.spaces a)
      | _ => refused .noPermit

/-! ### Stop orders and acknowledgements (ch. 8.5) -/

/-- STOP_ACK and ACK_TIMER_EXPIRY (R147, R148): an acknowledgement takes SENT or UNANSWERED to ACKED, stopping the timer
of SENT and clearing STOP_UNANSWERED, and leaves NONE and ACKED; DONE carries the state after it. The expiry of the
window takes SENT to UNANSWERED with STOP_UNANSWERED raised, and finds nothing to do in any other state (assumption 5).
No other port's stop state and nothing else changes but the alarm list with its notices. -/
def Obligations.StopsAreAcknowledgedOrUnanswered : Prop :=
  ∀ (s : State) (q : Port), q ≠ .p →
    (s.takes q kStopAck [] → (∀ c, craneOfPort q = some c → (s.tables.crane c).isSome = true) →
      let after : StopState := match (s.stopPort q).state with
        | .sent | .unanswered | .acked => .acked
        | .none => .none
      ∃ t, exec (.stopAck q) s = .next t ∧
        let acked : State := { s with
          lmn.ports := s.lmn.ports.set q
            (⟨after, if (s.stopPort q).state = StopState.sent then none else (s.stopPort q).timer⟩ : StopPort) }
        t = (if (s.stopPort q).state = .unanswered then acked.clear ⟨.stopUnanswered, .port q⟩ else acked).replied q
          (.done kStopAck (.stop after)) ∧
        ((s.stopPort q).state = .unanswered → s.als.held.Nodup →
          (⟨.stopUnanswered, .port q⟩ : AlarmKey) ∉ t.als.held)) ∧
    (∀ deadline, s.stopPort q = ⟨.sent, some deadline⟩ →
      ∃ t, exec (.ackTimerExpiry q) s = .next t ∧
        t = { s with
          now := max s.now deadline
          lmn.ports := s.lmn.ports.set q ⟨.unanswered, none⟩ }.raise ⟨.stopUnanswered, .port q⟩ ∧
        (⟨.stopUnanswered, .port q⟩ : AlarmKey) ∈ t.als.held) ∧
    ((s.stopPort q).state ≠ .sent → exec (.ackTimerExpiry q) s = .next s)

/-! ### Transfers (ch. 7.7) -/

/-- TRANSFER_START (R29, R134): a bad id or address octet, both ends SEA, and both ends the same defined TANK are
BAD_FIELD; then an end that is neither SEA nor a defined TANK is BAD_SPACE; else the transfer stands in the list in id
order, in place of one of the same id, every tank's in-transfer flag says whether an active transfer names it, and the
serial moves on exactly when a flag changed. DONE carries the id and the number of active transfers.
Nothing else changes but the evaluator's choice of a job. -/
def Obligations.TransferStartEntersTheList : Prop :=
  ∀ (s : State) (id src dst : Nat), id < 256 → src < 256 → dst < 256 →
    s.takes .b kTransferStart (octetsN 1 id ++ octetsN 1 src ++ octetsN 1 dst) →
    let refused (c : Code) : Prop := exec .transferStart s = .next (s.replied .b (.refused kTransferStart c)).takeJob
    if id < 1 ∨ 4 < id ∨ (128 ≤ src ∧ src ≠ 254) ∨ (128 ≤ dst ∧ dst ≠ 254) ∨
        (src = dst ∧ (src = 254 ∨ s.tables.tank src ≠ none)) then refused .badField
    else if (src ≠ 254 ∧ s.tables.tank src = none) ∨ (dst ≠ 254 ∧ s.tables.tank dst = none) then refused .badSpace
    else
      let stop (o : Nat) : TransferEnd := if o = 254 then .sea else .tank o
      ∃ list : List Transfer,
        (∀ tr : Transfer, tr.id ≠ id → (tr ∈ list ↔ tr ∈ s.tgt.transfers)) ∧
        (⟨id, stop src, stop dst⟩ : Transfer) ∈ list ∧
        ((s.tgt.transfers.map Transfer.id).Pairwise (· < ·) →
          (list.map Transfer.id).Pairwise (· < ·) ∧
          ∀ tr ∈ list, tr.id = id → tr = (⟨id, stop src, stop dst⟩ : Transfer)) ∧
        let named (a : Nat) : Bool := list.any fun tr => tr.src == .tank a || tr.dst == .tank a
        exec .transferStart s = .next ({ s with
          tgt.transfers := list
          ct.tanks := s.ct.tanks.map fun (e : Nat × TankLive) => (e.1, { e.2 with inTransfer := named e.1 })
          ct.serial := if s.ct.tanks.any fun e => e.2.inTransfer != named e.1 then s.ct.serial + 1 else s.ct.serial
          }.replied .b (.done kTransferStart (.transfer id list.length))).takeJob

/-- TRANSFER_END and TRANSFER_CLEAR (R29, R135): an id outside 1 to 4 is BAD_FIELD; the transfer of an active id leaves
the list, or every transfer does, the in-transfer flags then say whether a transfer that is left names the tank, and the
serial moves on exactly when a flag changed; an id that is not active, and an empty list, change nothing. DONE carries
the id, 0 for CLEAR, and the number of active transfers. Nothing else changes but the evaluator's choice of a job. -/
def Obligations.TransferEndAndClearTakeTransfersOut : Prop :=
  ∀ s : State,
    let without (list : List Transfer) : State :=
      let named (a : Nat) : Bool := list.any fun tr => tr.src == .tank a || tr.dst == .tank a
      { s with
        tgt.transfers := list
        ct.tanks := s.ct.tanks.map fun (e : Nat × TankLive) => (e.1, { e.2 with inTransfer := named e.1 })
        ct.serial := if s.ct.tanks.any fun e => e.2.inTransfer != named e.1 then s.ct.serial + 1 else s.ct.serial }
    (∀ id, id < 256 → s.takes .b kTransferEnd (octetsN 1 id) →
      exec .transferEnd s = .next (
        if id < 1 ∨ 4 < id then s.replied .b (.refused kTransferEnd .badField)
        else if (s.tgt.transfers.any fun tr => tr.id == id) = true then
          let rest := s.tgt.transfers.filter fun tr => tr.id != id
          (without rest).replied .b (.done kTransferEnd (.transfer id rest.length))
        else s.replied .b (.done kTransferEnd (.transfer id s.tgt.transfers.length))).takeJob) ∧
    (s.takes .b kTransferClear [] →
      exec .transferClear s = .next ((if s.tgt.transfers = [] then s else without []).replied .b
        (.done kTransferClear (.transfer 0 0))).takeJob)

/-! ### Gauging (ch. 7) -/

/-- SWEEP_TIMER_EXPIRY (R122, R123): the timer restarts for the period in force; with an empty mask or a sweep RUNNING
nothing else happens; else a sweep starts over the channels both in the mask and calibrated, in rising order, at the
resolution in force, the first conversion ending after its time; each channel that is active no longer leaves the sweep
with what that brings its tank, as `leavesSweep` says, every other channel, tank and gauge staying (R26, R130), and
SENSOR_FAULT is judged for every tank (R129). With no timer running there is no such event (assumption 5). -/
def Obligations.SweepStartsOverTheMaskedChannels : Prop :=
  ∀ s : State,
    (s.tgt.timer = none → exec .sweepTimerExpiry s = .next s) ∧
    (∀ deadline, s.tgt.timer = some deadline →
      let now := max s.now deadline
      let timer := some (now + s.settings.sweepPeriod * 100)
      (s.settings.mask = 0 ∨ s.tgt.sweep ≠ .idle →
        exec .sweepTimerExpiry s = .next { s with now := now, tgt.timer := timer }) ∧
      (s.settings.mask ≠ 0 → s.tgt.sweep = .idle →
        ∃ t, exec .sweepTimerExpiry s = .next t ∧
          t = { s with
            now := now
            ct.tanks := t.ct.tanks
            tgt.timer := timer
            tgt.sweep := if t.tgt.active = [] then .idle
              else .running t.tgt.active s.settings.resolution (now + 2 ^ (s.settings.resolution - 10))
            tgt.active := t.tgt.active
            tgt.chans := t.tgt.chans
            tgt.gauges := t.tgt.gauges }.noting t ∧
          (∀ ch, ch ∈ t.tgt.active ↔
            ch < 36 ∧ s.settings.mask.getLsbD ch = true ∧ (lookup s.tables.calib ch).isSome = true) ∧
          t.tgt.active.Pairwise (· < ·) ∧
          s.leavesSweep t (fun ch => ch ∈ s.tgt.active ∧ ch ∉ t.tgt.active) now ∧
          ∀ a d, s.tables.tank a = some d → s.faultJudged t a d))

/-- CONVERSION_END (R122, R123, R125, R126, R129): the sweep goes on with the next channel or ends; a count outside the
valid interval, or of a channel without calibration, makes the channel FAULT with no last good value or candidate, a
SENSOR tank that names it going to HELD with its hold timer started, but for the start-up, where none starts; any other
count is scaled, rounded and clamped to the range, and makes it GOOD, a draught channel keeping the reading as its last
good value. SENSOR_FAULT is judged for the tank. Of a tank channel's good reading only the channel is said here. The
count's bits above the resolution do not count (assumption 23). When the start-up's own sweep ends (R137, R185), first
sweep done is set and SENSOR_FAULT judged for every tank, and the start-up goes on: the first test condition or the LIVE
job, or, with the evaluator DISABLED, the mode entry, each condition NOT_RUN. -/
def Obligations.ConversionSetsItsChannel : Prop :=
  ∀ (s : State) (ch : Nat) (rest : List Nat) (resolution ends count : Nat) (chan : Channel),
    s.tgt.sweep = .running (ch :: rest) resolution ends →
    lookup s.tgt.chans ch = some chan → (∀ k, lookup s.tables.calib ch = some k → 0 ≤ k.range) →
    let starting := s.hds.mode = .starting
    let finishes := starting ∧ s.hds.stage = .sweep ∧ rest = []
    let now := max s.now ends
    let next : Sweep := if rest = [] then .idle else .running rest resolution (now + 2 ^ (resolution - 10))
    let c16 : Int := ((count % 2 ^ resolution * 2 ^ (16 - resolution) : Nat) : Int)
    let reading : Option Int := (lookup s.tables.calib ch).bind fun k =>
      if c16 < k.low ∨ k.high < c16 then none
      else some (max 0 (min k.range (rdiv ((c16 - k.zero) * k.range) (k.span - k.zero))))
    let after (c : Channel) : Channel := match reading with
      | none => ⟨.fault, none, none⟩
      | some v => { c with state := .good, lastGood := if 32 ≤ ch then some v else none }
    ∃ t, exec (.conversionEnd count) s = .next t ∧ t.now = now ∧ t.tgt.sweep = next ∧
      t.tgt.active = s.tgt.active ∧ t.tgt.transfers = s.tgt.transfers ∧ t.ct.lots = s.ct.lots ∧
      t.ct.filing = s.ct.filing ∧ t.ct.consts = s.ct.consts ∧ t.ct.structs = s.ct.structs ∧
      (∃ c, lookup t.tgt.chans ch = some { after chan with candidate := c }) ∧
      (reading = none → lookup t.tgt.chans ch = some ⟨.fault, none, none⟩) ∧
      (∀ other, other ≠ ch → lookup t.tgt.chans other = lookup s.tgt.chans other) ∧
      (∀ a d, s.tables.tankOf ch = some (a, d) → s.tables.tank a = some d → s.faultJudged t a d) ∧
      (¬ finishes → s.tables.tankOf ch = none →
        exec (.conversionEnd count) s = .next ({ s with
          now := now
          tgt.sweep := next
          tgt.chans := adjust s.tgt.chans ch after }).takeJob) ∧
      (¬ finishes → ∀ a d live, s.tables.tankOf ch = some (a, d) → reading = none → lookup s.ct.tanks a = some live →
        t = ({ s with
          now := now
          ct.tanks := if live.source = Source.sensor then adjust s.ct.tanks a fun e => { e with source := .held }
            else s.ct.tanks
          tgt.sweep := next
          tgt.chans := adjust s.tgt.chans ch after
          tgt.gauges := if live.source = Source.sensor ∧ ¬ starting then
              adjust s.tgt.gauges a fun g => { g with hold := some (now + s.settings.holdLimit * 1000) }
            else s.tgt.gauges }.noting t).takeJob) ∧
      (finishes →
        let tests := s.tables.tests.take 4
        t.tgt.firstSweep = true ∧ (∀ a d, s.tables.tank a = some d → s.faultJudged t a d) ∧
        t.lcu = s.lcu ∧ t.csv = s.csv ∧ t.lmn = s.lmn ∧ (∀ q, q ≠ .p → t.link q = s.link q) ∧
        (s.sev.state = .disabled →
          t.entersMode (tests.map fun _ => .notRun) s.elapsed ∧ t.sev = s.sev ∧
          t.hds = { s.hds with stage := t.hds.stage, mode := t.hds.mode, verdicts := t.hds.verdicts }) ∧
        (s.sev.state ≠ .disabled →
          t.handsOver s.hds.verdicts tests s.sev.taken ∧ t.elapsed = s.elapsed ∧ t.tgt.timer = s.tgt.timer ∧
          t.hds = { s.hds with stage := t.hds.stage, verdicts := t.hds.verdicts }))

/-- A good reading of a tank channel (R127, R128): a MANUAL tank takes none; a tank in NONE or released takes it; one
beyond the step limit becomes the candidate, and a second one near that candidate is taken, while one near the held
sounding drops it; a SENSOR tank takes none within the deadband; every other reading is taken. A reading taken is
written with source SENSOR and the derived fields follow, the hold ends and SENSOR_LOST clears, and the serial moves on
exactly when weight, liquid z or inertia changes; a reading not taken leaves the tank as it is. Nothing else changes but
the sweep, the alarm list with its notices and the evaluator's choice of a job. At the last conversion of the start-up's
own sweep the tank follows alike, and `ConversionSetsItsChannel` says how the start-up goes on. -/
def Obligations.TankReadingsPassTheFilters : Prop :=
  ∀ (s : State) (ch : Nat) (rest : List Nat) (resolution ends count : Nat) (chan : Channel) (a : Nat) (d : TankDef)
    (live : TankLive) (k : Calibration) (v : Int),
    s.tgt.sweep = .running (ch :: rest) resolution ends →
    lookup s.tgt.chans ch = some chan → s.tables.tankOf ch = some (a, d) → lookup s.ct.tanks a = some live →
    lookup s.tables.calib ch = some k →
    k.reading ((count % 2 ^ resolution * 2 ^ (16 - resolution) : Nat) : Int) = some v →
    let now := max s.now ends
    let step : Int := s.settings.stepLimit
    let off := mag (v - live.sounding)
    let first := live.source = .none ∨ (s.tgt.gauge a).release = true
    let plain := live.source ≠ .manual ∧
      (first ∨ (off ≤ step ∧ ¬ (live.source = .sensor ∧ off < (s.settings.soundingDeadband : Int))))
    let held (c : Int) := step < off ∧ chan.candidate = some c
    let taken := ((∀ c, ¬ held c) ∧ plain) ∨ ∃ c, held c ∧ mag (v - c) ≤ step
    let p := d.values v
    let w := rdiv (p.volume * live.density) 100000
    let finishes := s.hds.mode = .starting ∧ s.hds.stage = .sweep ∧ rest = []
    ∃ t, exec (.conversionEnd count) s = .next t ∧
      (¬ finishes → t = ({ s with
        now := now
        ct.tanks := t.ct.tanks
        ct.serial := t.ct.serial
        tgt.sweep := t.tgt.sweep
        tgt.chans := t.tgt.chans
        tgt.gauges := t.tgt.gauges }.noting t).takeJob) ∧
      (taken →
        t.ct.tanks = adjust s.ct.tanks a (fun _ =>
          ⟨v, .sensor, live.density, p.volume, p.liqZ, p.inertia, w, live.inTransfer⟩) ∧
        t.ct.serial = (if live.weight = w ∧ live.liqZ = p.liqZ ∧ live.inertia = p.inertia then s.ct.serial
          else s.ct.serial + 1) ∧
        (¬ finishes → t.tgt.gauges = adjust s.tgt.gauges a (fun _ => ⟨false, none⟩)) ∧
        (s.als.held.Nodup → (⟨.sensorLost, .addr a⟩ : AlarmKey) ∉ t.als.held)) ∧
      (¬ taken → t.ct = s.ct ∧ (¬ finishes → t.tgt.gauges = s.tgt.gauges)) ∧
      ∃ c', lookup t.tgt.chans ch = some c' ∧
        (taken → c'.candidate = none) ∧
        (¬ taken → ∀ c, held c → c'.candidate = some v) ∧
        (¬ taken → (∀ c, ¬ held c) → c'.candidate =
          if live.source ≠ .manual ∧ ¬ first ∧ step < off then some v else none)

/-! ### Jobs (ch. 3, ch. 5.3, ch. 8) -/

/-- PERMIT_JOB_COMPLETE (R45, R85 to R91). An evaluation marked for discard, or no longer in hand, gives nothing,
whatever the lift record is by then: the evaluator is IDLE, nothing is in hand, nothing is sent. A stale one counts an
attempt, and at the third the request is refused CONDITION_UNSETTLED. Otherwise each candidate's result is judged by the
six criteria. If none fails, the record is GRANTED with the permit counter's number, the candidate of the largest heel
magnitude, the first of several, reserved, and the deadline one reservation window on; the counter advances from 255 to
1. If one fails, the first failing criterion at the first candidate at which it fails is named with its value, and a
HEEL refusal advises port B of a moment that is not 0. Then the evaluator, IDLE, chooses again. The criteria's numbers
in the frame are R179's, but for CAPACITY's 5, which is assumption 15.

And the image of each candidate's pass (R45, R55, R108): the live condition with every GRANTED reservation, in which
each origin lot of a hold pickup that stands in its origin is taken out, each load hangs at its reserved point and the
cranes' structures are placed to match, and with the request's own lot taken out and load hung in the same way. The
premises, no lot number twice and no grant beside a partner's tandem grant, are part of the invariant
`LiftRecordsStayConsistent`. -/
def Obligations.PermitIsGrantedOrRefused : Prop :=
  (∀ (tb : Tables) (img : Image) (c : Crane) (r : Request) (i : Nat),
    let kept := img.reserved
    let gone (l : Lot) : Bool := cranes.any fun k => (reservation img.recs k).any fun e => e.1.takesOut l
    let own (e : Request × Nat) : Option Pt := e.1.cands[e.2 - 1]?.map Candidate.own
    let other (e : Request × Nat) : Option Pt := e.1.tandem.bind fun _ => e.1.cands[e.2 - 1]?.bind Candidate.partner
    (img.table.lots.map Lot.num).Nodup →
    (∀ k e, reservation img.recs k = some e → e.1.tandem.isSome = true → reservation img.recs (mate k) = none) →
    kept.lots = img.table.lots.filter (fun l => !gone l) ∧
    kept.hung = cranes.flatMap (fun k => (reservation img.recs k).elim [] fun e => e.1.hangs e.2) ∧
    (∀ k, kept.place.get k =
      ((reservation img.recs k).bind own).or ((reservation img.recs (mate k)).bind other)) ∧
    kept.filing = img.table.filing ∧ kept.tanks = img.table.tanks ∧ kept.consts = img.table.consts ∧
    (∃ sc, permitPass tb img c r (i + 1) = passOver tb img (i + 1) sc ∧
      sc.lots = kept.lots.filter (fun l => !r.takesOut l) ∧ sc.hung = kept.hung ++ r.hangs (i + 1) ∧
      (∀ q, r.cands[i]? = some q → sc.place.get c = some q.own ∧
        ∀ k, k ≠ c → sc.place.get k =
          if k = mate c then (other (r, i + 1)).or (kept.place.get k) else kept.place.get k) ∧
      sc.filing = kept.filing ∧ sc.tanks = kept.tanks ∧ sc.consts = kept.consts) ∧
    ∀ a, (img.permitBase r).load a =
      sumOf ((kept.lots.filter fun l => !r.takesOut l && l.loc == a).map Lot.weight) +
        sumOf ((img.table.filing.filter fun f => f.dest == a).map Filing.weight)) ∧
  (∀ (s : State) (img : Image) (c : Crane), s.sev.state = .busy img → img.kind = .permit → img.crane = some c →
    s.lcu.inHand ≠ some (c, false) →
    exec .permitJobComplete s = .next ({ s with
      sev.state := .idle
      sev.last := some .permit
      lcu.inHand := none }).takeJob) ∧
  ∀ (s : State) (img : Image) (c : Crane) (r : Request) (attempts : Nat),
    s.sev.state = .busy img → img.kind = .permit → img.crane = some c → s.lift c = .pending r attempts →
    let q := portOf c
    let ends (s' : State) : Prop := exec .permitJobComplete s = .next ({ s' with
      sev.state := .idle
      sev.last := some .permit
      lcu.inHand := none }).takeJob
    let refused (m : OutMsg) : State := { s.setLink q ((s.link q).offer m) with
      lcu.recs := s.lcu.recs.set c .idle
      lcu.queue := s.lcu.queue.erase c }
    (s.lcu.inHand = some (c, false) → img.serial ≠ s.ct.serial →
      if attempts + 1 < 3 then ends { s with lcu.recs := s.lcu.recs.set c (.pending r (attempts + 1)) }
      else ends (refused (.refused kLiftRequest .conditionUnsettled))) ∧
    (s.lcu.inHand = some (c, false) → img.serial = s.ct.serial → s.tables.usable = true → r.cands ≠ [] →
      let results := permitResults s.tables img c r
      let capacity : Int × Int := match r.dest with
        | .space a => (match s.tables.cargo a with
          | some (_, most) => ((img.permitBase r).load a + r.weight, most)
          | none => (0, 0))
        | .quay => (0, 0)
      let fails (n : Nat) (x : Result) : Bool := match n, s.tables.limits with
        | 0, some l => decide (l.liftHeel < mag x.heel)
        | 1, some l => decide (x.gmf < l.gmLift)
        | 0, none => true
        | 1, none => true
        | 2, _ => decide (s.settings.draughtLimit ≠ 0 ∧ (s.settings.draughtLimit : Int) < x.maxDraught)
        | 3, _ => decide (1000 < x.strength.worstSfPm)
        | 4, _ => decide (1000 < x.strength.worstBmPm)
        | _, _ => decide (capacity.2 < capacity.1)
      results.length = r.cands.length ∧
      ((∀ x ∈ results, ∀ n, n < 6 → fails n x = false) →
        ∃ i best, results[i]? = some best ∧
          (∀ j x, results[j]? = some x → mag x.heel ≤ mag best.heel ∧ (j < i → mag x.heel < mag best.heel)) ∧
          ends { s.setLink q ((s.link q).offer
              (.liftGranted s.lcu.counter (i + 1) s.settings.reservation img.serial)) with
            lcu.counter := if s.lcu.counter < 255 then s.lcu.counter + 1 else 1
            lcu.queue := s.lcu.queue.erase c
            lcu.recs := s.lcu.recs.set c
              (.granted r s.lcu.counter (i + 1) (s.now + s.settings.reservation * 1000)) }) ∧
      (∀ n i x, n < 6 → results[i]? = some x → fails n x = true →
        (∀ m, m < n → ∀ y ∈ results, fails m y = false) →
        (∀ j y, j < i → results[j]? = some y → fails n y = false) →
        let moment : Int := match s.tables.limits with
          | some l =>
            if 0 < x.gmf then
              let m := cdiv (mag x.my * 10000 - l.liftHeel * x.disp * x.gmf) 10000
              if 0 < x.heel then -m else m
            else 0
          | none => 0
        let value : FailValue := match n with
          | 0 => .heel x.heel moment
          | 1 => .gm x.gmf
          | 2 => .draught x.maxDraught
          | 3 => .shear x.strength.worstSfPm x.strength.worstSf
          | 4 => .bending x.strength.worstBmPm x.strength.worstBm
          | _ => .capacity capacity.1 capacity.2
        let s' := refused (.liftRefused n (if n = 5 then 1 else i + 1) img.serial value)
        ends (if n = 0 ∧ moment ≠ 0 then
          s'.setLink .b ((s'.link .b).offer (.counterAdvice c moment img.serial)) else s')))

/-- LIVE_JOB_COMPLETE (R46, R52, R55, R132, R140 to R142, R180, R185): the live result is the job's, a pass over its
image's live condition without reservation or candidate, HYDRO_RANGE and the limit alarms say what it shows,
DRAUGHT_DISAGREE whether a measured draught differs from it by more than the tolerance, a stop standing or issued as the
criteria and the lifting limits say. At the end of a start-up the part enters its mode, the sweep timer and the hold
timers of tanks in HELD start, and START_REPORT goes out (R130, R187). The table, the settings, the hooks and the
transfer list stay. The first premise, that the held conditions are named once, is part of the invariant
`AlarmListStaysWithinBounds`. -/
def Obligations.LiveResultIsInstalledAndJudged : Prop :=
  ∀ (s : State) (img : Image) (r : Result), s.als.held.Nodup → s.sev.state = .busy img → img.kind = .live →
    passOver s.tables img 0 img.table.scene = some r →
    let draught : Int := s.settings.draughtLimit
    let deep := s.settings.draughtLimit ≠ 0 ∧ draught < r.maxDraught
    let above (pm : List Int) := ∃ v ∈ pm, 1000 < v
    let heels := ∀ l, s.tables.limits = some l → l.stopHeel < mag r.heel
    let tender := ∀ l, s.tables.limits = some l → r.gmf < l.gmStop
    let breach := heels ∨ tender ∨ deep ∨ above r.strength.sfPm ∨ above r.strength.bmPm
    let liftable := ¬ deep ∧ ¬ above r.strength.sfPm ∧ ¬ above r.strength.bmPm ∧
      ∃ l, s.tables.limits = some l ∧ mag r.heel ≤ l.liftHeel ∧ l.gmLift ≤ r.gmf
    let differs (measured : Option Int) (v : Int) :=
      ∃ m, measured = some m ∧ (s.settings.draughtTolerance : Int) < mag (m - v)
    ∃ t, exec .liveJobComplete s = .next t ∧ t.sev.live = some r ∧ t.sev.last = some .live ∧
      ((⟨.hydroRange, .none⟩ : AlarmKey) ∈ t.als.held ↔ r.flags.hydroLow = true ∨ r.flags.hydroHigh = true) ∧
      ((⟨.heelLimit, .none⟩ : AlarmKey) ∈ t.als.held ↔ heels) ∧
      ((⟨.gmLimit, .none⟩ : AlarmKey) ∈ t.als.held ↔ tender) ∧
      ((⟨.draughtLimit, .none⟩ : AlarmKey) ∈ t.als.held ↔ deep) ∧
      ((⟨.gmNegative, .none⟩ : AlarmKey) ∈ t.als.held ↔ r.flags.gmNegative = true) ∧
      (∀ k, 1 ≤ k → k ≤ 19 →
        ((⟨.shearLimit, .station k⟩ : AlarmKey) ∈ t.als.held ↔ 1000 < nth r.strength.sfPm k) ∧
        ((⟨.bendingLimit, .station k⟩ : AlarmKey) ∈ t.als.held ↔ 1000 < nth r.strength.bmPm k)) ∧
      ((⟨.draughtDisagree, .aft⟩ : AlarmKey) ∈ t.als.held ↔ differs (s.measured 32 33) r.ta) ∧
      ((⟨.draughtDisagree, .forward⟩ : AlarmKey) ∈ t.als.held ↔ differs (s.measured 34 35) r.tf) ∧
      (s.lmn.stop = none → (t.lmn.stop.isSome = true ↔ breach) ∧
        ∀ c n, t.lmn.stop = some (c, n) → n = r.serial) ∧
      (s.lmn.stop ≠ none → (liftable → t.lmn.stop = none) ∧ (¬ liftable → t.lmn.stop = s.lmn.stop)) ∧
      (s.hds.mode ≠ .starting → t.hds = s.hds ∧ t.tgt = s.tgt) ∧
      (s.hds.mode = .starting →
        t.hds = { s.hds with
          stage := .entered
          mode := if s.hds.strap then .commissioning
            else if s.hds.storeFault || s.hds.testFail then .degraded else .service } ∧
        t.entersMode s.hds.verdicts s.elapsed ∧
        t.tgt = { s.tgt with timer := t.tgt.timer, gauges := t.tgt.gauges } ∧
        ∀ a live, lookup s.ct.tanks a = some live → live.source ≠ .held → t.tgt.gauge a = s.tgt.gauge a) ∧
      t.ct = s.ct ∧ t.csv.settings = s.csv.settings ∧ t.lcu.hooks = s.lcu.hooks ∧
      t.tgt.transfers = s.tgt.transfers ∧ t.now = s.now ∧ t.phase = s.phase

/-- The issue of a stop and the resume at a live result (R95, R143, R144, R149). At the issue the first criterion that
holds stands with the result's serial; every permit is withdrawn, every queued request refused STOPPED and the running
evaluation marked for discard; each crane port that holds a load is SENT the order, its window running from now; port B
is SENT it for a transfer that worsens the heel, or that takes in water at a draught breach, and otherwise keeps its
state. While the stop stands, a later live result that does not resume tests port B again when its state is NONE,
with that result's serial, and orders no other port (R145). At the resume every ordered port is sent RESUME and goes to
NONE, and STOP_UNANSWERED clears. The live result of a start-up is judged like any other. The premises on
queue and alarm list are the invariants `LiftRecordsStayConsistent` and `AlarmListStaysWithinBounds`. -/
def Obligations.StopReachesItsTargets : Prop :=
  ∀ (s : State) (img : Image) (r : Result), s.als.held.Nodup → s.queueWf → (s.stopPort .p).state = .none →
    s.sev.state = .busy img → img.kind = .live →
    passOver s.tables img 0 img.table.scene = some r →
    let met : Criterion → Prop := fun
      | .heel => ∀ l, s.tables.limits = some l → l.stopHeel < mag r.heel
      | .gm => ∀ l, s.tables.limits = some l → r.gmf < l.gmStop
      | .draught => s.settings.draughtLimit ≠ 0 ∧ (s.settings.draughtLimit : Int) < r.maxDraught
      | .shear => ∃ v ∈ r.strength.sfPm, 1000 < v
      | .bending => ∃ v ∈ r.strength.bmPm, 1000 < v
    let y : TransferEnd → Int := fun
      | .sea => 0
      | .tank a => ((s.tables.tank a).map TankDef.cy).getD 0
    let worsens := ∃ tr ∈ s.tgt.transfers, (y tr.src < y tr.dst ∧ 0 < r.heel) ∨ (y tr.dst < y tr.src ∧ r.heel < 0)
    let intake := ∃ tr ∈ s.tgt.transfers, tr.src = .sea
    let sent : StopPort := ⟨.sent, some (s.now + s.settings.ackWindow * 100)⟩
    ∃ t, exec .liveJobComplete s = .next t ∧
      (∀ crit before after, s.lmn.stop = none → [Criterion.heel, .gm, .draught, .shear, .bending] = before ++ crit :: after →
        met crit → (∀ e ∈ before, ¬ met e) →
        t.lmn.stop = some (crit, r.serial) ∧ t.lcu.queue = [] ∧
        (∀ k b, t.lcu.inHand = some (k, b) → b = true) ∧
        (∀ c, t.lift c = (match s.lift c with
            | .pending _ _ | .granted _ _ _ _ => .idle
            | other => other) ∧
          t.link (portOf c) = (match s.lift c with
            | .pending _ _ => (s.link (portOf c)).offer (.refused kLiftRequest .stopped)
            | .granted _ n _ _ => (s.link (portOf c)).offer (.liftWithdrawn n crit)
            | .hooked _ | .partner _ _ => (s.link (portOf c)).placeOrder (.stop crit r.serial)
            | .idle | .unfiled _ _ => s.link (portOf c)) ∧
          t.stopPort (portOf c) = if (s.lift c).holdsLoad then sent else s.stopPort (portOf c)) ∧
        (met .heel → worsens →
          t.stopPort .b = sent ∧ t.link .b = (s.link .b).placeOrder (.stop .heel r.serial)) ∧
        (¬ (met .heel ∧ worsens) → met .draught → intake →
          t.stopPort .b = sent ∧ t.link .b = (s.link .b).placeOrder (.stop .draught r.serial)) ∧
        (¬ (met .heel ∧ worsens) → ¬ (met .draught ∧ intake) →
          t.stopPort .b = s.stopPort .b ∧ t.link .b = s.link .b)) ∧
      (s.lmn.stop ≠ none → t.lmn.stop ≠ none →
        t.lmn.stop = s.lmn.stop ∧ t.lcu.recs = s.lcu.recs ∧ t.lcu.queue = s.lcu.queue ∧
        (∀ c, t.stopPort (portOf c) = s.stopPort (portOf c) ∧ t.link (portOf c) = s.link (portOf c)) ∧
        ((s.stopPort .b).state = .none → met .heel → worsens →
          t.stopPort .b = sent ∧ t.link .b = (s.link .b).placeOrder (.stop .heel r.serial)) ∧
        ((s.stopPort .b).state = .none → ¬ (met .heel ∧ worsens) → met .draught → intake →
          t.stopPort .b = sent ∧ t.link .b = (s.link .b).placeOrder (.stop .draught r.serial)) ∧
        ((s.stopPort .b).state ≠ .none ∨ (¬ (met .heel ∧ worsens) ∧ ¬ (met .draught ∧ intake)) →
          t.stopPort .b = s.stopPort .b ∧ t.link .b = s.link .b)) ∧
      (s.lmn.stop ≠ none → t.lmn.stop = none →
        (∀ q, q ≠ .p →
          t.link q = (if (s.stopPort q).state = .none then s.link q
            else (s.link q).placeOrder (.resume r.serial)) ∧
          ((s.stopPort q).state ≠ .none → t.stopPort q = ⟨.none, none⟩ ∧
            (⟨.stopUnanswered, .port q⟩ : AlarmKey) ∉ t.als.held)) ∧
        t.lcu.recs = s.lcu.recs ∧ t.lcu.queue = s.lcu.queue)

/-- TRIAL_JOB_COMPLETE and TEST_JOB_COMPLETE (R47, R48, R56, R57, R160, R170, R186). A trial keeps its outcome, a result
of the changed image or INVALID with the index of the first inconsistent change, sends TRIAL_RESULT with the image
serial and goes IDLE, and the evaluator chooses again. A test condition passes when Δ and both worst stations are exact
and the other seven figures lie within 2 of those expected, else it fails and TEST_CONDITION_FAIL stands; its verdict is
kept, a failure with the first failing figure in R186's order, counted from 1 (assumption 15), and the next condition to
be run, or the LIVE job, follows. Neither changes the live result or the table. And what the two kinds of image hold:
each trial change as R56's table says, in list order, up to the first that is inconsistent; and the lightship with the
stored items and the stored free-surface moment. -/
def Obligations.TrialAndTestJobsKeepTheirOutcome : Prop :=
  (∀ (s : State) (img : Image), s.sev.state = .busy img →
    (img.kind = .trial →
      let applied := Scene.changes s.tables img.recs img.reserved 1 img.trial
      (∀ scene r, applied = .ok scene → passOver s.tables img 0 scene = some r →
        exec .trialJobComplete s = .next ({ s.setLink .p ((s.link .p).offer
            (.trialResult img.serial .result (some r) none)) with
          csv.outcome := .result r
          csv.trialState := .idle
          sev.state := .idle
          sev.last := some .trial }).takeJob) ∧
      (∀ i, applied = .error i →
        exec .trialJobComplete s = .next ({ s.setLink .p ((s.link .p).offer
            (.trialResult img.serial .invalid none (some i))) with
          csv.outcome := .invalid i img.serial
          csv.trialState := .idle
          sev.state := .idle
          sev.last := some .trial }).takeJob)) ∧
    (img.kind = .test → ∀ tc r, img.test = some tc → testPass s.tables img tc = some r →
      let e := tc.expected
      let near (x v : Int) := mag (x - v) ≤ 2
      let passes := e.disp = r.disp ∧ near e.kg r.kg ∧ near e.gmf r.gmf ∧ near e.trim r.trim ∧ near e.ta r.ta ∧
        near e.tf r.tf ∧ near e.sfPm r.strength.worstSfPm ∧ near e.bmPm r.strength.worstBmPm ∧
        e.sfStation = r.strength.worstSf ∧ e.bmStation = r.strength.worstBm
      let misses (n : Nat) : Prop := (n = 1 ∧ e.disp ≠ r.disp) ∨ (n = 2 ∧ ¬ near e.kg r.kg) ∨
        (n = 3 ∧ ¬ near e.gmf r.gmf) ∨ (n = 4 ∧ ¬ near e.trim r.trim) ∨ (n = 5 ∧ ¬ near e.ta r.ta) ∨
        (n = 6 ∧ ¬ near e.tf r.tf) ∨ (n = 7 ∧ ¬ near e.sfPm r.strength.worstSfPm) ∨
        (n = 8 ∧ ¬ near e.bmPm r.strength.worstBmPm) ∨ (n = 9 ∧ e.sfStation ≠ r.strength.worstSf) ∨
        (n = 10 ∧ e.bmStation ≠ r.strength.worstBm)
      let todo : List TestCondition := match s.hds.stage with
        | .tests l => l
        | _ => []
      ∃ t v, exec .testJobComplete s = .next t ∧ (v = .pass ↔ passes) ∧ v ≠ .notRun ∧
        (∀ n, v = .fail n → misses n ∧ ∀ m, m < n → ¬ misses m) ∧
        t.handsOver (s.hds.verdicts ++ [v]) todo s.sev.taken ∧
        (v ≠ .pass → t.hds.testFail = true ∧ (⟨.testConditionFail, .none⟩ : AlarmKey) ∈ t.als.held) ∧
        (v = .pass → t.hds.testFail = s.hds.testFail ∧ t.als = s.als) ∧
        t.sev.live = s.sev.live ∧ t.sev.last = some .test ∧ t.ct = s.ct ∧ t.lcu = s.lcu ∧ t.csv = s.csv ∧
        t.tgt = s.tgt ∧ t.lmn = s.lmn ∧ t.now = s.now ∧ t.phase = s.phase)) ∧
  (∀ (tb : Tables) (recs : PerCrane LiftRec) (sc : Scene),
    let gives (ch : TrialChange) (fits : Prop) (after : Scene) : Prop :=
      (fits → sc.change tb recs ch = some after) ∧ (¬ fits → sc.change tb recs ch = none)
    let stowed (n : Nat) : Prop := ∃ l ∈ sc.lots, l.num = n
    (∀ n a w q, gives (.addLot n a w q)
      (¬ sc.names recs n ∧ ∃ box most, tb.cargo a = some (box, most) ∧ box.contains q)
      { sc with lots := sc.lots ++ [⟨n, w, q, a, .console, 0⟩] }) ∧
    (∀ n, gives (.removeLot n) (stowed n)
      { sc with lots := sc.lots.eraseP fun (l : Lot) => l.num == n }) ∧
    (∀ n a q, gives (.shiftLot n a q) (stowed n ∧ ∃ box most, tb.cargo a = some (box, most) ∧ box.contains q)
      { sc with lots := sc.lots.map fun (l : Lot) => if l.num = n then { l with loc := a, pos := q } else l }) ∧
    (∀ a v, tb.tank a = none → sc.change tb recs (.setSounding a v) = none) ∧
    (∀ a v d, tb.tank a = some d → 0 ≤ d.depth →
      let level := max 0 (min d.depth v)
      let p := d.values level
      sc.change tb recs (.setSounding a v) = some { sc with
        tanks := adjust sc.tanks a fun (e : TankLive) => ⟨level, .manual, e.density, p.volume, p.liqZ, p.inertia,
          rdiv (p.volume * e.density) 100000, e.inTransfer⟩ }) ∧
    (∀ slot w q, gives (.setConst slot w q) (∃ box d, tb.const (112 + slot) = some (box, d) ∧ box.contains q)
      { sc with consts := adjust sc.consts (112 + slot) fun _ => ⟨w, q⟩ }) ∧
    (∀ c w (q : Pt) h, gives (.hang c w q h)
      (∃ d, tb.crane c = some d ∧
        (q.x - d.px) * (q.x - d.px) + (q.y - d.py) * (q.y - d.py) ≤ d.outreach * d.outreach)
      { sc with hung := sc.hung ++ [⟨w, ⟨q.x, q.y, h⟩, .point⟩], place := sc.place.set c (some q) }) ∧
    ∀ (list : List TrialChange),
      let apply (l : List TrialChange) : Option Scene := l.foldlM (fun (x : Scene) ch => x.change tb recs ch) sc
      (∀ after, Scene.changes tb recs sc 1 list = .ok after ↔ apply list = some after) ∧
      ∀ i, Scene.changes tb recs sc 1 list = .error i →
        1 ≤ i ∧ ∃ before ch, apply (list.take (i - 1)) = some before ∧ list[i - 1]? = some ch ∧
          before.change tb recs ch = none) ∧
  ∀ (tb : Tables) (img : Image) (tc : TestCondition), ∃ items,
    testPass tb img tc = (match tb.hull, tb.hydro, tb.strength with
      | some h, some rows, some st =>
        some (evaluate h rows st img.strength img.kind img.serial 0 items tc.fsm)
      | _, _, _ => none) ∧
    ∀ f : Item → Int, sumOf (items.map f) =
      (match tb.hull with
        | some h => f ⟨h.weight, h.pos, .arrayed⟩
        | none => 0) +
      sumOf (tc.items.map fun it => f ⟨it.weight, it.pos, match it.span with
        | some (first, last) => .spread first last
        | none => .point⟩)

/-! ### Stability and strength (ch. 3.4, ch. 4) -/

/-- The stability of a pass (R3, R58 to R62): the sums over the items and the centres as rounded quotients; the
hydrostatic values of the row at Δ, between the two rows about Δ, or of the end row with its flag; GMs and GMf as
differences; with GMf positive the heel is the quotient rounded to nearest, or the end of the range with HEEL_CLAMPED
when that lies beyond it; with GMf 0 or less the end of the range on the side of My with GM_NEGATIVE; trim and draughts.
The first premise is the rising order that the start-up checks of the rows (R60, R186); the second holds in every image
(R58). With them the roundings of R3, to nearest with ties away from zero and away from zero for the counter-ballast
moment, and the items of a pass over an image: those that `count` names, each counted by any measure (R52 to R56, R117),
and the tanks' free-surface moments, at the maximum inertia in transfer (R53). -/
def Obligations.PassFollowsTheStabilityFormulas : Prop :=
  (∀ n d : Int, 0 < d →
    2 * mag (rdiv n d * d - n) ≤ d ∧ (2 * mag (rdiv n d * d - n) = d → mag n < mag (rdiv n d * d)) ∧
    (0 ≤ n → n ≤ cdiv n d * d ∧ cdiv n d * d < n + d)) ∧
  (∀ (tb : Tables) (img : Image) (candidate : Nat) (sc : Scene), ∃ items,
    (∀ f : Item → Int, sumOf (items.map f) = sc.count tb img.recs img.hooks img.table.structs f) ∧
    passOver tb img candidate sc = (match tb.hull, tb.hydro, tb.strength with
      | some h, some rows, some st =>
        some (evaluate h rows st img.strength img.kind img.serial candidate items
          (sumOf (sc.tanks.map fun e => match tb.tank e.1 with
            | some d =>
              if e.2.source = .none then 0 else e.2.density * if e.2.inTransfer then d.maxInertia else e.2.inertia
            | none => 0)))
      | _, _, _ => none)) ∧
  ∀ (h : Hull) (rows : List HydroRow) (st : StrengthTable) (set : StrengthSet) (kind : JobKind) (serial : Serial)
    (candidate : Nat) (items : List Item) (fsm : Int),
    let r := evaluate h rows st set kind serial candidate items fsm
    let total (f : Item → Int) : Int := sumOf (items.map fun it => it.w * f it)
    let hydro := (r.t, r.km, r.lcb, r.lcf, r.mct, r.flags.hydroLow, r.flags.hydroHigh)
    let ofRow (row : HydroRow) (low high : Bool) := (row.t, row.km, row.lcb, row.lcf, row.mct, low, high)
    (rows.map HydroRow.disp).Pairwise (· < ·) → 0 < r.disp →
    r.disp = total (fun _ => 1) ∧ r.mx = total (fun it => it.pos.x) ∧ r.my = total (fun it => it.pos.y) ∧
    r.mz = total (fun it => it.pos.z) ∧ r.fsm = fsm ∧
    r.lcg = rdiv r.mx r.disp ∧ r.tcg = rdiv r.my r.disp ∧ r.kg = rdiv r.mz r.disp ∧ r.fsc = rdiv fsm r.disp ∧
    (∀ row ∈ rows, row.disp = r.disp → hydro = ofRow row false false) ∧
    (∀ before a b after, rows = before ++ a :: b :: after → a.disp < r.disp → r.disp < b.disp →
      let between (f : HydroRow → Int) : Int := f a + rdiv ((f b - f a) * (r.disp - a.disp)) (b.disp - a.disp)
      hydro = (between HydroRow.t, between HydroRow.km, between HydroRow.lcb, between HydroRow.lcf,
        between HydroRow.mct, false, false)) ∧
    (∀ row ∈ rows, (∀ other ∈ rows, row.disp ≤ other.disp) → r.disp < row.disp → hydro = ofRow row true false) ∧
    (∀ row ∈ rows, (∀ other ∈ rows, other.disp ≤ row.disp) → row.disp < r.disp → hydro = ofRow row false true) ∧
    r.gms = r.km - r.kg ∧ r.gmf = r.gms - r.fsc ∧ -10000 ≤ r.heel ∧ r.heel ≤ 10000 ∧
    (0 < r.gmf → r.flags.gmNegative = false ∧
      (r.flags.heelClamped = false →
        2 * mag (r.heel * (r.disp * r.gmf) - r.my * 10000) ≤ r.disp * r.gmf) ∧
      (r.flags.heelClamped = true →
        (r.heel = 10000 ∧ 20001 * (r.disp * r.gmf) ≤ 2 * (r.my * 10000)) ∨
        (r.heel = -10000 ∧ 2 * (r.my * 10000) ≤ -20001 * (r.disp * r.gmf))) ∧
      (r.my = 0 → r.heel = 0)) ∧
    (r.gmf ≤ 0 → r.flags.gmNegative = true ∧ r.flags.heelClamped = false ∧
      r.heel = if 0 ≤ r.my then 10000 else -10000) ∧
    r.trim = rdiv (r.disp * r.lcb - r.mx) r.mct ∧ r.ta = r.t + rdiv (r.trim * r.lcf) h.lbp ∧ r.tf = r.ta - r.trim ∧
    r.maxDraught = max r.ta r.tf

/-- The strength of every pass (R65 to R76). An item spread over n segments gives each the floor of w / n and one unit
more to the first of them from aft until the remainder is spent; a point item gives its weight to the segment that holds
its x, an inner station belonging to the segment forward of it; the lightship gives its stored array. The shares are
those of the row nearest to Δ, the lower of two equally near; each segment's buoyancy is floored, the last taking what
is left. Weights and buoyancies each sum to Δ; SF at station k is the sum of the net loads aft of it; BM is the raw
moment less its share of the closing error; both are zero at stations 0 and 20; the utilisations are the floored
permilles of the set's allowables, hog or sag by the sign of BM, clamped to 9,999 and 0 at the ends; and each worst
station has the highest utilisation, the lowest station on a tie. The passes are those over an image's scene, whose hung
loads are point items, and those over a test condition whose spans are well formed; the premise on the tables is part of
the invariant `TablesAndRecordsKeepTheirShape`. -/
def Obligations.StrengthFollowsTheLoads : Prop :=
  ∀ (tb : Tables) (img : Image) (h : Hull) (rows : List HydroRow) (st : StrengthTable) (items : List Item) (r : Result),
    tb.wf → tb.hull = some h → tb.hydro = some rows → tb.strength = some st →
    ((∃ candidate sc, passOver tb img candidate sc = some r ∧ (∀ it ∈ sc.hung, it.reach = .point) ∧
        items = sc.items tb img.recs img.hooks img.table.structs) ∨
      ∃ tc, testPass tb img tc = some r ∧ (∀ it ∈ tc.items, ∀ f l, it.span = some (f, l) → f ≤ l ∧ l ≤ 19) ∧
        items = testItems tb tc) →
    let station (k : Nat) : Int := rdiv (k * h.lbp) 20
    let middle (j : Nat) : Int := rdiv (station j + station (j + 1)) 2
    let part (it : Item) (j : Nat) : Int := match it.reach with
      | .spread first last =>
        let n : Int := (last + 1 - first : Nat)
        if first ≤ j ∧ j ≤ last then it.w / n + (if ((j - first : Nat) : Int) < it.w % n then 1 else 0) else 0
      | .point => if (j = 0 ∨ station j ≤ it.pos.x) ∧ (j = 19 ∨ it.pos.x < station (j + 1)) then it.w else 0
      | .arrayed => nth h.segments j
    let w (j : Nat) : Int := sumOf (items.map fun it => part it j)
    ∃ row ∈ rows, (∀ x ∈ rows, mag (r.disp - row.disp) < mag (r.disp - x.disp) ∨
      (mag (r.disp - row.disp) = mag (r.disp - x.disp) ∧ row.disp ≤ x.disp)) ∧
    let share (j : Nat) : Int := r.disp * nth row.shares j / 1000
    let b (j : Nat) : Int := if j < 19 then share j else r.disp - sumOf ((List.range 19).map share)
    let raw (k : Nat) : Int := sumOf ((List.range k).map fun j => (b j - w j) * (station k - middle j))
    let sf := nth r.strength.sf
    let bm := nth r.strength.bm
    let worst (pm : List Int) (k : Nat) (v : Int) : Prop :=
      k ≤ 20 ∧ nth pm k = v ∧ (∀ j, j ≤ 20 → nth pm j ≤ v) ∧ ∀ j, j < k → nth pm j < v
    sumOf ((List.range 20).map w) = r.disp ∧ sumOf ((List.range 20).map b) = r.disp ∧
    r.strength.sf.length = 21 ∧ r.strength.bm.length = 21 ∧
    (∀ k, k ≤ 20 →
      sf k = sumOf ((List.range k).map fun j => b j - w j) ∧ bm k = raw k - rdiv (raw 20 * k) 20) ∧
    sf 0 = 0 ∧ sf 20 = 0 ∧ bm 0 = 0 ∧ bm 20 = 0 ∧
    r.strength.set = img.strength ∧ r.strength.sfPm.length = 21 ∧ r.strength.bmPm.length = 21 ∧
    (∀ k a, 1 ≤ k → k ≤ 19 → (st.of img.strength)[k]? = some a →
      nth r.strength.sfPm k = min 9999 (mag (sf k) * 1000 / a.sf) ∧
      nth r.strength.bmPm k = min 9999 (mag (bm k) * 1000 / ((if 0 ≤ bm k then a.hog else a.sag) * 10000))) ∧
    (∀ k, k = 0 ∨ k = 20 → nth r.strength.sfPm k = 0 ∧ nth r.strength.bmPm k = 0) ∧
    worst r.strength.sfPm r.strength.worstSf r.strength.worstSfPm ∧
    worst r.strength.bmPm r.strength.worstBm r.strength.worstBmPm
end

