-- ==== Sys2Proof/Laws/State.lean ====
section
/-!
SUPPORT. What each named update of the state leaves alone, field by field, and what the per-port and per-crane updates
read back. Every lemma of the first kind holds by unfolding, so that no later proof opens a record update.
-/

namespace Sys2Proof.Machine

/-! ### One value for each port or crane -/

@[simp] theorem PerPort.get_set {α : Type} (m : PerPort α) (q r : Port) (v : α) :
    (m.set q v).get r = if r = q then v else m.get r := by cases q <;> cases r <;> rfl

@[simp] theorem PerCrane.get_set {α : Type} (m : PerCrane α) (c d : Crane) (v : α) :
    (m.set c v).get d = if d = c then v else m.get d := by cases c <;> cases d <;> rfl

theorem PerPort.ext_get {α : Type} {m n : PerPort α} (h : ∀ q, m.get q = n.get q) : m = n := by
  cases m; cases n
  have h1 := h .p; have h2 := h .c1; have h3 := h .c2; have h4 := h .c3; have h5 := h .c4; have h6 := h .b
  simp only [PerPort.get] at h1 h2 h3 h4 h5 h6
  subst_vars; rfl

theorem PerCrane.ext_get {α : Type} {m n : PerCrane α} (h : ∀ c, m.get c = n.get c) : m = n := by
  cases m; cases n
  have h1 := h .k1; have h2 := h .k2; have h3 := h .k3; have h4 := h .k4
  simp only [PerCrane.get] at h1 h2 h3 h4
  subst_vars; rfl

@[simp] theorem PerPort.set_get {α : Type} (m : PerPort α) (q : Port) : m.set q (m.get q) = m := by cases q <;> rfl

@[simp] theorem PerPort.set_set {α : Type} (m : PerPort α) (q : Port) (v w : α) : (m.set q v).set q w = m.set q w := by
  cases q <;> rfl

@[simp] theorem State.link_setLink (s : State) (q r : Port) (l : Link) :
    (s.setLink q l).link r = if r = q then l else s.link r := by simp [State.link, State.setLink]

@[simp] theorem State.setLink_setLink (s : State) (q : Port) (l l' : Link) :
    (s.setLink q l).setLink q l' = s.setLink q l' := by simp [State.setLink]

@[simp] theorem State.setLink_link (s : State) (q : Port) : s.setLink q (s.link q) = s := by
  simp [State.link, State.setLink]

@[simp] theorem State.lift_setLift (s : State) (c d : Crane) (r : LiftRec) :
    (s.setLift c r).lift d = if d = c then r else s.lift d := by simp [State.lift, State.setLift]

@[simp] theorem State.hook_setHook (s : State) (c d : Crane) (h : Hook) :
    (s.setHook c h).hook d = if d = c then h else s.hook d := by simp [State.hook, State.setHook]

@[simp] theorem State.stopPort_setStopPort (s : State) (q r : Port) (v : StopPort) :
    (s.setStopPort q v).stopPort r = if r = q then v else s.stopPort r := by
  simp [State.stopPort, State.setStopPort]

/-! ### A view that an update does not touch -/

@[simp] theorem State.lift_setHook (s : State) (c d : Crane) (h : Hook) : (s.setHook c h).lift d = s.lift d := rfl
@[simp] theorem State.hook_setLift (s : State) (c d : Crane) (r : LiftRec) : (s.setLift c r).hook d = s.hook d := rfl
@[simp] theorem State.link_setLift (s : State) (c : Crane) (r : LiftRec) (q : Port) :
    (s.setLift c r).link q = s.link q := rfl
@[simp] theorem State.link_setHook (s : State) (c : Crane) (h : Hook) (q : Port) :
    (s.setHook c h).link q = s.link q := rfl
@[simp] theorem State.lift_setLink (s : State) (q : Port) (l : Link) (c : Crane) :
    (s.setLink q l).lift c = s.lift c := rfl
@[simp] theorem State.hook_setLink (s : State) (q : Port) (l : Link) (c : Crane) :
    (s.setLink q l).hook c = s.hook c := rfl
@[simp] theorem State.stopPort_setLink (s : State) (q r : Port) (l : Link) :
    (s.setLink q l).stopPort r = s.stopPort r := rfl
@[simp] theorem State.link_setStopPort (s : State) (q r : Port) (v : StopPort) :
    (s.setStopPort q v).link r = s.link r := rfl
@[simp] theorem State.link_bump (s : State) (q : Port) : s.bump.link q = s.link q := rfl
@[simp] theorem State.link_reach (s : State) (d : Nat) (q : Port) : (s.reach d).link q = s.link q := rfl
@[simp] theorem State.lift_bump (s : State) (c : Crane) : s.bump.lift c = s.lift c := rfl
@[simp] theorem State.tables_setLink (s : State) (q : Port) (l : Link) : (s.setLink q l).tables = s.tables := rfl
@[simp] theorem State.settings_setLink (s : State) (q : Port) (l : Link) : (s.setLink q l).settings = s.settings := rfl

/-! ### setLink -/

@[simp] theorem State.setLink_pending (s : State) (q : Port) (l : Link) : (s.setLink q l).pending = s.pending := rfl
@[simp] theorem State.setLink_phase (s : State) (q : Port) (l : Link) : (s.setLink q l).phase = s.phase := rfl
@[simp] theorem State.setLink_line (s : State) (q : Port) (l : Link) : (s.setLink q l).line = s.line := rfl
@[simp] theorem State.setLink_now (s : State) (q : Port) (l : Link) : (s.setLink q l).now = s.now := rfl
@[simp] theorem State.setLink_elapsed (s : State) (q : Port) (l : Link) : (s.setLink q l).elapsed = s.elapsed := rfl
@[simp] theorem State.setLink_ct (s : State) (q : Port) (l : Link) : (s.setLink q l).ct = s.ct := rfl
@[simp] theorem State.setLink_sev (s : State) (q : Port) (l : Link) : (s.setLink q l).sev = s.sev := rfl
@[simp] theorem State.setLink_lcu (s : State) (q : Port) (l : Link) : (s.setLink q l).lcu = s.lcu := rfl
@[simp] theorem State.setLink_tgt (s : State) (q : Port) (l : Link) : (s.setLink q l).tgt = s.tgt := rfl
@[simp] theorem State.setLink_lmn (s : State) (q : Port) (l : Link) : (s.setLink q l).lmn = s.lmn := rfl
@[simp] theorem State.setLink_als (s : State) (q : Port) (l : Link) : (s.setLink q l).als = s.als := rfl
@[simp] theorem State.setLink_csv (s : State) (q : Port) (l : Link) : (s.setLink q l).csv = s.csv := rfl
@[simp] theorem State.setLink_hds (s : State) (q : Port) (l : Link) : (s.setLink q l).hds = s.hds := rfl

/-! ### setLift -/

@[simp] theorem State.setLift_pending (s : State) (c : Crane) (r : LiftRec) : (s.setLift c r).pending = s.pending := rfl
@[simp] theorem State.setLift_phase (s : State) (c : Crane) (r : LiftRec) : (s.setLift c r).phase = s.phase := rfl
@[simp] theorem State.setLift_line (s : State) (c : Crane) (r : LiftRec) : (s.setLift c r).line = s.line := rfl
@[simp] theorem State.setLift_now (s : State) (c : Crane) (r : LiftRec) : (s.setLift c r).now = s.now := rfl
@[simp] theorem State.setLift_elapsed (s : State) (c : Crane) (r : LiftRec) : (s.setLift c r).elapsed = s.elapsed := rfl
@[simp] theorem State.setLift_sli (s : State) (c : Crane) (r : LiftRec) : (s.setLift c r).sli = s.sli := rfl
@[simp] theorem State.setLift_ct (s : State) (c : Crane) (r : LiftRec) : (s.setLift c r).ct = s.ct := rfl
@[simp] theorem State.setLift_sev (s : State) (c : Crane) (r : LiftRec) : (s.setLift c r).sev = s.sev := rfl
@[simp] theorem State.setLift_tgt (s : State) (c : Crane) (r : LiftRec) : (s.setLift c r).tgt = s.tgt := rfl
@[simp] theorem State.setLift_lmn (s : State) (c : Crane) (r : LiftRec) : (s.setLift c r).lmn = s.lmn := rfl
@[simp] theorem State.setLift_als (s : State) (c : Crane) (r : LiftRec) : (s.setLift c r).als = s.als := rfl
@[simp] theorem State.setLift_csv (s : State) (c : Crane) (r : LiftRec) : (s.setLift c r).csv = s.csv := rfl
@[simp] theorem State.setLift_hds (s : State) (c : Crane) (r : LiftRec) : (s.setLift c r).hds = s.hds := rfl

/-! ### setHook -/

@[simp] theorem State.setHook_pending (s : State) (c : Crane) (h : Hook) : (s.setHook c h).pending = s.pending := rfl
@[simp] theorem State.setHook_phase (s : State) (c : Crane) (h : Hook) : (s.setHook c h).phase = s.phase := rfl
@[simp] theorem State.setHook_line (s : State) (c : Crane) (h : Hook) : (s.setHook c h).line = s.line := rfl
@[simp] theorem State.setHook_now (s : State) (c : Crane) (h : Hook) : (s.setHook c h).now = s.now := rfl
@[simp] theorem State.setHook_elapsed (s : State) (c : Crane) (h : Hook) : (s.setHook c h).elapsed = s.elapsed := rfl
@[simp] theorem State.setHook_sli (s : State) (c : Crane) (h : Hook) : (s.setHook c h).sli = s.sli := rfl
@[simp] theorem State.setHook_ct (s : State) (c : Crane) (h : Hook) : (s.setHook c h).ct = s.ct := rfl
@[simp] theorem State.setHook_sev (s : State) (c : Crane) (h : Hook) : (s.setHook c h).sev = s.sev := rfl
@[simp] theorem State.setHook_tgt (s : State) (c : Crane) (h : Hook) : (s.setHook c h).tgt = s.tgt := rfl
@[simp] theorem State.setHook_lmn (s : State) (c : Crane) (h : Hook) : (s.setHook c h).lmn = s.lmn := rfl
@[simp] theorem State.setHook_als (s : State) (c : Crane) (h : Hook) : (s.setHook c h).als = s.als := rfl
@[simp] theorem State.setHook_csv (s : State) (c : Crane) (h : Hook) : (s.setHook c h).csv = s.csv := rfl
@[simp] theorem State.setHook_hds (s : State) (c : Crane) (h : Hook) : (s.setHook c h).hds = s.hds := rfl

/-! ### setStopPort -/

@[simp] theorem State.setStopPort_pending (s : State) (q : Port) (v : StopPort) : (s.setStopPort q v).pending = s.pending := rfl
@[simp] theorem State.setStopPort_phase (s : State) (q : Port) (v : StopPort) : (s.setStopPort q v).phase = s.phase := rfl
@[simp] theorem State.setStopPort_line (s : State) (q : Port) (v : StopPort) : (s.setStopPort q v).line = s.line := rfl
@[simp] theorem State.setStopPort_now (s : State) (q : Port) (v : StopPort) : (s.setStopPort q v).now = s.now := rfl
@[simp] theorem State.setStopPort_elapsed (s : State) (q : Port) (v : StopPort) : (s.setStopPort q v).elapsed = s.elapsed := rfl
@[simp] theorem State.setStopPort_sli (s : State) (q : Port) (v : StopPort) : (s.setStopPort q v).sli = s.sli := rfl
@[simp] theorem State.setStopPort_ct (s : State) (q : Port) (v : StopPort) : (s.setStopPort q v).ct = s.ct := rfl
@[simp] theorem State.setStopPort_sev (s : State) (q : Port) (v : StopPort) : (s.setStopPort q v).sev = s.sev := rfl
@[simp] theorem State.setStopPort_lcu (s : State) (q : Port) (v : StopPort) : (s.setStopPort q v).lcu = s.lcu := rfl
@[simp] theorem State.setStopPort_tgt (s : State) (q : Port) (v : StopPort) : (s.setStopPort q v).tgt = s.tgt := rfl
@[simp] theorem State.setStopPort_als (s : State) (q : Port) (v : StopPort) : (s.setStopPort q v).als = s.als := rfl
@[simp] theorem State.setStopPort_csv (s : State) (q : Port) (v : StopPort) : (s.setStopPort q v).csv = s.csv := rfl
@[simp] theorem State.setStopPort_hds (s : State) (q : Port) (v : StopPort) : (s.setStopPort q v).hds = s.hds := rfl

/-! ### reach -/

@[simp] theorem State.reach_pending (s : State) (d : Nat) : (s.reach d).pending = s.pending := rfl
@[simp] theorem State.reach_phase (s : State) (d : Nat) : (s.reach d).phase = s.phase := rfl
@[simp] theorem State.reach_line (s : State) (d : Nat) : (s.reach d).line = s.line := rfl
@[simp] theorem State.reach_elapsed (s : State) (d : Nat) : (s.reach d).elapsed = s.elapsed := rfl
@[simp] theorem State.reach_sli (s : State) (d : Nat) : (s.reach d).sli = s.sli := rfl
@[simp] theorem State.reach_ct (s : State) (d : Nat) : (s.reach d).ct = s.ct := rfl
@[simp] theorem State.reach_sev (s : State) (d : Nat) : (s.reach d).sev = s.sev := rfl
@[simp] theorem State.reach_lcu (s : State) (d : Nat) : (s.reach d).lcu = s.lcu := rfl
@[simp] theorem State.reach_tgt (s : State) (d : Nat) : (s.reach d).tgt = s.tgt := rfl
@[simp] theorem State.reach_lmn (s : State) (d : Nat) : (s.reach d).lmn = s.lmn := rfl
@[simp] theorem State.reach_als (s : State) (d : Nat) : (s.reach d).als = s.als := rfl
@[simp] theorem State.reach_csv (s : State) (d : Nat) : (s.reach d).csv = s.csv := rfl
@[simp] theorem State.reach_hds (s : State) (d : Nat) : (s.reach d).hds = s.hds := rfl

/-! ### bump -/

@[simp] theorem State.bump_pending (s : State) : (s.bump).pending = s.pending := rfl
@[simp] theorem State.bump_phase (s : State) : (s.bump).phase = s.phase := rfl
@[simp] theorem State.bump_line (s : State) : (s.bump).line = s.line := rfl
@[simp] theorem State.bump_now (s : State) : (s.bump).now = s.now := rfl
@[simp] theorem State.bump_elapsed (s : State) : (s.bump).elapsed = s.elapsed := rfl
@[simp] theorem State.bump_sli (s : State) : (s.bump).sli = s.sli := rfl
@[simp] theorem State.bump_sev (s : State) : (s.bump).sev = s.sev := rfl
@[simp] theorem State.bump_lcu (s : State) : (s.bump).lcu = s.lcu := rfl
@[simp] theorem State.bump_tgt (s : State) : (s.bump).tgt = s.tgt := rfl
@[simp] theorem State.bump_lmn (s : State) : (s.bump).lmn = s.lmn := rfl
@[simp] theorem State.bump_als (s : State) : (s.bump).als = s.als := rfl
@[simp] theorem State.bump_csv (s : State) : (s.bump).csv = s.csv := rfl
@[simp] theorem State.bump_hds (s : State) : (s.bump).hds = s.hds := rfl

/-! ### bumpBy -/

@[simp] theorem State.bumpBy_pending (s : State) (n : Nat) : (s.bumpBy n).pending = s.pending := rfl
@[simp] theorem State.bumpBy_phase (s : State) (n : Nat) : (s.bumpBy n).phase = s.phase := rfl
@[simp] theorem State.bumpBy_line (s : State) (n : Nat) : (s.bumpBy n).line = s.line := rfl
@[simp] theorem State.bumpBy_now (s : State) (n : Nat) : (s.bumpBy n).now = s.now := rfl
@[simp] theorem State.bumpBy_elapsed (s : State) (n : Nat) : (s.bumpBy n).elapsed = s.elapsed := rfl
@[simp] theorem State.bumpBy_sli (s : State) (n : Nat) : (s.bumpBy n).sli = s.sli := rfl
@[simp] theorem State.bumpBy_sev (s : State) (n : Nat) : (s.bumpBy n).sev = s.sev := rfl
@[simp] theorem State.bumpBy_lcu (s : State) (n : Nat) : (s.bumpBy n).lcu = s.lcu := rfl
@[simp] theorem State.bumpBy_tgt (s : State) (n : Nat) : (s.bumpBy n).tgt = s.tgt := rfl
@[simp] theorem State.bumpBy_lmn (s : State) (n : Nat) : (s.bumpBy n).lmn = s.lmn := rfl
@[simp] theorem State.bumpBy_als (s : State) (n : Nat) : (s.bumpBy n).als = s.als := rfl
@[simp] theorem State.bumpBy_csv (s : State) (n : Nat) : (s.bumpBy n).csv = s.csv := rfl
@[simp] theorem State.bumpBy_hds (s : State) (n : Nat) : (s.bumpBy n).hds = s.hds := rfl

/-! ### onTank -/

@[simp] theorem State.onTank_pending (s : State) (a : Nat) (f : TankLive → TankLive) : (s.onTank a f).pending = s.pending := rfl
@[simp] theorem State.onTank_phase (s : State) (a : Nat) (f : TankLive → TankLive) : (s.onTank a f).phase = s.phase := rfl
@[simp] theorem State.onTank_line (s : State) (a : Nat) (f : TankLive → TankLive) : (s.onTank a f).line = s.line := rfl
@[simp] theorem State.onTank_now (s : State) (a : Nat) (f : TankLive → TankLive) : (s.onTank a f).now = s.now := rfl
@[simp] theorem State.onTank_elapsed (s : State) (a : Nat) (f : TankLive → TankLive) : (s.onTank a f).elapsed = s.elapsed := rfl
@[simp] theorem State.onTank_sli (s : State) (a : Nat) (f : TankLive → TankLive) : (s.onTank a f).sli = s.sli := rfl
@[simp] theorem State.onTank_sev (s : State) (a : Nat) (f : TankLive → TankLive) : (s.onTank a f).sev = s.sev := rfl
@[simp] theorem State.onTank_lcu (s : State) (a : Nat) (f : TankLive → TankLive) : (s.onTank a f).lcu = s.lcu := rfl
@[simp] theorem State.onTank_tgt (s : State) (a : Nat) (f : TankLive → TankLive) : (s.onTank a f).tgt = s.tgt := rfl
@[simp] theorem State.onTank_lmn (s : State) (a : Nat) (f : TankLive → TankLive) : (s.onTank a f).lmn = s.lmn := rfl
@[simp] theorem State.onTank_als (s : State) (a : Nat) (f : TankLive → TankLive) : (s.onTank a f).als = s.als := rfl
@[simp] theorem State.onTank_csv (s : State) (a : Nat) (f : TankLive → TankLive) : (s.onTank a f).csv = s.csv := rfl
@[simp] theorem State.onTank_hds (s : State) (a : Nat) (f : TankLive → TankLive) : (s.onTank a f).hds = s.hds := rfl

/-! ### onChan -/

@[simp] theorem State.onChan_pending (s : State) (ch : Nat) (f : Channel → Channel) : (s.onChan ch f).pending = s.pending := rfl
@[simp] theorem State.onChan_phase (s : State) (ch : Nat) (f : Channel → Channel) : (s.onChan ch f).phase = s.phase := rfl
@[simp] theorem State.onChan_line (s : State) (ch : Nat) (f : Channel → Channel) : (s.onChan ch f).line = s.line := rfl
@[simp] theorem State.onChan_now (s : State) (ch : Nat) (f : Channel → Channel) : (s.onChan ch f).now = s.now := rfl
@[simp] theorem State.onChan_elapsed (s : State) (ch : Nat) (f : Channel → Channel) : (s.onChan ch f).elapsed = s.elapsed := rfl
@[simp] theorem State.onChan_sli (s : State) (ch : Nat) (f : Channel → Channel) : (s.onChan ch f).sli = s.sli := rfl
@[simp] theorem State.onChan_ct (s : State) (ch : Nat) (f : Channel → Channel) : (s.onChan ch f).ct = s.ct := rfl
@[simp] theorem State.onChan_sev (s : State) (ch : Nat) (f : Channel → Channel) : (s.onChan ch f).sev = s.sev := rfl
@[simp] theorem State.onChan_lcu (s : State) (ch : Nat) (f : Channel → Channel) : (s.onChan ch f).lcu = s.lcu := rfl
@[simp] theorem State.onChan_lmn (s : State) (ch : Nat) (f : Channel → Channel) : (s.onChan ch f).lmn = s.lmn := rfl
@[simp] theorem State.onChan_als (s : State) (ch : Nat) (f : Channel → Channel) : (s.onChan ch f).als = s.als := rfl
@[simp] theorem State.onChan_csv (s : State) (ch : Nat) (f : Channel → Channel) : (s.onChan ch f).csv = s.csv := rfl
@[simp] theorem State.onChan_hds (s : State) (ch : Nat) (f : Channel → Channel) : (s.onChan ch f).hds = s.hds := rfl

/-! ### onGauge -/

@[simp] theorem State.onGauge_pending (s : State) (a : Nat) (f : TankGauge → TankGauge) : (s.onGauge a f).pending = s.pending := rfl
@[simp] theorem State.onGauge_phase (s : State) (a : Nat) (f : TankGauge → TankGauge) : (s.onGauge a f).phase = s.phase := rfl
@[simp] theorem State.onGauge_line (s : State) (a : Nat) (f : TankGauge → TankGauge) : (s.onGauge a f).line = s.line := rfl
@[simp] theorem State.onGauge_now (s : State) (a : Nat) (f : TankGauge → TankGauge) : (s.onGauge a f).now = s.now := rfl
@[simp] theorem State.onGauge_elapsed (s : State) (a : Nat) (f : TankGauge → TankGauge) : (s.onGauge a f).elapsed = s.elapsed := rfl
@[simp] theorem State.onGauge_sli (s : State) (a : Nat) (f : TankGauge → TankGauge) : (s.onGauge a f).sli = s.sli := rfl
@[simp] theorem State.onGauge_ct (s : State) (a : Nat) (f : TankGauge → TankGauge) : (s.onGauge a f).ct = s.ct := rfl
@[simp] theorem State.onGauge_sev (s : State) (a : Nat) (f : TankGauge → TankGauge) : (s.onGauge a f).sev = s.sev := rfl
@[simp] theorem State.onGauge_lcu (s : State) (a : Nat) (f : TankGauge → TankGauge) : (s.onGauge a f).lcu = s.lcu := rfl
@[simp] theorem State.onGauge_lmn (s : State) (a : Nat) (f : TankGauge → TankGauge) : (s.onGauge a f).lmn = s.lmn := rfl
@[simp] theorem State.onGauge_als (s : State) (a : Nat) (f : TankGauge → TankGauge) : (s.onGauge a f).als = s.als := rfl
@[simp] theorem State.onGauge_csv (s : State) (a : Nat) (f : TankGauge → TankGauge) : (s.onGauge a f).csv = s.csv := rfl
@[simp] theorem State.onGauge_hds (s : State) (a : Nat) (f : TankGauge → TankGauge) : (s.onGauge a f).hds = s.hds := rfl

/-! ### stowLot -/

@[simp] theorem State.stowLot_pending (s : State) (l : Lot) : (s.stowLot l).pending = s.pending := rfl
@[simp] theorem State.stowLot_phase (s : State) (l : Lot) : (s.stowLot l).phase = s.phase := rfl
@[simp] theorem State.stowLot_line (s : State) (l : Lot) : (s.stowLot l).line = s.line := rfl
@[simp] theorem State.stowLot_now (s : State) (l : Lot) : (s.stowLot l).now = s.now := rfl
@[simp] theorem State.stowLot_elapsed (s : State) (l : Lot) : (s.stowLot l).elapsed = s.elapsed := rfl
@[simp] theorem State.stowLot_sli (s : State) (l : Lot) : (s.stowLot l).sli = s.sli := rfl
@[simp] theorem State.stowLot_sev (s : State) (l : Lot) : (s.stowLot l).sev = s.sev := rfl
@[simp] theorem State.stowLot_lcu (s : State) (l : Lot) : (s.stowLot l).lcu = s.lcu := rfl
@[simp] theorem State.stowLot_tgt (s : State) (l : Lot) : (s.stowLot l).tgt = s.tgt := rfl
@[simp] theorem State.stowLot_lmn (s : State) (l : Lot) : (s.stowLot l).lmn = s.lmn := rfl
@[simp] theorem State.stowLot_als (s : State) (l : Lot) : (s.stowLot l).als = s.als := rfl
@[simp] theorem State.stowLot_csv (s : State) (l : Lot) : (s.stowLot l).csv = s.csv := rfl
@[simp] theorem State.stowLot_hds (s : State) (l : Lot) : (s.stowLot l).hds = s.hds := rfl

/-! ### jobDone -/

@[simp] theorem State.jobDone_pending (s : State) (k : JobKind) : (s.jobDone k).pending = s.pending := rfl
@[simp] theorem State.jobDone_phase (s : State) (k : JobKind) : (s.jobDone k).phase = s.phase := rfl
@[simp] theorem State.jobDone_line (s : State) (k : JobKind) : (s.jobDone k).line = s.line := rfl
@[simp] theorem State.jobDone_now (s : State) (k : JobKind) : (s.jobDone k).now = s.now := rfl
@[simp] theorem State.jobDone_elapsed (s : State) (k : JobKind) : (s.jobDone k).elapsed = s.elapsed := rfl
@[simp] theorem State.jobDone_sli (s : State) (k : JobKind) : (s.jobDone k).sli = s.sli := rfl
@[simp] theorem State.jobDone_ct (s : State) (k : JobKind) : (s.jobDone k).ct = s.ct := rfl
@[simp] theorem State.jobDone_lcu (s : State) (k : JobKind) : (s.jobDone k).lcu = s.lcu := rfl
@[simp] theorem State.jobDone_tgt (s : State) (k : JobKind) : (s.jobDone k).tgt = s.tgt := rfl
@[simp] theorem State.jobDone_lmn (s : State) (k : JobKind) : (s.jobDone k).lmn = s.lmn := rfl
@[simp] theorem State.jobDone_als (s : State) (k : JobKind) : (s.jobDone k).als = s.als := rfl
@[simp] theorem State.jobDone_csv (s : State) (k : JobKind) : (s.jobDone k).csv = s.csv := rfl
@[simp] theorem State.jobDone_hds (s : State) (k : JobKind) : (s.jobDone k).hds = s.hds := rfl

/-! ### handOff -/

@[simp] theorem State.handOff_pending (s : State) : (s.handOff).pending = s.pending := rfl
@[simp] theorem State.handOff_phase (s : State) : (s.handOff).phase = s.phase := rfl
@[simp] theorem State.handOff_line (s : State) : (s.handOff).line = s.line := rfl
@[simp] theorem State.handOff_now (s : State) : (s.handOff).now = s.now := rfl
@[simp] theorem State.handOff_elapsed (s : State) : (s.handOff).elapsed = s.elapsed := rfl
@[simp] theorem State.handOff_sli (s : State) : (s.handOff).sli = s.sli := rfl
@[simp] theorem State.handOff_ct (s : State) : (s.handOff).ct = s.ct := rfl
@[simp] theorem State.handOff_sev (s : State) : (s.handOff).sev = s.sev := rfl
@[simp] theorem State.handOff_tgt (s : State) : (s.handOff).tgt = s.tgt := rfl
@[simp] theorem State.handOff_lmn (s : State) : (s.handOff).lmn = s.lmn := rfl
@[simp] theorem State.handOff_als (s : State) : (s.handOff).als = s.als := rfl
@[simp] theorem State.handOff_csv (s : State) : (s.handOff).csv = s.csv := rfl
@[simp] theorem State.handOff_hds (s : State) : (s.handOff).hds = s.hds := rfl

/-! ### sweepOn -/

@[simp] theorem State.sweepOn_pending (s : State) (l : List Nat) (r : Nat) : (s.sweepOn l r).pending = s.pending := rfl
@[simp] theorem State.sweepOn_phase (s : State) (l : List Nat) (r : Nat) : (s.sweepOn l r).phase = s.phase := rfl
@[simp] theorem State.sweepOn_line (s : State) (l : List Nat) (r : Nat) : (s.sweepOn l r).line = s.line := rfl
@[simp] theorem State.sweepOn_now (s : State) (l : List Nat) (r : Nat) : (s.sweepOn l r).now = s.now := rfl
@[simp] theorem State.sweepOn_elapsed (s : State) (l : List Nat) (r : Nat) : (s.sweepOn l r).elapsed = s.elapsed := rfl
@[simp] theorem State.sweepOn_sli (s : State) (l : List Nat) (r : Nat) : (s.sweepOn l r).sli = s.sli := rfl
@[simp] theorem State.sweepOn_ct (s : State) (l : List Nat) (r : Nat) : (s.sweepOn l r).ct = s.ct := rfl
@[simp] theorem State.sweepOn_sev (s : State) (l : List Nat) (r : Nat) : (s.sweepOn l r).sev = s.sev := rfl
@[simp] theorem State.sweepOn_lcu (s : State) (l : List Nat) (r : Nat) : (s.sweepOn l r).lcu = s.lcu := rfl
@[simp] theorem State.sweepOn_lmn (s : State) (l : List Nat) (r : Nat) : (s.sweepOn l r).lmn = s.lmn := rfl
@[simp] theorem State.sweepOn_als (s : State) (l : List Nat) (r : Nat) : (s.sweepOn l r).als = s.als := rfl
@[simp] theorem State.sweepOn_csv (s : State) (l : List Nat) (r : Nat) : (s.sweepOn l r).csv = s.csv := rfl
@[simp] theorem State.sweepOn_hds (s : State) (l : List Nat) (r : Nat) : (s.sweepOn l r).hds = s.hds := rfl

/-! ### placeOrder -/

@[simp] theorem State.placeOrder_pending (s : State) (q : Port) (o : Order) : (s.placeOrder q o).pending = s.pending := rfl
@[simp] theorem State.placeOrder_phase (s : State) (q : Port) (o : Order) : (s.placeOrder q o).phase = s.phase := rfl
@[simp] theorem State.placeOrder_line (s : State) (q : Port) (o : Order) : (s.placeOrder q o).line = s.line := rfl
@[simp] theorem State.placeOrder_now (s : State) (q : Port) (o : Order) : (s.placeOrder q o).now = s.now := rfl
@[simp] theorem State.placeOrder_elapsed (s : State) (q : Port) (o : Order) : (s.placeOrder q o).elapsed = s.elapsed := rfl
@[simp] theorem State.placeOrder_ct (s : State) (q : Port) (o : Order) : (s.placeOrder q o).ct = s.ct := rfl
@[simp] theorem State.placeOrder_sev (s : State) (q : Port) (o : Order) : (s.placeOrder q o).sev = s.sev := rfl
@[simp] theorem State.placeOrder_lcu (s : State) (q : Port) (o : Order) : (s.placeOrder q o).lcu = s.lcu := rfl
@[simp] theorem State.placeOrder_tgt (s : State) (q : Port) (o : Order) : (s.placeOrder q o).tgt = s.tgt := rfl
@[simp] theorem State.placeOrder_lmn (s : State) (q : Port) (o : Order) : (s.placeOrder q o).lmn = s.lmn := rfl
@[simp] theorem State.placeOrder_als (s : State) (q : Port) (o : Order) : (s.placeOrder q o).als = s.als := rfl
@[simp] theorem State.placeOrder_csv (s : State) (q : Port) (o : Order) : (s.placeOrder q o).csv = s.csv := rfl
@[simp] theorem State.placeOrder_hds (s : State) (q : Port) (o : Order) : (s.placeOrder q o).hds = s.hds := rfl

/-! ### offer -/

@[simp] theorem State.offer_pending (s : State) (q : Port) (m : OutMsg) : (s.offer q m).pending = s.pending := rfl
@[simp] theorem State.offer_phase (s : State) (q : Port) (m : OutMsg) : (s.offer q m).phase = s.phase := rfl
@[simp] theorem State.offer_line (s : State) (q : Port) (m : OutMsg) : (s.offer q m).line = s.line := rfl
@[simp] theorem State.offer_now (s : State) (q : Port) (m : OutMsg) : (s.offer q m).now = s.now := rfl
@[simp] theorem State.offer_elapsed (s : State) (q : Port) (m : OutMsg) : (s.offer q m).elapsed = s.elapsed := rfl
@[simp] theorem State.offer_ct (s : State) (q : Port) (m : OutMsg) : (s.offer q m).ct = s.ct := rfl
@[simp] theorem State.offer_sev (s : State) (q : Port) (m : OutMsg) : (s.offer q m).sev = s.sev := rfl
@[simp] theorem State.offer_lcu (s : State) (q : Port) (m : OutMsg) : (s.offer q m).lcu = s.lcu := rfl
@[simp] theorem State.offer_tgt (s : State) (q : Port) (m : OutMsg) : (s.offer q m).tgt = s.tgt := rfl
@[simp] theorem State.offer_lmn (s : State) (q : Port) (m : OutMsg) : (s.offer q m).lmn = s.lmn := rfl
@[simp] theorem State.offer_als (s : State) (q : Port) (m : OutMsg) : (s.offer q m).als = s.als := rfl
@[simp] theorem State.offer_csv (s : State) (q : Port) (m : OutMsg) : (s.offer q m).csv = s.csv := rfl
@[simp] theorem State.offer_hds (s : State) (q : Port) (m : OutMsg) : (s.offer q m).hds = s.hds := rfl

/-! ### pull -/

@[simp] theorem State.pull_pending (s : State) (q : Port) : (s.pull q).pending = s.pending := rfl
@[simp] theorem State.pull_phase (s : State) (q : Port) : (s.pull q).phase = s.phase := rfl
@[simp] theorem State.pull_line (s : State) (q : Port) : (s.pull q).line = s.line := rfl
@[simp] theorem State.pull_now (s : State) (q : Port) : (s.pull q).now = s.now := rfl
@[simp] theorem State.pull_elapsed (s : State) (q : Port) : (s.pull q).elapsed = s.elapsed := rfl
@[simp] theorem State.pull_ct (s : State) (q : Port) : (s.pull q).ct = s.ct := rfl
@[simp] theorem State.pull_sev (s : State) (q : Port) : (s.pull q).sev = s.sev := rfl
@[simp] theorem State.pull_lcu (s : State) (q : Port) : (s.pull q).lcu = s.lcu := rfl
@[simp] theorem State.pull_tgt (s : State) (q : Port) : (s.pull q).tgt = s.tgt := rfl
@[simp] theorem State.pull_lmn (s : State) (q : Port) : (s.pull q).lmn = s.lmn := rfl
@[simp] theorem State.pull_als (s : State) (q : Port) : (s.pull q).als = s.als := rfl
@[simp] theorem State.pull_csv (s : State) (q : Port) : (s.pull q).csv = s.csv := rfl
@[simp] theorem State.pull_hds (s : State) (q : Port) : (s.pull q).hds = s.hds := rfl

end Sys2Proof.Machine
end

