-- ==== Sys2Proof/Laws/Fields.lean ====
section
/-!
SUPPORT. The fields of a payload read back what was written into them (R179): an unsigned field its value, a signed one
its two's complement value, in any width, wherever the field stands.
-/

namespace Sys2Proof.Machine

@[simp] theorem octets_length (n : Nat) (v : Int) : (octets n v).length = n := by simp [octets]

@[simp] theorem octetsN_length (n v : Nat) : (octetsN n v).length = n := by simp [octetsN]

@[simp] theorem posOctets_length (q : Pos) : (posOctets q).length = 9 := by simp [posOctets]

@[simp] theorem ptOctets_length (q : Pt) : (ptOctets q).length = 6 := by simp [ptOctets]

theorem octets_succ (n : Nat) (v : Int) : octets (n + 1) v = BitVec.ofInt 8 (v / 256 ^ n) :: octets n v := by
  unfold octets
  rw [List.range_succ_eq_map, List.map_cons, List.map_map]
  refine congrArg₂ _ (by simp) (List.map_congr_left fun i _ => ?_)
  simp only [Function.comp_apply]
  congr 3
  omega

/-- The value of a big-endian field written from an integer: the integer modulo the field's range. -/
theorem foldl_octets (n : Nat) (v : Int) (acc : Nat) :
    (octets n v).foldl (fun acc o => acc * 256 + o.toNat) acc = acc * 256 ^ n + (v % 256 ^ n).toNat := by
  induction n generalizing acc with
  | zero => simp [octets]
  | succ n ih =>
    rw [octets_succ, List.foldl_cons, ih, BitVec.toNat_ofInt]
    have hp : (0 : Int) < 256 ^ n := by positivity
    have hdm := Int.emod_add_mul_ediv v (256 ^ n)
    have hdd := Int.emod_add_mul_ediv (v / 256 ^ n) 256
    have h1 : 0 ≤ v / 256 ^ n % 256 := Int.emod_nonneg _ (by norm_num)
    have h2 : 0 ≤ v % 256 ^ n := Int.emod_nonneg _ (by omega)
    have h1' : v / 256 ^ n % 256 < 256 := Int.emod_lt_of_pos _ (by norm_num)
    have h2' : v % 256 ^ n < 256 ^ n := Int.emod_lt_of_pos _ hp
    have key : v % 256 ^ (n + 1) = v / 256 ^ n % 256 * 256 ^ n + v % 256 ^ n := by
      have hv : v = v / 256 ^ n % 256 * 256 ^ n + v % 256 ^ n + 256 ^ (n + 1) * (v / 256 ^ n / 256) := by
        rw [pow_succ]
        have e : v / 256 ^ n = v / 256 ^ n % 256 + 256 * (v / 256 ^ n / 256) := hdd.symm
        have e2 : v = v % 256 ^ n + 256 ^ n * (v / 256 ^ n) := hdm.symm
        conv_lhs => rw [e2]
        conv_lhs => rw [e]
        ring
      conv_lhs => rw [hv]
      rw [Int.add_mul_emod_self_left]
      refine Int.emod_eq_of_lt (by positivity) ?_
      rw [pow_succ]
      nlinarith
    rw [key, Int.toNat_add (by positivity) h2, Int.toNat_mul h1 (by positivity)]
    have : ((256 : Int) ^ n).toNat = 256 ^ n := by
      rw [show (256 : Int) ^ n = ((256 ^ n : Nat) : Int) by push_cast; rfl, Int.toNat_natCast]
    rw [this]
    norm_num
    ring

/-- A field that stands behind other octets. -/
theorem field_append_right (a b : List Byte) (off n : Nat) (h : a.length ≤ off) :
    field (a ++ b) off n = field b (off - a.length) n := by
  unfold field
  rw [List.drop_append, List.drop_eq_nil_of_le h, List.nil_append]

/-- A field at the front of a payload that ends with it. -/
theorem field_octets (n : Nat) (v : Int) (h0 : 0 ≤ v) (h : v < 256 ^ n) : field (octets n v) 0 n = v.toNat := by
  unfold field
  rw [List.drop_zero, List.take_of_length_le (by simp), foldl_octets, Int.emod_eq_of_lt h0 h]
  simp

/-- A field at the front of a payload. -/
theorem field_octets_append (n : Nat) (v : Int) (b : List Byte) (h0 : 0 ≤ v) (h : v < 256 ^ n) :
    field (octets n v ++ b) 0 n = v.toNat := by
  unfold field
  rw [List.drop_zero, List.take_left' (by simp), foldl_octets, Int.emod_eq_of_lt h0 h]
  simp

theorem field_octetsN (n v : Nat) (h : v < 256 ^ n) : field (octetsN n v) 0 n = v := by
  have := field_octets n v (by omega) (by exact_mod_cast h)
  simpa [octetsN] using this

theorem field_octetsN_append (n v : Nat) (b : List Byte) (h : v < 256 ^ n) : field (octetsN n v ++ b) 0 n = v := by
  have := field_octets_append n v b (by omega) (by exact_mod_cast h)
  simpa [octetsN] using this

/-- An unsigned three-octet field reads back its value. -/
theorem fieldU_octets (v : Int) (b : List Byte) (h : weightOnWire v) : fieldU (octets 3 v ++ b) 0 3 = v := by
  unfold fieldU
  rw [field_octets_append 3 v b h.1 (by have := h.2; norm_num; omega)]
  exact Int.toNat_of_nonneg h.1

/-- A signed three-octet field reads back its value. -/
theorem fieldS_octets (v : Int) (b : List Byte) (h0 : -8388608 ≤ v) (h : v < 8388608) :
    fieldS (octets 3 v ++ b) 0 3 = v := by
  have key : fieldU (octets 3 v ++ b) 0 3 = v % 16777216 := by
    unfold fieldU field
    rw [List.drop_zero, List.take_left' (by simp), foldl_octets]
    norm_num
    omega
  unfold fieldS
  simp only [key]
  norm_num
  split <;> omega

theorem fieldU_append_right (a b : List Byte) (off n : Nat) (h : a.length ≤ off) :
    fieldU (a ++ b) off n = fieldU b (off - a.length) n := by rw [fieldU, field_append_right a b off n h, fieldU]

theorem fieldS_append_right (a b : List Byte) (off n : Nat) (h : a.length ≤ off) :
    fieldS (a ++ b) off n = fieldS b (off - a.length) n := by
  simp only [fieldS, fieldU_append_right a b off n h]

theorem fieldPos_append_right (a b : List Byte) (off : Nat) (h : a.length ≤ off) :
    fieldPos (a ++ b) off = fieldPos b (off - a.length) := by
  unfold fieldPos
  rw [fieldU_append_right a b off 3 h, fieldS_append_right a b (off + 3) 3 (by omega),
    fieldU_append_right a b (off + 6) 3 (by omega), show off + 3 - a.length = off - a.length + 3 by omega,
    show off + 6 - a.length = off - a.length + 6 by omega]

theorem fieldPt_append_right (a b : List Byte) (off : Nat) (h : a.length ≤ off) :
    fieldPt (a ++ b) off = fieldPt b (off - a.length) := by
  unfold fieldPt
  rw [fieldU_append_right a b off 3 h, fieldS_append_right a b (off + 3) 3 (by omega),
    show off + 3 - a.length = off - a.length + 3 by omega]

/-- A point reads back. -/
theorem fieldPt_ptOctets (q : Pt) (b : List Byte) (h : q.onWire) : fieldPt (ptOctets q ++ b) 0 = q := by
  unfold fieldPt ptOctets
  rw [List.append_assoc, fieldU_octets _ _ h.1, fieldS_append_right _ _ _ _ (by simp)]
  simp only [octets_length]
  rw [fieldS_octets _ _ h.2.1 h.2.2]

/-- A position reads back. -/
theorem fieldPos_posOctets (q : Pos) (b : List Byte) (h : q.onWire) : fieldPos (posOctets q ++ b) 0 = q := by
  unfold fieldPos posOctets
  rw [List.append_assoc, List.append_assoc, fieldU_octets _ _ h.1, fieldS_append_right _ _ _ _ (by simp),
    fieldU_append_right _ _ _ _ (by simp)]
  simp only [octets_length]
  rw [fieldS_octets _ _ h.2.1.1 h.2.1.2, fieldU_append_right _ _ _ _ (by simp)]
  simp only [octets_length]
  rw [fieldU_octets _ _ h.2.2]

/-- A position at the end of a payload reads back. -/
theorem fieldPos_posOctets_end (q : Pos) (h : q.onWire) : fieldPos (posOctets q) 0 = q := by
  have := fieldPos_posOctets q [] h
  simpa using this

/-- A point at the end of a payload reads back. -/
theorem fieldPt_ptOctets_end (q : Pt) (h : q.onWire) : fieldPt (ptOctets q) 0 = q := by
  have := fieldPt_ptOctets q [] h
  simpa using this

/-- Three octets at the end of a payload read back. -/
theorem fieldU_octets_end (v : Int) (h : weightOnWire v) : fieldU (octets 3 v) 0 3 = v := by
  have := fieldU_octets v [] h
  simpa using this

/-! ### Address octets (R5) -/

theorem notAddress_eq {a : Nat} (h : a < 256) : notAddress a = decide (128 ≤ a ∧ a ≠ 254) := by
  unfold notAddress badOctet
  rw [← Bool.decide_or]
  exact decide_eq_decide.mpr (by omega)

/-- R5's check of an octet where an address is required and neither QUAY nor SEA has a meaning. -/
theorem addressCode_eq {a : Nat} (h : a < 256) :
    addressCode a = if 128 ≤ a ∧ a ≠ 254 then some .badField else if a = 254 then some .badSpace else none := by
  unfold addressCode
  rw [notAddress_eq h]
  simp

end Sys2Proof.Machine
end

