-- ==== Sys2Proof/Laws/Frames.lean ====
section
/-!
SUPPORT. What taking a frame does, said once (R80, R173, R174): a frame of the kind, with a length its kind requires, is
handled and answered; every other frame leaves the state as it was, or is answered BAD_FIELD.
-/

namespace Sys2Proof.Machine

theorem State.canTake_of_takes {s : State} {q : Port} {k : Byte} {p : List Byte} (h : s.takes q k p) :
    s.canTake q = true := by
  obtain ⟨h1, h2, h3, -, h5⟩ := h
  unfold State.canTake Link.hasRoom
  by_cases hq : q = .p
  · subst hq; simp [h1, h2, h3 rfl, h5]
  · simp [h1, h2, hq, h5]

theorem State.head_of_takes {s : State} {q : Port} {k : Byte} {p : List Byte} (h : s.takes q k p) :
    s.head q = some ⟨k, p⟩ := by
  rw [State.head, State.canTake_of_takes h, if_pos rfl]
  exact h.2.2.2.1

/-- A frame that is taken, its length one that its kind requires. -/
theorem serve_takes {s : State} {q : Port} {k : Byte} {p : List Byte} {handle : List Byte → State → State × Reply}
    (h : s.takes q k p) (hl : lengthOk k p = true) :
    serve q k handle s = (handle p (s.pull q)).1.answer q (handle p (s.pull q)).2 := by
  simp [serve, State.head_of_takes h, hl]

/-- A frame that is taken with a length that its kind does not require (R173). -/
theorem serve_badLength {s : State} {q : Port} {k : Byte} {p : List Byte} {handle : List Byte → State → State × Reply}
    (h : s.takes q k p) (hl : lengthOk k p = false) :
    serve q k handle s = (s.pull q).answer q (refuse k .badField) := by
  simp [serve, State.head_of_takes h, hl]

/-- All that the taking of a frame can do: nothing, a BAD_FIELD refusal, or the handling of a frame of the kind. -/
theorem serve_cases (q : Port) (k : Byte) (handle : List Byte → State → State × Reply) (s : State) :
    serve q k handle s = s ∨
      (∃ p, s.head q = some ⟨k, p⟩ ∧ lengthOk k p = false ∧
        serve q k handle s = (s.pull q).answer q (refuse k .badField)) ∨
      ∃ p, s.head q = some ⟨k, p⟩ ∧ lengthOk k p = true ∧
        serve q k handle s = (handle p (s.pull q)).1.answer q (handle p (s.pull q)).2 := by
  unfold serve
  rcases hh : s.head q with _ | ⟨k', p⟩
  · exact .inl rfl
  · by_cases hk : k' = k
    · subst hk
      rcases hl : lengthOk k' p with _ | _
      · exact .inr (.inl ⟨p, rfl, hl, by simp [hl]⟩)
      · exact .inr (.inr ⟨p, rfl, hl, by simp [hl]⟩)
    · exact .inl (by simp [hk])

/-- A frame answered with nothing else done: the frame is gone and its reply is in the queue (R174). -/
theorem State.answer_pull (s : State) (q : Port) (m : OutMsg) : (s.pull q).answer q (.say m) = s.replied q m := by
  simp [State.answer, State.pull, State.replied, Link.release, Link.put]

/-- A crane's port takes a frame of a defined crane. -/
theorem serveCrane_takes {s : State} {c : Crane} {k : Byte} {p : List Byte}
    {handle : List Byte → State → State × Reply} (h : s.takesAt c k p) (hl : lengthOk k p = true) :
    serveCrane c k handle s =
      (handle p (s.pull (portOf c))).1.answer (portOf c) (handle p (s.pull (portOf c))).2 := by
  have hd : ((s.pull (portOf c)).tables.crane c).isNone = false := by
    have := h.2
    simpa [State.pull, Option.isSome_iff_ne_none] using this
  rw [serveCrane, serve_takes h.1 hl]
  simp [hd]

/-- A crane's port takes a frame that only an unpaired or lower port serves (R106). -/
theorem serveLift_takes {s : State} {c : Crane} {k : Byte} {p : List Byte}
    {handle : List Byte → State → State × Reply} (h : s.takesAt c k p) (hl : lengthOk k p = true)
    (hu : s.upperPaired c = false) :
    serveLift c k handle s =
      (handle p (s.pull (portOf c))).1.answer (portOf c) (handle p (s.pull (portOf c))).2 := by
  have hu' : (s.pull (portOf c)).upperPaired c = false := hu
  rw [serveLift, serveCrane_takes h hl]
  simp [hu']

/-- The newest message of a port that has just been given one. -/
theorem Link.newest_put (l : Link) (m : OutMsg) : (l.put m).newest = some m := by
  unfold Link.put Link.start Link.newest
  rcases hs : l.sending with _ | tx
  · rcases ho : l.slot with _ | o
    · rcases hq : l.queue with _ | ⟨a, rest⟩ <;> simp
    · simp
  · simp

end Sys2Proof.Machine
end

