-- ==== Sys2Proof/Laws/Alarms.lean ====
section
/-!
SUPPORT. What a change of the alarm list touches: the list itself, and port P's link, where its notices go (R157). Every
other field of the state, and every other port, is left as it was.
-/

namespace Sys2Proof.Machine

/-- Notices change port P's link and nothing else. -/
theorem State.notify_eq (s : State) (l : List Notice) : s.notify l = s.setLink .p ((s.notify l).link .p) := by
  induction l generalizing s with
  | nil => simp [State.notify]
  | cons n rest ih =>
    rw [State.notify, ih]
    simp [State.offer]

/-- A change of the alarm list touches the list and port P's link. -/
theorem State.alarm_eq (s : State) (r : Als × List Notice) :
    s.alarm r = { s.setLink .p ((s.alarm r).link .p) with als := r.1 } := by
  unfold State.alarm
  rw [State.notify_eq]
  simp [State.setLink, State.link]

theorem State.raise_eq (s : State) (k : AlarmKey) :
    s.raise k = { s.setLink .p ((s.raise k).link .p) with als := (s.raise k).als } := by
  unfold State.raise
  rw [State.alarm_eq]; simp [State.link, State.setLink]

theorem State.clear_eq (s : State) (k : AlarmKey) :
    s.clear k = { s.setLink .p ((s.clear k).link .p) with als := (s.clear k).als } := by
  unfold State.clear
  split
  · rw [State.alarm_eq]; simp [State.link, State.setLink]
  · simp

theorem State.event_eq (s : State) (k : AlarmKey) :
    s.event k = { s.setLink .p ((s.event k).link .p) with als := (s.event k).als } := by
  unfold State.event
  rw [State.alarm_eq]; simp [State.link, State.setLink]

theorem State.judge_eq (s : State) (k : AlarmKey) (b : Bool) :
    s.judge k b = { s.setLink .p ((s.judge k b).link .p) with als := (s.judge k b).als } := by
  unfold State.judge
  split
  · exact s.raise_eq k
  · exact s.clear_eq k

theorem State.keep_eq (s : State) (k : AlarmKey) (b : Bool) :
    s.keep k b = { s.setLink .p ((s.keep k b).link .p) with als := (s.keep k b).als } := by
  unfold State.keep
  split
  · split
    · simp
    · exact s.raise_eq k
  · exact s.clear_eq k

/-! ### raise -/

@[simp] theorem State.raise_pending (s : State) (k : AlarmKey) : (s.raise k).pending = s.pending := by rw [s.raise_eq k]; rfl
@[simp] theorem State.raise_phase (s : State) (k : AlarmKey) : (s.raise k).phase = s.phase := by rw [s.raise_eq k]; rfl
@[simp] theorem State.raise_line (s : State) (k : AlarmKey) : (s.raise k).line = s.line := by rw [s.raise_eq k]; rfl
@[simp] theorem State.raise_now (s : State) (k : AlarmKey) : (s.raise k).now = s.now := by rw [s.raise_eq k]; rfl
@[simp] theorem State.raise_elapsed (s : State) (k : AlarmKey) : (s.raise k).elapsed = s.elapsed := by rw [s.raise_eq k]; rfl
@[simp] theorem State.raise_ct (s : State) (k : AlarmKey) : (s.raise k).ct = s.ct := by rw [s.raise_eq k]; rfl
@[simp] theorem State.raise_sev (s : State) (k : AlarmKey) : (s.raise k).sev = s.sev := by rw [s.raise_eq k]; rfl
@[simp] theorem State.raise_lcu (s : State) (k : AlarmKey) : (s.raise k).lcu = s.lcu := by rw [s.raise_eq k]; rfl
@[simp] theorem State.raise_tgt (s : State) (k : AlarmKey) : (s.raise k).tgt = s.tgt := by rw [s.raise_eq k]; rfl
@[simp] theorem State.raise_lmn (s : State) (k : AlarmKey) : (s.raise k).lmn = s.lmn := by rw [s.raise_eq k]; rfl
@[simp] theorem State.raise_csv (s : State) (k : AlarmKey) : (s.raise k).csv = s.csv := by rw [s.raise_eq k]; rfl
@[simp] theorem State.raise_hds (s : State) (k : AlarmKey) : (s.raise k).hds = s.hds := by rw [s.raise_eq k]; rfl
@[simp] theorem State.raise_summary (s : State) (k : AlarmKey) : (s.raise k).sli.summary = s.sli.summary := by
  rw [s.raise_eq k]; rfl
@[simp] theorem State.raise_lift (s : State) (k : AlarmKey) (c : Crane) : (s.raise k).lift c = s.lift c := by
  rw [s.raise_eq k]; rfl
@[simp] theorem State.raise_hook (s : State) (k : AlarmKey) (c : Crane) : (s.raise k).hook c = s.hook c := by
  rw [s.raise_eq k]; rfl
@[simp] theorem State.raise_stopPort (s : State) (k : AlarmKey) (q : Port) : (s.raise k).stopPort q = s.stopPort q := by
  rw [s.raise_eq k]; rfl
@[simp] theorem State.raise_tables (s : State) (k : AlarmKey) : (s.raise k).tables = s.tables := by rw [s.raise_eq k]; rfl
@[simp] theorem State.raise_settings (s : State) (k : AlarmKey) : (s.raise k).settings = s.settings := by rw [s.raise_eq k]; rfl
theorem State.raise_link (s : State) (k : AlarmKey) (q : Port) (h : q ≠ .p) : (s.raise k).link q = s.link q := by
  rw [s.raise_eq k]; cases q <;> first | rfl | exact absurd rfl h

/-! ### clear -/

@[simp] theorem State.clear_pending (s : State) (k : AlarmKey) : (s.clear k).pending = s.pending := by rw [s.clear_eq k]; rfl
@[simp] theorem State.clear_phase (s : State) (k : AlarmKey) : (s.clear k).phase = s.phase := by rw [s.clear_eq k]; rfl
@[simp] theorem State.clear_line (s : State) (k : AlarmKey) : (s.clear k).line = s.line := by rw [s.clear_eq k]; rfl
@[simp] theorem State.clear_now (s : State) (k : AlarmKey) : (s.clear k).now = s.now := by rw [s.clear_eq k]; rfl
@[simp] theorem State.clear_elapsed (s : State) (k : AlarmKey) : (s.clear k).elapsed = s.elapsed := by rw [s.clear_eq k]; rfl
@[simp] theorem State.clear_ct (s : State) (k : AlarmKey) : (s.clear k).ct = s.ct := by rw [s.clear_eq k]; rfl
@[simp] theorem State.clear_sev (s : State) (k : AlarmKey) : (s.clear k).sev = s.sev := by rw [s.clear_eq k]; rfl
@[simp] theorem State.clear_lcu (s : State) (k : AlarmKey) : (s.clear k).lcu = s.lcu := by rw [s.clear_eq k]; rfl
@[simp] theorem State.clear_tgt (s : State) (k : AlarmKey) : (s.clear k).tgt = s.tgt := by rw [s.clear_eq k]; rfl
@[simp] theorem State.clear_lmn (s : State) (k : AlarmKey) : (s.clear k).lmn = s.lmn := by rw [s.clear_eq k]; rfl
@[simp] theorem State.clear_csv (s : State) (k : AlarmKey) : (s.clear k).csv = s.csv := by rw [s.clear_eq k]; rfl
@[simp] theorem State.clear_hds (s : State) (k : AlarmKey) : (s.clear k).hds = s.hds := by rw [s.clear_eq k]; rfl
@[simp] theorem State.clear_summary (s : State) (k : AlarmKey) : (s.clear k).sli.summary = s.sli.summary := by
  rw [s.clear_eq k]; rfl
@[simp] theorem State.clear_lift (s : State) (k : AlarmKey) (c : Crane) : (s.clear k).lift c = s.lift c := by
  rw [s.clear_eq k]; rfl
@[simp] theorem State.clear_hook (s : State) (k : AlarmKey) (c : Crane) : (s.clear k).hook c = s.hook c := by
  rw [s.clear_eq k]; rfl
@[simp] theorem State.clear_stopPort (s : State) (k : AlarmKey) (q : Port) : (s.clear k).stopPort q = s.stopPort q := by
  rw [s.clear_eq k]; rfl
@[simp] theorem State.clear_tables (s : State) (k : AlarmKey) : (s.clear k).tables = s.tables := by rw [s.clear_eq k]; rfl
@[simp] theorem State.clear_settings (s : State) (k : AlarmKey) : (s.clear k).settings = s.settings := by rw [s.clear_eq k]; rfl
theorem State.clear_link (s : State) (k : AlarmKey) (q : Port) (h : q ≠ .p) : (s.clear k).link q = s.link q := by
  rw [s.clear_eq k]; cases q <;> first | rfl | exact absurd rfl h

/-! ### event -/

@[simp] theorem State.event_pending (s : State) (k : AlarmKey) : (s.event k).pending = s.pending := by rw [s.event_eq k]; rfl
@[simp] theorem State.event_phase (s : State) (k : AlarmKey) : (s.event k).phase = s.phase := by rw [s.event_eq k]; rfl
@[simp] theorem State.event_line (s : State) (k : AlarmKey) : (s.event k).line = s.line := by rw [s.event_eq k]; rfl
@[simp] theorem State.event_now (s : State) (k : AlarmKey) : (s.event k).now = s.now := by rw [s.event_eq k]; rfl
@[simp] theorem State.event_elapsed (s : State) (k : AlarmKey) : (s.event k).elapsed = s.elapsed := by rw [s.event_eq k]; rfl
@[simp] theorem State.event_ct (s : State) (k : AlarmKey) : (s.event k).ct = s.ct := by rw [s.event_eq k]; rfl
@[simp] theorem State.event_sev (s : State) (k : AlarmKey) : (s.event k).sev = s.sev := by rw [s.event_eq k]; rfl
@[simp] theorem State.event_lcu (s : State) (k : AlarmKey) : (s.event k).lcu = s.lcu := by rw [s.event_eq k]; rfl
@[simp] theorem State.event_tgt (s : State) (k : AlarmKey) : (s.event k).tgt = s.tgt := by rw [s.event_eq k]; rfl
@[simp] theorem State.event_lmn (s : State) (k : AlarmKey) : (s.event k).lmn = s.lmn := by rw [s.event_eq k]; rfl
@[simp] theorem State.event_csv (s : State) (k : AlarmKey) : (s.event k).csv = s.csv := by rw [s.event_eq k]; rfl
@[simp] theorem State.event_hds (s : State) (k : AlarmKey) : (s.event k).hds = s.hds := by rw [s.event_eq k]; rfl
@[simp] theorem State.event_summary (s : State) (k : AlarmKey) : (s.event k).sli.summary = s.sli.summary := by
  rw [s.event_eq k]; rfl
@[simp] theorem State.event_lift (s : State) (k : AlarmKey) (c : Crane) : (s.event k).lift c = s.lift c := by
  rw [s.event_eq k]; rfl
@[simp] theorem State.event_hook (s : State) (k : AlarmKey) (c : Crane) : (s.event k).hook c = s.hook c := by
  rw [s.event_eq k]; rfl
@[simp] theorem State.event_stopPort (s : State) (k : AlarmKey) (q : Port) : (s.event k).stopPort q = s.stopPort q := by
  rw [s.event_eq k]; rfl
@[simp] theorem State.event_tables (s : State) (k : AlarmKey) : (s.event k).tables = s.tables := by rw [s.event_eq k]; rfl
@[simp] theorem State.event_settings (s : State) (k : AlarmKey) : (s.event k).settings = s.settings := by rw [s.event_eq k]; rfl
theorem State.event_link (s : State) (k : AlarmKey) (q : Port) (h : q ≠ .p) : (s.event k).link q = s.link q := by
  rw [s.event_eq k]; cases q <;> first | rfl | exact absurd rfl h

/-! ### judge -/

@[simp] theorem State.judge_pending (s : State) (k : AlarmKey) (b : Bool) : (s.judge k b).pending = s.pending := by rw [s.judge_eq k b]; rfl
@[simp] theorem State.judge_phase (s : State) (k : AlarmKey) (b : Bool) : (s.judge k b).phase = s.phase := by rw [s.judge_eq k b]; rfl
@[simp] theorem State.judge_line (s : State) (k : AlarmKey) (b : Bool) : (s.judge k b).line = s.line := by rw [s.judge_eq k b]; rfl
@[simp] theorem State.judge_now (s : State) (k : AlarmKey) (b : Bool) : (s.judge k b).now = s.now := by rw [s.judge_eq k b]; rfl
@[simp] theorem State.judge_elapsed (s : State) (k : AlarmKey) (b : Bool) : (s.judge k b).elapsed = s.elapsed := by rw [s.judge_eq k b]; rfl
@[simp] theorem State.judge_ct (s : State) (k : AlarmKey) (b : Bool) : (s.judge k b).ct = s.ct := by rw [s.judge_eq k b]; rfl
@[simp] theorem State.judge_sev (s : State) (k : AlarmKey) (b : Bool) : (s.judge k b).sev = s.sev := by rw [s.judge_eq k b]; rfl
@[simp] theorem State.judge_lcu (s : State) (k : AlarmKey) (b : Bool) : (s.judge k b).lcu = s.lcu := by rw [s.judge_eq k b]; rfl
@[simp] theorem State.judge_tgt (s : State) (k : AlarmKey) (b : Bool) : (s.judge k b).tgt = s.tgt := by rw [s.judge_eq k b]; rfl
@[simp] theorem State.judge_lmn (s : State) (k : AlarmKey) (b : Bool) : (s.judge k b).lmn = s.lmn := by rw [s.judge_eq k b]; rfl
@[simp] theorem State.judge_csv (s : State) (k : AlarmKey) (b : Bool) : (s.judge k b).csv = s.csv := by rw [s.judge_eq k b]; rfl
@[simp] theorem State.judge_hds (s : State) (k : AlarmKey) (b : Bool) : (s.judge k b).hds = s.hds := by rw [s.judge_eq k b]; rfl
@[simp] theorem State.judge_summary (s : State) (k : AlarmKey) (b : Bool) : (s.judge k b).sli.summary = s.sli.summary := by
  rw [s.judge_eq k b]; rfl
@[simp] theorem State.judge_lift (s : State) (k : AlarmKey) (b : Bool) (c : Crane) : (s.judge k b).lift c = s.lift c := by
  rw [s.judge_eq k b]; rfl
@[simp] theorem State.judge_hook (s : State) (k : AlarmKey) (b : Bool) (c : Crane) : (s.judge k b).hook c = s.hook c := by
  rw [s.judge_eq k b]; rfl
@[simp] theorem State.judge_stopPort (s : State) (k : AlarmKey) (b : Bool) (q : Port) : (s.judge k b).stopPort q = s.stopPort q := by
  rw [s.judge_eq k b]; rfl
@[simp] theorem State.judge_tables (s : State) (k : AlarmKey) (b : Bool) : (s.judge k b).tables = s.tables := by rw [s.judge_eq k b]; rfl
@[simp] theorem State.judge_settings (s : State) (k : AlarmKey) (b : Bool) : (s.judge k b).settings = s.settings := by rw [s.judge_eq k b]; rfl
theorem State.judge_link (s : State) (k : AlarmKey) (b : Bool) (q : Port) (h : q ≠ .p) : (s.judge k b).link q = s.link q := by
  rw [s.judge_eq k b]; cases q <;> first | rfl | exact absurd rfl h

/-! ### keep -/

@[simp] theorem State.keep_pending (s : State) (k : AlarmKey) (b : Bool) : (s.keep k b).pending = s.pending := by rw [s.keep_eq k b]; rfl
@[simp] theorem State.keep_phase (s : State) (k : AlarmKey) (b : Bool) : (s.keep k b).phase = s.phase := by rw [s.keep_eq k b]; rfl
@[simp] theorem State.keep_line (s : State) (k : AlarmKey) (b : Bool) : (s.keep k b).line = s.line := by rw [s.keep_eq k b]; rfl
@[simp] theorem State.keep_now (s : State) (k : AlarmKey) (b : Bool) : (s.keep k b).now = s.now := by rw [s.keep_eq k b]; rfl
@[simp] theorem State.keep_elapsed (s : State) (k : AlarmKey) (b : Bool) : (s.keep k b).elapsed = s.elapsed := by rw [s.keep_eq k b]; rfl
@[simp] theorem State.keep_ct (s : State) (k : AlarmKey) (b : Bool) : (s.keep k b).ct = s.ct := by rw [s.keep_eq k b]; rfl
@[simp] theorem State.keep_sev (s : State) (k : AlarmKey) (b : Bool) : (s.keep k b).sev = s.sev := by rw [s.keep_eq k b]; rfl
@[simp] theorem State.keep_lcu (s : State) (k : AlarmKey) (b : Bool) : (s.keep k b).lcu = s.lcu := by rw [s.keep_eq k b]; rfl
@[simp] theorem State.keep_tgt (s : State) (k : AlarmKey) (b : Bool) : (s.keep k b).tgt = s.tgt := by rw [s.keep_eq k b]; rfl
@[simp] theorem State.keep_lmn (s : State) (k : AlarmKey) (b : Bool) : (s.keep k b).lmn = s.lmn := by rw [s.keep_eq k b]; rfl
@[simp] theorem State.keep_csv (s : State) (k : AlarmKey) (b : Bool) : (s.keep k b).csv = s.csv := by rw [s.keep_eq k b]; rfl
@[simp] theorem State.keep_hds (s : State) (k : AlarmKey) (b : Bool) : (s.keep k b).hds = s.hds := by rw [s.keep_eq k b]; rfl
@[simp] theorem State.keep_summary (s : State) (k : AlarmKey) (b : Bool) : (s.keep k b).sli.summary = s.sli.summary := by
  rw [s.keep_eq k b]; rfl
@[simp] theorem State.keep_lift (s : State) (k : AlarmKey) (b : Bool) (c : Crane) : (s.keep k b).lift c = s.lift c := by
  rw [s.keep_eq k b]; rfl
@[simp] theorem State.keep_hook (s : State) (k : AlarmKey) (b : Bool) (c : Crane) : (s.keep k b).hook c = s.hook c := by
  rw [s.keep_eq k b]; rfl
@[simp] theorem State.keep_stopPort (s : State) (k : AlarmKey) (b : Bool) (q : Port) : (s.keep k b).stopPort q = s.stopPort q := by
  rw [s.keep_eq k b]; rfl
@[simp] theorem State.keep_tables (s : State) (k : AlarmKey) (b : Bool) : (s.keep k b).tables = s.tables := by rw [s.keep_eq k b]; rfl
@[simp] theorem State.keep_settings (s : State) (k : AlarmKey) (b : Bool) : (s.keep k b).settings = s.settings := by rw [s.keep_eq k b]; rfl
theorem State.keep_link (s : State) (k : AlarmKey) (b : Bool) (q : Port) (h : q ≠ .p) : (s.keep k b).link q = s.link q := by
  rw [s.keep_eq k b]; cases q <;> first | rfl | exact absurd rfl h

/-! ### notify -/

@[simp] theorem State.notify_pending (s : State) (l : List Notice) : (s.notify l).pending = s.pending := by rw [s.notify_eq l]; rfl
@[simp] theorem State.notify_phase (s : State) (l : List Notice) : (s.notify l).phase = s.phase := by rw [s.notify_eq l]; rfl
@[simp] theorem State.notify_line (s : State) (l : List Notice) : (s.notify l).line = s.line := by rw [s.notify_eq l]; rfl
@[simp] theorem State.notify_now (s : State) (l : List Notice) : (s.notify l).now = s.now := by rw [s.notify_eq l]; rfl
@[simp] theorem State.notify_elapsed (s : State) (l : List Notice) : (s.notify l).elapsed = s.elapsed := by rw [s.notify_eq l]; rfl
@[simp] theorem State.notify_ct (s : State) (l : List Notice) : (s.notify l).ct = s.ct := by rw [s.notify_eq l]; rfl
@[simp] theorem State.notify_sev (s : State) (l : List Notice) : (s.notify l).sev = s.sev := by rw [s.notify_eq l]; rfl
@[simp] theorem State.notify_lcu (s : State) (l : List Notice) : (s.notify l).lcu = s.lcu := by rw [s.notify_eq l]; rfl
@[simp] theorem State.notify_tgt (s : State) (l : List Notice) : (s.notify l).tgt = s.tgt := by rw [s.notify_eq l]; rfl
@[simp] theorem State.notify_lmn (s : State) (l : List Notice) : (s.notify l).lmn = s.lmn := by rw [s.notify_eq l]; rfl
@[simp] theorem State.notify_csv (s : State) (l : List Notice) : (s.notify l).csv = s.csv := by rw [s.notify_eq l]; rfl
@[simp] theorem State.notify_hds (s : State) (l : List Notice) : (s.notify l).hds = s.hds := by rw [s.notify_eq l]; rfl
@[simp] theorem State.notify_summary (s : State) (l : List Notice) : (s.notify l).sli.summary = s.sli.summary := by
  rw [s.notify_eq l]; rfl
@[simp] theorem State.notify_lift (s : State) (l : List Notice) (c : Crane) : (s.notify l).lift c = s.lift c := by
  rw [s.notify_eq l]; rfl
@[simp] theorem State.notify_hook (s : State) (l : List Notice) (c : Crane) : (s.notify l).hook c = s.hook c := by
  rw [s.notify_eq l]; rfl
@[simp] theorem State.notify_stopPort (s : State) (l : List Notice) (q : Port) : (s.notify l).stopPort q = s.stopPort q := by
  rw [s.notify_eq l]; rfl
@[simp] theorem State.notify_tables (s : State) (l : List Notice) : (s.notify l).tables = s.tables := by rw [s.notify_eq l]; rfl
@[simp] theorem State.notify_settings (s : State) (l : List Notice) : (s.notify l).settings = s.settings := by rw [s.notify_eq l]; rfl
theorem State.notify_link (s : State) (l : List Notice) (q : Port) (h : q ≠ .p) : (s.notify l).link q = s.link q := by
  rw [s.notify_eq l]; cases q <;> first | rfl | exact absurd rfl h

/-! ### alarm -/

@[simp] theorem State.alarm_pending (s : State) (r : Als × List Notice) : (s.alarm r).pending = s.pending := by rw [s.alarm_eq r]; rfl
@[simp] theorem State.alarm_phase (s : State) (r : Als × List Notice) : (s.alarm r).phase = s.phase := by rw [s.alarm_eq r]; rfl
@[simp] theorem State.alarm_line (s : State) (r : Als × List Notice) : (s.alarm r).line = s.line := by rw [s.alarm_eq r]; rfl
@[simp] theorem State.alarm_now (s : State) (r : Als × List Notice) : (s.alarm r).now = s.now := by rw [s.alarm_eq r]; rfl
@[simp] theorem State.alarm_elapsed (s : State) (r : Als × List Notice) : (s.alarm r).elapsed = s.elapsed := by rw [s.alarm_eq r]; rfl
@[simp] theorem State.alarm_ct (s : State) (r : Als × List Notice) : (s.alarm r).ct = s.ct := by rw [s.alarm_eq r]; rfl
@[simp] theorem State.alarm_sev (s : State) (r : Als × List Notice) : (s.alarm r).sev = s.sev := by rw [s.alarm_eq r]; rfl
@[simp] theorem State.alarm_lcu (s : State) (r : Als × List Notice) : (s.alarm r).lcu = s.lcu := by rw [s.alarm_eq r]; rfl
@[simp] theorem State.alarm_tgt (s : State) (r : Als × List Notice) : (s.alarm r).tgt = s.tgt := by rw [s.alarm_eq r]; rfl
@[simp] theorem State.alarm_lmn (s : State) (r : Als × List Notice) : (s.alarm r).lmn = s.lmn := by rw [s.alarm_eq r]; rfl
@[simp] theorem State.alarm_csv (s : State) (r : Als × List Notice) : (s.alarm r).csv = s.csv := by rw [s.alarm_eq r]; rfl
@[simp] theorem State.alarm_hds (s : State) (r : Als × List Notice) : (s.alarm r).hds = s.hds := by rw [s.alarm_eq r]; rfl
@[simp] theorem State.alarm_summary (s : State) (r : Als × List Notice) : (s.alarm r).sli.summary = s.sli.summary := by
  rw [s.alarm_eq r]; rfl
@[simp] theorem State.alarm_lift (s : State) (r : Als × List Notice) (c : Crane) : (s.alarm r).lift c = s.lift c := by
  rw [s.alarm_eq r]; rfl
@[simp] theorem State.alarm_hook (s : State) (r : Als × List Notice) (c : Crane) : (s.alarm r).hook c = s.hook c := by
  rw [s.alarm_eq r]; rfl
@[simp] theorem State.alarm_stopPort (s : State) (r : Als × List Notice) (q : Port) : (s.alarm r).stopPort q = s.stopPort q := by
  rw [s.alarm_eq r]; rfl
@[simp] theorem State.alarm_tables (s : State) (r : Als × List Notice) : (s.alarm r).tables = s.tables := by rw [s.alarm_eq r]; rfl
@[simp] theorem State.alarm_settings (s : State) (r : Als × List Notice) : (s.alarm r).settings = s.settings := by rw [s.alarm_eq r]; rfl
theorem State.alarm_link (s : State) (r : Als × List Notice) (q : Port) (h : q ≠ .p) : (s.alarm r).link q = s.link q := by
  rw [s.alarm_eq r]; cases q <;> first | rfl | exact absurd rfl h

end Sys2Proof.Machine
end

