-- ==== Sys2Proof/Laws/Links.lean ====
section
/-!
SUPPORT. What placing a message touches of a link: the outbound queue and the transmitter only (R174). So notices and
replies leave a port's state, counts, buffer and order slot as they were.
-/

namespace Sys2Proof.Machine

theorem Link.start_cases (l : Link) :
    l.start = l ∨ l.start = { l with sending := some .order } ∨
      ∃ m rest, l.queue = m :: rest ∧ l.start = { l with sending := some (.frame m), queue := rest } := by
  unfold Link.start
  rcases l.sending with _ | tx
  · rcases l.slot with _ | o
    · rcases hq : l.queue with _ | ⟨m, rest⟩
      · exact .inl rfl
      · exact .inr (.inr ⟨m, rest, rfl, rfl⟩)
    · exact .inr (.inl rfl)
  · exact .inl rfl

@[simp] theorem Link.start_state (l : Link) : l.start.state = l.state := by
  rcases l.start_cases with h | h | ⟨m, rest, -, h⟩ <;> rw [h]

@[simp] theorem Link.put_state (l : Link) (m : OutMsg) : (l.put m).state = l.state := by simp [Link.put]

@[simp] theorem Link.offer_state (l : Link) (m : OutMsg) : (l.offer m).state = l.state := by
  unfold Link.offer; split <;> simp

@[simp] theorem Link.start_bad (l : Link) : l.start.bad = l.bad := by
  rcases l.start_cases with h | h | ⟨m, rest, -, h⟩ <;> rw [h]

@[simp] theorem Link.put_bad (l : Link) (m : OutMsg) : (l.put m).bad = l.bad := by simp [Link.put]

@[simp] theorem Link.offer_bad (l : Link) (m : OutMsg) : (l.offer m).bad = l.bad := by
  unfold Link.offer; split <;> simp

@[simp] theorem Link.start_silence (l : Link) : l.start.silence = l.silence := by
  rcases l.start_cases with h | h | ⟨m, rest, -, h⟩ <;> rw [h]

@[simp] theorem Link.put_silence (l : Link) (m : OutMsg) : (l.put m).silence = l.silence := by simp [Link.put]

@[simp] theorem Link.offer_silence (l : Link) (m : OutMsg) : (l.offer m).silence = l.silence := by
  unfold Link.offer; split <;> simp

@[simp] theorem Link.start_inbound (l : Link) : l.start.inbound = l.inbound := by
  rcases l.start_cases with h | h | ⟨m, rest, -, h⟩ <;> rw [h]

@[simp] theorem Link.put_inbound (l : Link) (m : OutMsg) : (l.put m).inbound = l.inbound := by simp [Link.put]

@[simp] theorem Link.offer_inbound (l : Link) (m : OutMsg) : (l.offer m).inbound = l.inbound := by
  unfold Link.offer; split <;> simp

@[simp] theorem Link.start_reserved (l : Link) : l.start.reserved = l.reserved := by
  rcases l.start_cases with h | h | ⟨m, rest, -, h⟩ <;> rw [h]

@[simp] theorem Link.put_reserved (l : Link) (m : OutMsg) : (l.put m).reserved = l.reserved := by simp [Link.put]

@[simp] theorem Link.offer_reserved (l : Link) (m : OutMsg) : (l.offer m).reserved = l.reserved := by
  unfold Link.offer; split <;> simp

@[simp] theorem Link.start_slot (l : Link) : l.start.slot = l.slot := by
  rcases l.start_cases with h | h | ⟨m, rest, -, h⟩ <;> rw [h]

@[simp] theorem Link.put_slot (l : Link) (m : OutMsg) : (l.put m).slot = l.slot := by simp [Link.put]

@[simp] theorem Link.offer_slot (l : Link) (m : OutMsg) : (l.offer m).slot = l.slot := by
  unfold Link.offer; split <;> simp

@[simp] theorem Link.start_waiting (l : Link) : l.start.waiting = l.waiting := by
  rcases l.start_cases with h | h | ⟨m, rest, -, h⟩ <;> rw [h]

@[simp] theorem Link.put_waiting (l : Link) (m : OutMsg) : (l.put m).waiting = l.waiting := by simp [Link.put]

@[simp] theorem Link.offer_waiting (l : Link) (m : OutMsg) : (l.offer m).waiting = l.waiting := by
  unfold Link.offer; split <;> simp

/-- What notices leave alone on every port. -/
theorem State.notify_keeps (s : State) (l : List Notice) (q : Port) :
    ((s.notify l).link q).state = (s.link q).state ∧
      ((s.notify l).link q).bad = (s.link q).bad ∧
      ((s.notify l).link q).silence = (s.link q).silence ∧
      ((s.notify l).link q).inbound = (s.link q).inbound ∧
      ((s.notify l).link q).reserved = (s.link q).reserved ∧
      ((s.notify l).link q).slot = (s.link q).slot ∧
      ((s.notify l).link q).waiting = (s.link q).waiting := by
  induction l generalizing s with
  | nil => simp [State.notify]
  | cons n rest ih =>
    have := ih (s.offer .p (.notice n))
    simp only [State.notify]
    rw [this.1, this.2.1, this.2.2.1, this.2.2.2.1, this.2.2.2.2.1, this.2.2.2.2.2.1, this.2.2.2.2.2.2]
    unfold State.offer
    rw [State.link_setLink]
    split
    · rename_i h; subst h; simp
    · simp

@[simp] theorem State.notify_link_state (s : State) (l : List Notice) (q : Port) :
    ((s.notify l).link q).state = (s.link q).state := (s.notify_keeps l q).1

@[simp] theorem State.alarm_link_state (s : State) (r : Als × List Notice) (q : Port) :
    ((s.alarm r).link q).state = (s.link q).state := by unfold State.alarm; rw [State.notify_link_state]; rfl

@[simp] theorem State.raise_link_state (s : State) (k : AlarmKey) (q : Port) :
    ((s.raise k).link q).state = (s.link q).state := by unfold State.raise; simp

@[simp] theorem State.clear_link_state (s : State) (k : AlarmKey) (q : Port) :
    ((s.clear k).link q).state = (s.link q).state := by unfold State.clear; split <;> simp

@[simp] theorem State.event_link_state (s : State) (k : AlarmKey) (q : Port) :
    ((s.event k).link q).state = (s.link q).state := by unfold State.event; simp

@[simp] theorem State.judge_link_state (s : State) (k : AlarmKey) (b : Bool) (q : Port) :
    ((s.judge k b).link q).state = (s.link q).state := by unfold State.judge; split <;> simp

@[simp] theorem State.keep_link_state (s : State) (k : AlarmKey) (b : Bool) (q : Port) :
    ((s.keep k b).link q).state = (s.link q).state := by unfold State.keep; split <;> [split; skip] <;> simp

@[simp] theorem State.notify_link_bad (s : State) (l : List Notice) (q : Port) :
    ((s.notify l).link q).bad = (s.link q).bad := (s.notify_keeps l q).2.1

@[simp] theorem State.alarm_link_bad (s : State) (r : Als × List Notice) (q : Port) :
    ((s.alarm r).link q).bad = (s.link q).bad := by unfold State.alarm; rw [State.notify_link_bad]; rfl

@[simp] theorem State.raise_link_bad (s : State) (k : AlarmKey) (q : Port) :
    ((s.raise k).link q).bad = (s.link q).bad := by unfold State.raise; simp

@[simp] theorem State.clear_link_bad (s : State) (k : AlarmKey) (q : Port) :
    ((s.clear k).link q).bad = (s.link q).bad := by unfold State.clear; split <;> simp

@[simp] theorem State.event_link_bad (s : State) (k : AlarmKey) (q : Port) :
    ((s.event k).link q).bad = (s.link q).bad := by unfold State.event; simp

@[simp] theorem State.judge_link_bad (s : State) (k : AlarmKey) (b : Bool) (q : Port) :
    ((s.judge k b).link q).bad = (s.link q).bad := by unfold State.judge; split <;> simp

@[simp] theorem State.keep_link_bad (s : State) (k : AlarmKey) (b : Bool) (q : Port) :
    ((s.keep k b).link q).bad = (s.link q).bad := by unfold State.keep; split <;> [split; skip] <;> simp

@[simp] theorem State.notify_link_silence (s : State) (l : List Notice) (q : Port) :
    ((s.notify l).link q).silence = (s.link q).silence := (s.notify_keeps l q).2.2.1

@[simp] theorem State.alarm_link_silence (s : State) (r : Als × List Notice) (q : Port) :
    ((s.alarm r).link q).silence = (s.link q).silence := by unfold State.alarm; rw [State.notify_link_silence]; rfl

@[simp] theorem State.raise_link_silence (s : State) (k : AlarmKey) (q : Port) :
    ((s.raise k).link q).silence = (s.link q).silence := by unfold State.raise; simp

@[simp] theorem State.clear_link_silence (s : State) (k : AlarmKey) (q : Port) :
    ((s.clear k).link q).silence = (s.link q).silence := by unfold State.clear; split <;> simp

@[simp] theorem State.event_link_silence (s : State) (k : AlarmKey) (q : Port) :
    ((s.event k).link q).silence = (s.link q).silence := by unfold State.event; simp

@[simp] theorem State.judge_link_silence (s : State) (k : AlarmKey) (b : Bool) (q : Port) :
    ((s.judge k b).link q).silence = (s.link q).silence := by unfold State.judge; split <;> simp

@[simp] theorem State.keep_link_silence (s : State) (k : AlarmKey) (b : Bool) (q : Port) :
    ((s.keep k b).link q).silence = (s.link q).silence := by unfold State.keep; split <;> [split; skip] <;> simp

@[simp] theorem State.notify_link_inbound (s : State) (l : List Notice) (q : Port) :
    ((s.notify l).link q).inbound = (s.link q).inbound := (s.notify_keeps l q).2.2.2.1

@[simp] theorem State.alarm_link_inbound (s : State) (r : Als × List Notice) (q : Port) :
    ((s.alarm r).link q).inbound = (s.link q).inbound := by unfold State.alarm; rw [State.notify_link_inbound]; rfl

@[simp] theorem State.raise_link_inbound (s : State) (k : AlarmKey) (q : Port) :
    ((s.raise k).link q).inbound = (s.link q).inbound := by unfold State.raise; simp

@[simp] theorem State.clear_link_inbound (s : State) (k : AlarmKey) (q : Port) :
    ((s.clear k).link q).inbound = (s.link q).inbound := by unfold State.clear; split <;> simp

@[simp] theorem State.event_link_inbound (s : State) (k : AlarmKey) (q : Port) :
    ((s.event k).link q).inbound = (s.link q).inbound := by unfold State.event; simp

@[simp] theorem State.judge_link_inbound (s : State) (k : AlarmKey) (b : Bool) (q : Port) :
    ((s.judge k b).link q).inbound = (s.link q).inbound := by unfold State.judge; split <;> simp

@[simp] theorem State.keep_link_inbound (s : State) (k : AlarmKey) (b : Bool) (q : Port) :
    ((s.keep k b).link q).inbound = (s.link q).inbound := by unfold State.keep; split <;> [split; skip] <;> simp

@[simp] theorem State.notify_link_reserved (s : State) (l : List Notice) (q : Port) :
    ((s.notify l).link q).reserved = (s.link q).reserved := (s.notify_keeps l q).2.2.2.2.1

@[simp] theorem State.alarm_link_reserved (s : State) (r : Als × List Notice) (q : Port) :
    ((s.alarm r).link q).reserved = (s.link q).reserved := by unfold State.alarm; rw [State.notify_link_reserved]; rfl

@[simp] theorem State.raise_link_reserved (s : State) (k : AlarmKey) (q : Port) :
    ((s.raise k).link q).reserved = (s.link q).reserved := by unfold State.raise; simp

@[simp] theorem State.clear_link_reserved (s : State) (k : AlarmKey) (q : Port) :
    ((s.clear k).link q).reserved = (s.link q).reserved := by unfold State.clear; split <;> simp

@[simp] theorem State.event_link_reserved (s : State) (k : AlarmKey) (q : Port) :
    ((s.event k).link q).reserved = (s.link q).reserved := by unfold State.event; simp

@[simp] theorem State.judge_link_reserved (s : State) (k : AlarmKey) (b : Bool) (q : Port) :
    ((s.judge k b).link q).reserved = (s.link q).reserved := by unfold State.judge; split <;> simp

@[simp] theorem State.keep_link_reserved (s : State) (k : AlarmKey) (b : Bool) (q : Port) :
    ((s.keep k b).link q).reserved = (s.link q).reserved := by unfold State.keep; split <;> [split; skip] <;> simp

@[simp] theorem State.notify_link_slot (s : State) (l : List Notice) (q : Port) :
    ((s.notify l).link q).slot = (s.link q).slot := (s.notify_keeps l q).2.2.2.2.2.1

@[simp] theorem State.alarm_link_slot (s : State) (r : Als × List Notice) (q : Port) :
    ((s.alarm r).link q).slot = (s.link q).slot := by unfold State.alarm; rw [State.notify_link_slot]; rfl

@[simp] theorem State.raise_link_slot (s : State) (k : AlarmKey) (q : Port) :
    ((s.raise k).link q).slot = (s.link q).slot := by unfold State.raise; simp

@[simp] theorem State.clear_link_slot (s : State) (k : AlarmKey) (q : Port) :
    ((s.clear k).link q).slot = (s.link q).slot := by unfold State.clear; split <;> simp

@[simp] theorem State.event_link_slot (s : State) (k : AlarmKey) (q : Port) :
    ((s.event k).link q).slot = (s.link q).slot := by unfold State.event; simp

@[simp] theorem State.judge_link_slot (s : State) (k : AlarmKey) (b : Bool) (q : Port) :
    ((s.judge k b).link q).slot = (s.link q).slot := by unfold State.judge; split <;> simp

@[simp] theorem State.keep_link_slot (s : State) (k : AlarmKey) (b : Bool) (q : Port) :
    ((s.keep k b).link q).slot = (s.link q).slot := by unfold State.keep; split <;> [split; skip] <;> simp

@[simp] theorem State.notify_link_waiting (s : State) (l : List Notice) (q : Port) :
    ((s.notify l).link q).waiting = (s.link q).waiting := (s.notify_keeps l q).2.2.2.2.2.2

@[simp] theorem State.alarm_link_waiting (s : State) (r : Als × List Notice) (q : Port) :
    ((s.alarm r).link q).waiting = (s.link q).waiting := by unfold State.alarm; rw [State.notify_link_waiting]; rfl

@[simp] theorem State.raise_link_waiting (s : State) (k : AlarmKey) (q : Port) :
    ((s.raise k).link q).waiting = (s.link q).waiting := by unfold State.raise; simp

@[simp] theorem State.clear_link_waiting (s : State) (k : AlarmKey) (q : Port) :
    ((s.clear k).link q).waiting = (s.link q).waiting := by unfold State.clear; split <;> simp

@[simp] theorem State.event_link_waiting (s : State) (k : AlarmKey) (q : Port) :
    ((s.event k).link q).waiting = (s.link q).waiting := by unfold State.event; simp

@[simp] theorem State.judge_link_waiting (s : State) (k : AlarmKey) (b : Bool) (q : Port) :
    ((s.judge k b).link q).waiting = (s.link q).waiting := by unfold State.judge; split <;> simp

@[simp] theorem State.keep_link_waiting (s : State) (k : AlarmKey) (b : Bool) (q : Port) :
    ((s.keep k b).link q).waiting = (s.link q).waiting := by unfold State.keep; split <;> [split; skip] <;> simp

end Sys2Proof.Machine
end

