-- ==== Sys2Proof/Laws/Choice.lean ====
section
/-!
SUPPORT. What the evaluator's choice of a job touches (R39 to R42): its own state, the taken serial and the trial wanted
mark, the trial state, and the evaluation in hand. When it does not choose, nothing at all.
-/

namespace Sys2Proof.Machine

/-- The state `s` with the evaluator's choice of a job taken from `t` (R41, R42). -/
def State.choosing (s t : State) : State :=
  { s with
    sev.state := t.sev.state
    sev.taken := t.sev.taken
    sev.trialWanted := t.sev.trialWanted
    csv.trialState := t.csv.trialState
    lcu.inHand := t.lcu.inHand }

/-- All that the evaluator's choice can do. -/
theorem State.takeJob_cases (s : State) :
    s.takeJob = s ∨
      (s.hds.mode ≠ .starting ∧ s.sev.state = .idle ∧
        (s.takeJob = s.takeLive ∨ (∃ c rest, s.lcu.queue = c :: rest ∧ s.takeJob = s.takePermit c) ∨
          s.takeJob = s.takeTrial)) := by
  unfold State.takeJob
  split
  · rename_i h
    simp only [Bool.and_eq_true, bne_iff_ne, ne_eq, decide_eq_true_eq] at h
    split
    · exact .inr ⟨h.1, h.2, .inl rfl⟩
    · split
      · rename_i c rest hq
        exact .inr ⟨h.1, h.2, .inr (.inl ⟨c, rest, hq, rfl⟩)⟩
      · exact .inl rfl
    · exact .inr ⟨h.1, h.2, .inr (.inr rfl)⟩
    · exact .inl rfl
  · exact .inl rfl

/-- The choice of a job touches nothing but what `choosing` takes over. -/
theorem State.takeJob_eq (s : State) : s.takeJob = s.choosing s.takeJob := by
  rcases s.takeJob_cases with h | ⟨-, -, h | ⟨c, rest, -, h⟩ | h⟩ <;> rw [h] <;> rfl

@[simp] theorem State.takeJob_pending (s : State) : s.takeJob.pending = s.pending := by rw [s.takeJob_eq]; rfl
@[simp] theorem State.takeJob_phase (s : State) : s.takeJob.phase = s.phase := by rw [s.takeJob_eq]; rfl
@[simp] theorem State.takeJob_line (s : State) : s.takeJob.line = s.line := by rw [s.takeJob_eq]; rfl
@[simp] theorem State.takeJob_now (s : State) : s.takeJob.now = s.now := by rw [s.takeJob_eq]; rfl
@[simp] theorem State.takeJob_elapsed (s : State) : s.takeJob.elapsed = s.elapsed := by rw [s.takeJob_eq]; rfl
@[simp] theorem State.takeJob_sli (s : State) : s.takeJob.sli = s.sli := by rw [s.takeJob_eq]; rfl
@[simp] theorem State.takeJob_ct (s : State) : s.takeJob.ct = s.ct := by rw [s.takeJob_eq]; rfl
@[simp] theorem State.takeJob_tgt (s : State) : s.takeJob.tgt = s.tgt := by rw [s.takeJob_eq]; rfl
@[simp] theorem State.takeJob_lmn (s : State) : s.takeJob.lmn = s.lmn := by rw [s.takeJob_eq]; rfl
@[simp] theorem State.takeJob_als (s : State) : s.takeJob.als = s.als := by rw [s.takeJob_eq]; rfl
@[simp] theorem State.takeJob_hds (s : State) : s.takeJob.hds = s.hds := by rw [s.takeJob_eq]; rfl
@[simp] theorem State.takeJob_lcu_recs (s : State) : s.takeJob.lcu.recs = s.lcu.recs := by rw [s.takeJob_eq]; rfl
@[simp] theorem State.takeJob_lcu_hooks (s : State) : s.takeJob.lcu.hooks = s.lcu.hooks := by rw [s.takeJob_eq]; rfl
@[simp] theorem State.takeJob_lcu_queue (s : State) : s.takeJob.lcu.queue = s.lcu.queue := by rw [s.takeJob_eq]; rfl
@[simp] theorem State.takeJob_lcu_counter (s : State) : s.takeJob.lcu.counter = s.lcu.counter := by rw [s.takeJob_eq]; rfl
@[simp] theorem State.takeJob_lcu_pairA (s : State) : s.takeJob.lcu.pairA = s.lcu.pairA := by rw [s.takeJob_eq]; rfl
@[simp] theorem State.takeJob_lcu_pairB (s : State) : s.takeJob.lcu.pairB = s.lcu.pairB := by rw [s.takeJob_eq]; rfl
@[simp] theorem State.takeJob_sev_last (s : State) : s.takeJob.sev.last = s.sev.last := by rw [s.takeJob_eq]; rfl
@[simp] theorem State.takeJob_sev_live (s : State) : s.takeJob.sev.live = s.sev.live := by rw [s.takeJob_eq]; rfl
@[simp] theorem State.takeJob_csv_settings (s : State) : s.takeJob.csv.settings = s.csv.settings := by rw [s.takeJob_eq]; rfl
@[simp] theorem State.takeJob_csv_trial (s : State) : s.takeJob.csv.trial = s.csv.trial := by rw [s.takeJob_eq]; rfl
@[simp] theorem State.takeJob_csv_outcome (s : State) : s.takeJob.csv.outcome = s.csv.outcome := by rw [s.takeJob_eq]; rfl
@[simp] theorem State.takeJob_csv_restartPending (s : State) : s.takeJob.csv.restartPending = s.csv.restartPending := by rw [s.takeJob_eq]; rfl
@[simp] theorem State.takeJob_link (s : State) (q : Port) : s.takeJob.link q = s.link q := by rw [s.takeJob_eq]; rfl
@[simp] theorem State.takeJob_lift (s : State) (c : Crane) : s.takeJob.lift c = s.lift c := by rw [s.takeJob_eq]; rfl
@[simp] theorem State.takeJob_hook (s : State) (c : Crane) : s.takeJob.hook c = s.hook c := by rw [s.takeJob_eq]; rfl
@[simp] theorem State.takeJob_tables (s : State) : s.takeJob.tables = s.tables := by rw [s.takeJob_eq]; rfl
@[simp] theorem State.takeJob_stopPort (s : State) (q : Port) : s.takeJob.stopPort q = s.stopPort q := by
  rw [s.takeJob_eq]; rfl

end Sys2Proof.Machine
end

