-- ==== Sys2Proof/Laws/Keyed.lean ====
section
/-!
SUPPORT. Keyed lists read back what was written under a key, and every other key as before; and what the judgement of a
space's capacity touches (R18).
-/

namespace Sys2Proof.Machine

theorem lookup_cons {α : Type} (e : Nat × α) (l : List (Nat × α)) (k : Nat) :
    lookup (e :: l) k = if e.1 = k then some e.2 else lookup l k := by
  unfold lookup
  by_cases h : e.1 = k <;> simp [h]

@[simp] theorem lookup_nil {α : Type} (k : Nat) : lookup ([] : List (Nat × α)) k = none := rfl

@[simp] theorem lookup_adjust {α : Type} (l : List (Nat × α)) (k j : Nat) (f : α → α) :
    lookup (adjust l k f) j = if j = k then (lookup l k).map f else lookup l j := by
  induction l with
  | nil => simp [adjust]
  | cons e l ih =>
    unfold adjust at ih ⊢
    rw [List.map_cons, lookup_cons, ih, lookup_cons, lookup_cons]
    by_cases h : e.1 = k <;> by_cases hj : j = k
    · subst hj; simp [h]
    · have : ¬ k = j := fun e => hj e.symm
      simp [h, hj, this]
    · subst hj; simp [h]
    · simp [h, hj]

@[simp] theorem lookup_insertKey {α : Type} (k j : Nat) (v : α) (l : List (Nat × α)) :
    lookup (insertKey k v l) j = if k = j then some v else lookup l j := by
  induction l with
  | nil => simp [insertKey, lookup_cons]
  | cons e l ih =>
    unfold insertKey
    split
    · simp [lookup_cons]
    · split
      · rename_i h; simp only [lookup_cons, h]; split <;> simp_all
      · rename_i h; simp only [lookup_cons, ih]
        by_cases h1 : e.1 = j <;> by_cases h2 : k = j
        · omega
        · simp [h1, h2]
        · simp [h1, h2]
        · simp [h1, h2]

/-! ### The capacity judgement (R18) -/

/-- The judgement of a space changes its capacity state, the alarm list and port P's link. -/
theorem State.judgeSpace_eq (s : State) (a : Nat) :
    s.judgeSpace a = { s.setLink .p ((s.judgeSpace a).link .p) with
      ct.spaces := (s.judgeSpace a).ct.spaces, als := (s.judgeSpace a).als } := by
  unfold State.judgeSpace
  split
  · dsimp only
    split
    · simp
    · rw [State.keep_eq]; simp [State.link, State.setLink]
  · simp

/-- Every other space keeps its capacity state. -/
theorem State.judgeSpace_other (s : State) (a b : Nat) (h : b ≠ a) :
    lookup (s.judgeSpace a).ct.spaces b = lookup s.ct.spaces b := by
  unfold State.judgeSpace
  split
  · dsimp only
    split
    · rfl
    · simp [h]
  · rfl

/-- The judged space has the state that its load and capacity give (R18). -/
theorem State.judgeSpace_self (s : State) (a : Nat) (box : Box) (cap : Int) (hc : s.tables.cargo a = some (box, cap))
    (h : (lookup s.ct.spaces a).isSome = true) :
    lookup (s.judgeSpace a).ct.spaces a = some (capStateOf (s.ct.load a) cap) := by
  unfold State.judgeSpace
  rw [hc]
  dsimp only
  split
  · assumption
  · rcases Option.isSome_iff_exists.mp h with ⟨v, hv⟩
    simp [hv]

/-- No port's state, counts, buffer or order slot depends on the judgement of a space. -/
theorem State.judgeSpace_keeps (s : State) (a : Nat) (q : Port) :
    ((s.judgeSpace a).link q).state = (s.link q).state ∧
      ((s.judgeSpace a).link q).bad = (s.link q).bad ∧
      ((s.judgeSpace a).link q).silence = (s.link q).silence ∧
      ((s.judgeSpace a).link q).inbound = (s.link q).inbound ∧
      ((s.judgeSpace a).link q).reserved = (s.link q).reserved ∧
      ((s.judgeSpace a).link q).slot = (s.link q).slot ∧
      ((s.judgeSpace a).link q).waiting = (s.link q).waiting := by
  unfold State.judgeSpace
  split
  · dsimp only
    split
    · exact ⟨rfl, rfl, rfl, rfl, rfl, rfl, rfl⟩
    · exact ⟨State.keep_link_state _ _ _ _, State.keep_link_bad _ _ _ _, State.keep_link_silence _ _ _ _, State.keep_link_inbound _ _ _ _, State.keep_link_reserved _ _ _ _, State.keep_link_slot _ _ _ _, State.keep_link_waiting _ _ _ _⟩
  · exact ⟨rfl, rfl, rfl, rfl, rfl, rfl, rfl⟩

@[simp] theorem State.judgeSpace_link_state (s : State) (a : Nat) (q : Port) :
    ((s.judgeSpace a).link q).state = (s.link q).state := (s.judgeSpace_keeps a q).1

@[simp] theorem State.judgeSpace_link_bad (s : State) (a : Nat) (q : Port) :
    ((s.judgeSpace a).link q).bad = (s.link q).bad := (s.judgeSpace_keeps a q).2.1

@[simp] theorem State.judgeSpace_link_silence (s : State) (a : Nat) (q : Port) :
    ((s.judgeSpace a).link q).silence = (s.link q).silence := (s.judgeSpace_keeps a q).2.2.1

@[simp] theorem State.judgeSpace_link_inbound (s : State) (a : Nat) (q : Port) :
    ((s.judgeSpace a).link q).inbound = (s.link q).inbound := (s.judgeSpace_keeps a q).2.2.2.1

@[simp] theorem State.judgeSpace_link_reserved (s : State) (a : Nat) (q : Port) :
    ((s.judgeSpace a).link q).reserved = (s.link q).reserved := (s.judgeSpace_keeps a q).2.2.2.2.1

@[simp] theorem State.judgeSpace_link_slot (s : State) (a : Nat) (q : Port) :
    ((s.judgeSpace a).link q).slot = (s.link q).slot := (s.judgeSpace_keeps a q).2.2.2.2.2.1

@[simp] theorem State.judgeSpace_link_waiting (s : State) (a : Nat) (q : Port) :
    ((s.judgeSpace a).link q).waiting = (s.link q).waiting := (s.judgeSpace_keeps a q).2.2.2.2.2.2

@[simp] theorem State.judgeSpace_pending (s : State) (a : Nat) : (s.judgeSpace a).pending = s.pending := by
  rw [s.judgeSpace_eq a]; rfl
@[simp] theorem State.judgeSpace_phase (s : State) (a : Nat) : (s.judgeSpace a).phase = s.phase := by
  rw [s.judgeSpace_eq a]; rfl
@[simp] theorem State.judgeSpace_line (s : State) (a : Nat) : (s.judgeSpace a).line = s.line := by
  rw [s.judgeSpace_eq a]; rfl
@[simp] theorem State.judgeSpace_now (s : State) (a : Nat) : (s.judgeSpace a).now = s.now := by
  rw [s.judgeSpace_eq a]; rfl
@[simp] theorem State.judgeSpace_elapsed (s : State) (a : Nat) : (s.judgeSpace a).elapsed = s.elapsed := by
  rw [s.judgeSpace_eq a]; rfl
@[simp] theorem State.judgeSpace_sev (s : State) (a : Nat) : (s.judgeSpace a).sev = s.sev := by
  rw [s.judgeSpace_eq a]; rfl
@[simp] theorem State.judgeSpace_lcu (s : State) (a : Nat) : (s.judgeSpace a).lcu = s.lcu := by
  rw [s.judgeSpace_eq a]; rfl
@[simp] theorem State.judgeSpace_tgt (s : State) (a : Nat) : (s.judgeSpace a).tgt = s.tgt := by
  rw [s.judgeSpace_eq a]; rfl
@[simp] theorem State.judgeSpace_lmn (s : State) (a : Nat) : (s.judgeSpace a).lmn = s.lmn := by
  rw [s.judgeSpace_eq a]; rfl
@[simp] theorem State.judgeSpace_csv (s : State) (a : Nat) : (s.judgeSpace a).csv = s.csv := by
  rw [s.judgeSpace_eq a]; rfl
@[simp] theorem State.judgeSpace_hds (s : State) (a : Nat) : (s.judgeSpace a).hds = s.hds := by
  rw [s.judgeSpace_eq a]; rfl
@[simp] theorem State.judgeSpace_ct_lots (s : State) (a : Nat) : (s.judgeSpace a).ct.lots = s.ct.lots := by
  rw [s.judgeSpace_eq a]; rfl
@[simp] theorem State.judgeSpace_ct_filing (s : State) (a : Nat) : (s.judgeSpace a).ct.filing = s.ct.filing := by
  rw [s.judgeSpace_eq a]; rfl
@[simp] theorem State.judgeSpace_ct_tanks (s : State) (a : Nat) : (s.judgeSpace a).ct.tanks = s.ct.tanks := by
  rw [s.judgeSpace_eq a]; rfl
@[simp] theorem State.judgeSpace_ct_consts (s : State) (a : Nat) : (s.judgeSpace a).ct.consts = s.ct.consts := by
  rw [s.judgeSpace_eq a]; rfl
@[simp] theorem State.judgeSpace_ct_structs (s : State) (a : Nat) : (s.judgeSpace a).ct.structs = s.ct.structs := by
  rw [s.judgeSpace_eq a]; rfl
@[simp] theorem State.judgeSpace_ct_serial (s : State) (a : Nat) : (s.judgeSpace a).ct.serial = s.ct.serial := by
  rw [s.judgeSpace_eq a]; rfl

end Sys2Proof.Machine
end

