-- ==== Sys2Proof/Laws/Store.lean ====
section
/-!
SUPPORT. The page store: a reset's tearing and a programming operation keep its one form (R181, R183), and what each
leaves to be read.
-/

namespace Sys2Proof.Machine

theorem lookup_append {α : Type} (l m : List (Nat × α)) (k : Nat) :
    lookup (l ++ m) k = (lookup l k).or (lookup m k) := by
  induction l with
  | nil => simp
  | cons e l ih => rw [List.cons_append, lookup_cons, lookup_cons, ih]; split <;> simp

theorem lookup_filter_key {α : Type} (p : Nat → Bool) (l : List (Nat × α)) (k : Nat) :
    lookup (l.filter fun e => p e.1) k = if p k then lookup l k else none := by
  induction l with
  | nil => simp
  | cons e l ih =>
    rw [List.filter_cons]
    split
    · rw [lookup_cons, ih, lookup_cons]; split
      · rename_i h1 h2; simp [← h2, h1]
      · rfl
    · rename_i h1
      rw [ih, lookup_cons]
      by_cases h2 : e.1 = k
      · rw [← h2, if_neg h1, if_neg h1]
      · rw [if_neg h2]

theorem insertKey_keys {α : Type} (k : Nat) (v : α) (l : List (Nat × α)) :
    ∀ e ∈ insertKey k v l, e = (k, v) ∨ e ∈ l := by
  induction l with
  | nil => simp [insertKey]
  | cons e l ih =>
    unfold insertKey
    split
    · simp
    · split
      · intro x hx; rcases List.mem_cons.1 hx with h | h <;> simp_all
      · intro x hx
        rcases List.mem_cons.1 hx with h | h
        · simp [h]
        · rcases ih x h with h | h <;> simp [h]

theorem insertKey_rising {α : Type} (k : Nat) (v : α) (l : List (Nat × α))
    (h : (l.map Prod.fst).Pairwise (· < ·)) : ((insertKey k v l).map Prod.fst).Pairwise (· < ·) := by
  induction l with
  | nil => simp [insertKey]
  | cons e l ih =>
    rw [List.map_cons, List.pairwise_cons] at h
    unfold insertKey
    split
    · rename_i hk
      rw [List.map_cons, List.pairwise_cons, List.map_cons, List.pairwise_cons]
      refine ⟨fun j hj => ?_, h⟩
      rcases List.mem_cons.1 hj with rfl | hj
      · exact hk
      · exact Nat.lt_trans hk (h.1 j hj)
    · split
      · rename_i hk; rw [List.map_cons, List.pairwise_cons]; exact ⟨fun j hj => hk ▸ h.1 j hj, h.2⟩
      · rename_i hk hne
        rw [List.map_cons, List.pairwise_cons]
        refine ⟨fun j hj => ?_, ih h.2⟩
        obtain ⟨x, hx, rfl⟩ := List.mem_map.1 hj
        rcases insertKey_keys k v l x hx with rfl | hx
        · show e.1 < k; omega
        · exact h.1 _ (List.mem_map_of_mem hx)

theorem rising_filter {α : Type} (p : Nat × α → Bool) (l : List (Nat × α)) (h : (l.map Prod.fst).Pairwise (· < ·)) :
    ((l.filter p).map Prod.fst).Pairwise (· < ·) :=
  h.sublist (List.filter_sublist.map _)

/-- A reset's tearing keeps the store's form (R183). -/
theorem Store.tear_wf (t : Store) (page id : Nat) (h : t.wf) (hp : page < Config.pageCount) : (t.tear page id).wf := by
  obtain ⟨h1, h2, h3, h4, h5, h6⟩ := h
  refine ⟨rising_filter _ _ h1, fun e he => h2 e (List.mem_of_mem_filter he), fun e he => h3 e (List.mem_of_mem_filter he),
    insertKey_rising _ _ _ (rising_filter _ _ h4), fun e he => ?_, fun e he => ?_⟩
  · rcases insertKey_keys _ _ _ e he with rfl | he
    · exact hp
    · exact h5 e (List.mem_of_mem_filter he)
  · obtain ⟨hm, hne⟩ := List.mem_filter.1 he
    have hne' : ¬ page = e.1 / Config.pageEntries := fun e => (bne_iff_ne.1 hne) e.symm
    show lookup (insertKey page id _) _ = none
    rw [lookup_insertKey, if_neg hne', lookup_filter_key fun k => k != page, h6 e hm, ite_self]

theorem programmedCells_page (page : Nat) (loaded : List (Nat × Entry)) :
    ∀ e ∈ programmedCells page loaded, e.1 / Config.pageEntries = page ∧ e.2 ≠ blankEntry := by
  unfold programmedCells
  split
  · simp
  · intro e he
    simp only [List.mem_filter, List.mem_map, List.mem_range, bne_iff_ne] at he
    obtain ⟨⟨i, hi, rfl⟩, hb⟩ := he
    refine ⟨?_, hb⟩
    simp only [Config.pageEntries] at *
    omega

theorem programmedCells_rising (page : Nat) (loaded : List (Nat × Entry)) :
    ((programmedCells page loaded).map Prod.fst).Pairwise (· < ·) := by
  unfold programmedCells
  split
  · simp
  · refine rising_filter _ _ ?_
    rw [List.map_map, List.pairwise_map]
    exact List.pairwise_lt_range.imp fun h => by simp only [Function.comp_apply]; omega

/-- A programming operation keeps the store's form (R183). -/
theorem Store.program_wf (t : Store) (page : Nat) (loaded : List (Nat × Entry)) (h : t.wf)
    (hp : page < Config.pageCount) : (t.program page loaded).wf := by
  obtain ⟨h1, h2, h3, h4, h5, h6⟩ := h
  have hc := programmedCells_page page loaded
  have mem : ∀ e ∈ (t.program page loaded).cells,
      (e ∈ t.cells ∧ e.1 / Config.pageEntries ≠ page) ∨ e ∈ programmedCells page loaded := by
    intro e he
    simp only [Store.program, List.mem_append, List.mem_filter, decide_eq_true_eq] at he
    rcases he with (⟨he, hl⟩ | he) | ⟨he, hl⟩
    · exact .inl ⟨he, by omega⟩
    · exact .inr he
    · exact .inl ⟨he, by omega⟩
  refine ⟨?_, fun e he => ?_, fun e he => ?_, rising_filter _ _ h4, fun e he => h5 e (List.mem_of_mem_filter he),
    fun e he => ?_⟩
  · show (List.map _ (_ ++ _ ++ _)).Pairwise _
    rw [List.map_append, List.map_append, List.pairwise_append, List.pairwise_append]
    refine ⟨⟨rising_filter _ _ h1, programmedCells_rising _ _, fun a ha b hb => ?_⟩, rising_filter _ _ h1,
      fun a ha b hb => ?_⟩
    · obtain ⟨x, hx, rfl⟩ := List.mem_map.1 ha
      obtain ⟨y, hy, rfl⟩ := List.mem_map.1 hb
      have hxp : x.1 / 64 < page := of_decide_eq_true (List.mem_filter.1 hx).2
      have hyp : y.1 / 64 = page := (hc y hy).1
      omega
    · obtain ⟨y, hy, rfl⟩ := List.mem_map.1 hb
      have hyp : page < y.1 / 64 := of_decide_eq_true (List.mem_filter.1 hy).2
      rcases List.mem_append.1 ha with ha | ha
      · obtain ⟨x, hx, rfl⟩ := List.mem_map.1 ha
        have hxp : x.1 / 64 < page := of_decide_eq_true (List.mem_filter.1 hx).2
        omega
      · obtain ⟨x, hx, rfl⟩ := List.mem_map.1 ha
        have hxp : x.1 / 64 = page := (hc x hx).1
        omega
  · rcases mem e he with ⟨he, -⟩ | he
    · exact h2 e he
    · have := (hc e he).1
      simp only [Config.pageEntries, Config.pageCount] at *
      omega
  · rcases mem e he with ⟨he, -⟩ | he
    · exact h3 e he
    · exact (hc e he).2
  · show lookup (t.torn.filter fun e => e.1 != page) _ = none
    rw [lookup_filter_key fun k => k != page]
    rcases mem e he with ⟨he, -⟩ | he
    · rw [h6 e he, ite_self]
    · simp [(hc e he).1]

/-- Programming and tearing a page leave every other page's entries as they were. -/
theorem Store.program_other (t : Store) (page other i : Nat) (loaded : List (Nat × Entry)) (h : other ≠ page)
    (hi : i < Config.pageEntries) : (t.program page loaded).entry other i = t.entry other i := by
  have hk : (other * Config.pageEntries + i) / Config.pageEntries = other := by
    simp only [Config.pageEntries] at *; omega
  have hn : lookup (programmedCells page loaded) (other * Config.pageEntries + i) = none := by
    cases hf : lookup (programmedCells page loaded) (other * Config.pageEntries + i) with
    | none => rfl
    | some v =>
      unfold lookup at hf
      obtain ⟨e, he, rfl⟩ := Option.map_eq_some_iff.1 hf
      have h1 := (programmedCells_page page loaded e (List.mem_of_find?_eq_some he)).1
      have h2 : e.1 = other * Config.pageEntries + i := by simpa using List.find?_some he
      rw [h2, hk] at h1
      exact absurd h1 h
  unfold Store.entry
  simp only [Store.program, lookup_filter_key fun k => k != page, lookup_append, hn, bne_iff_ne, ne_eq, h,
    not_false_eq_true, if_true, lookup_filter_key fun k => decide (k / Config.pageEntries < page),
    lookup_filter_key fun k => decide (page < k / Config.pageEntries), hk, decide_eq_true_eq, Option.or_none]
  rcases Nat.lt_or_gt_of_ne h with hl | hl
  · simp [hl, Nat.lt_asymm hl]
  · simp [hl, Nat.lt_asymm hl]

theorem Store.tear_other (t : Store) (page id other i : Nat) (h : other ≠ page) (hi : i < Config.pageEntries) :
    (t.tear page id).entry other i = t.entry other i := by
  have hk : (other * Config.pageEntries + i) / Config.pageEntries = other := by
    simp only [Config.pageEntries] at *; omega
  have h' : ¬ page = other := fun e => h e.symm
  unfold Store.entry
  simp only [Store.tear, lookup_insertKey, if_neg h', lookup_filter_key fun k => k != page,
    lookup_filter_key fun k => k / Config.pageEntries != page, hk, bne_iff_ne, ne_eq, h, not_false_eq_true, if_true]

/-- A torn page's entries are its free ones (R183, assumption 4). -/
theorem Store.tear_entry (t : Store) (page id i : Nat) : (t.tear page id).entry page i = tornEntry page id i := by
  simp [Store.entry, Store.tear]

/-- The marker of a torn page is not the page's own number (R181). -/
theorem tornEntry_marker (page id : Nat) (h : page < Config.pageCount) : markerOf (tornEntry page id 0) ≠ page := by
  simp only [Config.pageCount] at h
  unfold tornEntry
  simp only [ne_eq, not_true_eq_false, if_false]
  split
  · rename_i hm
    simp only [markerOf] at hm ⊢
    intro he
    have : ((Config.tornWord id 0 ^^^ 1#32).extractLsb' 0 16) = (Config.tornWord id 0).extractLsb' 0 16 :=
      BitVec.eq_of_toNat_eq (he.trans hm.symm)
    have := congrArg (fun b => b.getLsbD 0) this
    simp at this
  · split
    · rename_i hm hb
      simp only [tornBlank, List.all_eq_true, List.mem_range, beq_iff_eq] at hb
      rw [hb 0 (by decide)]
      simp only [markerOf, blankEntry]
      intro he
      have : (65535 : Nat) = page := by rw [← he]; decide
      omega
    · rename_i hm hb
      exact hm

/-- A torn page is not all blank (R181). -/
theorem tornEntry_not_blank (page id : Nat) (h : page < Config.pageCount) :
    ∃ i, i < Config.pageEntries ∧ tornEntry page id i ≠ blankEntry := by
  by_cases hb : tornBlank id = true
  · refine ⟨0, by decide, ?_⟩
    have hw : Config.tornWord id 0 = blankEntry := by
      simp only [tornBlank, List.all_eq_true, List.mem_range, beq_iff_eq] at hb
      exact hb 0 (by decide)
    unfold tornEntry
    simp only [ne_eq, not_true_eq_false, if_false, hb, if_true, hw]
    split
    · decide
    · decide
  · simp only [tornBlank, List.all_eq_true, List.mem_range, beq_iff_eq, not_forall] at hb
    obtain ⟨i, hi, hw⟩ := hb
    refine ⟨i, hi, ?_⟩
    by_cases h0 : i = 0
    · subst h0
      intro he
      have hm := tornEntry_marker page id h
      rw [he] at hm
      unfold tornEntry at he
      simp only [ne_eq, not_true_eq_false, if_false] at he
      split at he
      · rename_i hp
        have hx : Config.tornWord id 0 = blankEntry ^^^ 1#32 := by
          rw [← he]; simp
        rw [hx] at hp
        have : (65534 : Nat) = page := by rw [← hp]; decide
        simp only [Config.pageCount] at h
        omega
      · split at he
        · rename_i hbl
          simp only [tornBlank, List.all_eq_true, List.mem_range, beq_iff_eq] at hbl
          exact hw (hbl 0 (by decide))
        · exact hw he
    · unfold tornEntry
      simpa [h0] using hw

end Sys2Proof.Machine
end

