-- ==== Sys2Proof/WellFormed.lean ====
section
/-!
DEFINITION. The commands that can arise on the part: an operand outside its range stands for no event of the
hardware. `exec` is total and does not rest on these checks.
-/

namespace Sys2Proof

/-- A frame is at most kind, length, 56 payload octets and the check (R172). -/
def maxFrameOctets : Nat := 60

/-- The converter gives at most 16 bits (R125). -/
def maxCount : Nat := 65535

/-- Whether the operands of a command are ones that the part can meet. -/
def Instr.wellFormed : Instr → Bool
  | .frameReceived _ octets => octets.length ≤ maxFrameOctets
  | .unknownKind _ => true
  | .stopAck port => port != .p
  | .ackTimerExpiry port => port != .p
  | .conversionEnd count => count ≤ maxCount
  | .holdTimerExpiry tank => 80 ≤ tank && tank < 112
  | .powerOn _ | .lineReset _ | .resetHold _ | .linkBreak _ _ | .silenceTimerExpiry _ | .frameSent _ _
  | .summaryTimerExpiry | .readItem | .readRun | .readStow | .readLot | .readResult | .readStrength
  | .readAlarms | .readSetting | .setConstant | .enterLot | .removeLot | .shiftLot | .setDensity | .setManual
  | .releaseManual | .setSetting | .trialBegin | .trialAdd | .trialRun | .ackAlarm | .restart | .storeLoad
  | .storeProgram | .storeDiscard | .storeRead | .programComplete | .liftRequest _ | .liftCancel _
  | .hookLoaded _ | .hookPosition _ | .hookLanded _ | .transferStart | .transferEnd | .transferClear
  | .reservationExpiry _ | .sweepTimerExpiry | .permitJobComplete | .liveJobComplete | .trialJobComplete
  | .testJobComplete => true

end Sys2Proof
end

