-- ==== Sys2Proof/Tests/Slice0.lean ====
section
/-!
SUPPORT. Small tests: each check of WellFormed on a term that it refuses, the manual's worked examples as the tests'
expected results (the rule or chapter stands at each), and for every statement with hypotheses a state and operands that
meet all of them.
-/

namespace Sys2Proof.Tests

open Sys2Proof Sys2Proof.Machine

set_option Elab.async false

/-! ### WellFormed -/

theorem test_frame_of_61_octets_is_refused :
    (Instr.frameReceived .p (List.replicate 61 0)).wellFormed = false := by decide +kernel

theorem test_stop_ack_on_port_p_is_refused : (Instr.stopAck .p).wellFormed = false := by decide

theorem test_ack_timer_of_port_p_is_refused : (Instr.ackTimerExpiry .p).wellFormed = false := by decide

theorem test_count_of_17_bits_is_refused : (Instr.conversionEnd 65536).wellFormed = false := by decide

theorem test_hold_timer_of_a_cargo_address_is_refused : (Instr.holdTimerExpiry 79).wellFormed = false := by decide

theorem test_rows_without_bits_decode_to_nothing : decodeTableWord 16 0 = none := by decide

/-! ### The vessel of the worked case (ch. 3, ch. 4, ch. 6, ch. 2.5) -/

/-- The hull of the worked case, with the lift heel limit and GM minimum of ch. 5. -/
def hull : Hull where
  lbp := 132000
  weight := 52000
  pos := ⟨68400, 0, 8900⟩
  segments := [2000, 2400, 2400, 2600, 2700] ++ List.replicate 11 2800 ++ [2700, 2400, 2200, 1800]
  stations := stationsOf 132000
  mids := midsOf (stationsOf 132000)

/-- The shares of row i. -/
def shares : List Int :=
  [30, 40, 45, 50, 52, 54, 55] ++ List.replicate 6 56 ++ [55, 54, 52, 50, 46, 42, 39]

/-- The two rows of the worked case. -/
def rows : List HydroRow :=
  [⟨84000, 4800, 11100, 67900, 66300, 100000, shares⟩, ⟨88000, 5000, 11020, 67800, 66100, 102000, shares⟩]

/-- One set of allowables, with the values of stations 4 to 16 given. -/
def allowables (sf hog sag : Int) : List Allowable :=
  (List.range 21).map fun k =>
    if k = 0 ∨ k = 20 then ⟨5000, 5000, 5000⟩
    else if k = 1 ∨ k = 19 then ⟨7000, 8000, 7000⟩
    else if k = 2 ∨ k = 18 then ⟨10000, 16000, 14000⟩
    else if k = 3 ∨ k = 17 then ⟨12000, 24000, 21000⟩
    else ⟨sf, hog, sag⟩

/-- The strength limit table of ch. 4's example. -/
def allowed : StrengthTable := ⟨allowables 14000 40000 35000, allowables 12000 36000 31000⟩

/-- Tank 5/3 on channel 11, its table with the two points that R25's example gives between its ends. -/
def tank : TankDef where
  table := [⟨0, 0, 0, 0⟩, ⟨2400, 64000, 1260, 2380⟩, ⟨3600, 112000, 1740, 2420⟩, ⟨6000, 190000, 3000, 3100⟩]
  cx := 66000
  cy := -9000
  channel := some 11
  density := 10250
  maxInertia := 3100
  depth := 6000

/-- Crane 1 of the worked case, and the cranes of pair B from ch. 6's sequence. -/
def crane1 : CraneDef := ⟨75000, 6000, 2200, 18000, 375, 19000, 20000⟩
/-- Crane 3 of ch. 6's sequence. -/
def crane3 : CraneDef := ⟨98000, -4000, 2200, 18000, 400, 21000, 5000⟩
/-- Crane 4 of ch. 6's sequence. -/
def crane4 : CraneDef := ⟨118000, -4000, 2200, 18000, 400, 21000, 5000⟩

/-- A box over the whole frame. -/
def whole : Box := ⟨0, 250000, -25000, 25000, 0, 80000⟩

/-- The working tables of the tests. -/
def vessel : Tables where
  hull := some hull
  hydro := some rows
  strength := some allowed
  limits := some ⟨250, 150, 300, 600⟩
  comps :=
    [(18, ⟨⟨50000, 70000, -10500, 10500, 1000, 20000⟩, 7, 10, .cargo 24000⟩),
      (32, ⟨⟨90000, 110000, -10500, 10500, 1000, 20000⟩, 13, 16, .cargo 20000⟩),
      (83, ⟨⟨60000, 72000, -12000, -6000, 0, 10000⟩, 9, 11, .tank tank⟩),
      (112, ⟨whole, 0, 0, .crane crane1⟩), (114, ⟨whole, 0, 0, .crane crane3⟩), (115, ⟨whole, 0, 0, .crane crane4⟩),
      (116, ⟨whole, 5, 8, .constant ⟨300, ⟨60000, 0, 9000⟩⟩⟩)]
  calib := [(11, ⟨12000, 60000, 12000, 10000, 63000⟩), (32, ⟨12000, 60000, 12000, 10000, 63000⟩)]
  tests := []

/-- Lot 7104 of the worked case. -/
def lot7104 : Lot := ⟨7104, 18000, ⟨60000, 0, 6000⟩, 18, .console, 0⟩

/-- The hook load of the worked case. -/
def load6001 : Load := ⟨1, 6001, 4500, .quay, none, false, none⟩

/-- The live fields of tank 5/3 at 3,000 mm. -/
def tank3000 : TankLive := ⟨3000, .sensor, 10250, 88000, 1500, 2400, 9020, false⟩

/-- The part in SERVICE with lot 7104 stowed, tank 5/3 at 3,000 mm, the constants at 0 weight and every crane idle. -/
def ready : State :=
  { State.reset with
    phase := .running
    elapsed := some 0
    sli.summary := some 1000
    ct :=
      { lots := [lot7104]
        filing := []
        spaces := [(18, .within), (32, .within)]
        tanks := [(83, tank3000)]
        consts := [(116, ⟨0, ⟨60000, 0, 9000⟩⟩)]
        structs := ⟨some ⟨75000, 6000, 18000⟩, none, none, none⟩
        serial := 2417 }
    sev.taken := some 2417
    lcu.hooks := ⟨⟨75000, 6000, 0, .reported⟩, .initial, ⟨98000, -4000, 0, .reported⟩, ⟨118000, -4000, 0, .reported⟩⟩
    tgt.active := [11, 32]
    csv.settings.mask := 0x100000800
    hds.mode := .service
    hds.tables := vessel }

/-- The worked case: C1 HOOKED with lot 6001. -/
def hooked : State :=
  { ready with
    ct.structs.k1 := some ⟨75000, 9000, 18000⟩
    lcu.recs.k1 := .hooked load6001
    lcu.hooks.k1 := ⟨75000, 14000, 32000, .reported⟩ }

/-- A frame at the head of a port's inbound buffer. -/
def fed (s : State) (q : Port) (k : Byte) (p : List Byte) : State :=
  s.setLink q { s.link q with inbound := [⟨k, p⟩] }

/-- The state that a command answers. -/
def after (c : Instr) (s : State) : State :=
  match exec c s with
  | .next t => t
  | .fault _ | .refused _ => s

/-! ### The manual's worked examples -/

/-- R172: the check over the octets 0x31 to 0x39. -/
theorem test_frame_check : crc [0x31, 0x32, 0x33, 0x34, 0x35, 0x36, 0x37, 0x38, 0x39] = 0x29B1 := by decide +kernel

/-- R25's example: tank 5/3 at 3,000 mm, and its weight at density 10,250. -/
theorem test_tank_table : tank.values 3000 = ⟨3000, 88000, 1500, 2400⟩ ∧ liquidWeight 88000 10250 = 9020 := by
  decide +kernel

/-- The live result of a state. -/
def live (s : State) : Option Result := passOver s.tables (s.image .live none) 0 (s.image .live none).live

/-- Ch. 3's worked case, from the sums to the draughts. -/
theorem test_worked_case :
    (live hooked).map (fun r =>
      ([r.disp, r.mx, r.my, r.mz, r.lcg, r.tcg, r.kg, r.fsm, r.fsc, r.t, r.km, r.lcb, r.lcf, r.mct],
        [r.gms, r.gmf, r.heel, r.trim, r.ta, r.tf, r.maxDraught])) =
    some ([85720, 5734620000, 1620000, 767930000, 66899, 19, 8959, 24600000, 287, 4886, 11066, 67857, 66214, 100860],
      [2107, 1820, 104, 814, 5294, 4480, 5294]) := by decide +kernel

/-- Ch. 4's worked example: SF, BM and the utilisations under HARBOUR. -/
theorem test_worked_strength :
    (live hooked).map (fun r => (r.strength.sf, r.strength.sfPm)) =
      some ([0, 571, 1599, 3056, 4742, 6499, 8327, 10241, 7741, 5241, -266, -5773, -13479, -11479, -9565, -7737, -6080,
        -4494, -2951, -1551, 0],
      [0, 81, 159, 254, 338, 464, 594, 731, 552, 374, 19, 412, 962, 819, 683, 552, 434, 374, 295, 221, 0]) ∧
    (live hooked).map (fun r => (r.strength.bm, r.strength.bmPm)) =
      some ([0, 6952440, 19181580, 39611220, 70412760, 112576200, 166570140, 232912680, 297321420, 345230160, 366715800,
        351855240, 293391780, 216098520, 151721460, 99693000, 59165040, 29338980, 9838620, 50160, 0],
      [0, 86, 119, 165, 176, 281, 416, 582, 743, 863, 916, 879, 733, 540, 379, 249, 147, 122, 61, 0, 0]) ∧
    (live hooked).map (fun r => (r.strength.worstSf, r.strength.worstSfPm, r.strength.worstBm, r.strength.worstBmPm)) =
      some (12, 962, 10, 916) := by decide +kernel

/-- Ch. 4: the same condition under SEAGOING. -/
theorem test_worked_seagoing :
    (live { hooked with csv.settings.strength := .seagoing }).map (fun r => (r.strength.worstSfPm, r.strength.worstBmPm))
      = some (1123, 1018) := by decide +kernel

/-- R107's shares in ch. 6's sequence: 8,215 dt at 500 permille. -/
theorem test_tandem_shares : sharesOf 8215 500 = ⟨500, 4108, 4107⟩ := by decide

/-- Ch. 5's example: the counter-ballast moment of candidate 4. -/
theorem test_counter_moment :
    (live hooked).map (fun r => counterMoment 150 { r with disp := 90220, my := 2520000, gmf := 1637, heel := 171 }) =
      some (-304648) ∧ (heelOf 2520000 90220 1637).1 = 171 := by decide +kernel

/-- Ch. 6's example: with C1's hook UNKNOWN the side is port and the heel -9,112. -/
theorem test_worst_point_heel :
    (live { hooked with lcu.hooks.k1 := ⟨75000, 14000, 32000, .unknown⟩ }).map (fun r => (r.my, r.heel)) =
      some (-142155000, -9112) := by decide +kernel

/-- Ch. 6's example: the silence of C1's port moves structure and serial. -/
theorem test_silence_moves_the_structure :
    let s := hooked.setLink .c1 { hooked.link .c1 with state := .active, silence := some 5000 }
    let t := after (.silenceTimerExpiry .c1) s
    t.ct.structs.k1 = some ⟨75000, -1125, 18000⟩ ∧ t.ct.serial = 2418 ∧ (t.hook .k1).source = .unknown := by
  decide +kernel

/-- Ch. 6's example: the report that restores the hook. -/
theorem test_report_restores_the_hook :
    let s := { hooked with lcu.hooks.k1 := ⟨75000, 14000, 32000, .unknown⟩, ct.serial := 2418 }
    let t := after (.hookPosition .k1) (fed s .c1 kHookPosition (octets 3 75000 ++ octets 3 14100 ++ octets 3 32000))
    t.ct.structs.k1 = some ⟨75000, 9038, 18000⟩ ∧ t.ct.serial = 2419 ∧
      (live t).map (fun r => (r.my, r.heel)) = some (2153600, 138) := by decide +kernel

/-! ### Witnesses: a state and operands that meet the hypotheses of each statement -/

/-- `s` with one command waiting. -/
def queued (s : State) (c : Instr) : State := { s with pending := [c] }

/-- `s` with a RESTART accepted and its DONE being sent. -/
def restarting (s : State) : State :=
  { s.setLink .p { s.link .p with sending := some (.frame (.done kRestart .plain)) } with csv.restartPending := true }

/-- `s` with crane 1 GRANTED permit 7 for lot 7104, reserved at its first candidate. -/
def request7104 : Request := ⟨7104, 18000, .space 18, .quay, [⟨⟨75000, 14000⟩, none⟩], 32000, none⟩

/-- A state with crane 1 GRANTED. -/
def granted : State := { ready with lcu.recs.k1 := .granted request7104 7 1 120000 }

/-- The tandem request of ch. 6's sequence, for lot 7104 of space 1/2. -/
def tandemRequest : Request :=
  ⟨7104, 8215, .space 18, .quay, [⟨⟨104000, 8000⟩, some ⟨112000, 8000⟩⟩], 30000, some ⟨500, 4108, 4107⟩⟩

/-- A state with cranes 3 and 4 paired and crane 3 GRANTED a tandem permit. -/
def tandemGranted : State := { ready with lcu.recs.k3 := .granted tandemRequest 18 1 120000, lcu.pairB := true }

/-- The request of the worked case's quay lift. -/
def request6001 : Request := ⟨6001, 4500, .quay, .quay, [⟨⟨75000, 14000⟩, none⟩], 32000, none⟩

/-- Crane 1 PENDING and under evaluation, the image taken now. -/
def pending : State :=
  let s := { ready with lcu.recs.k1 := .pending request6001 0, lcu.queue := [.k1], lcu.inHand := some (.k1, false) }
  { s with sev.state := .busy (s.image .permit (some .k1)) }

/-- The same with a lift heel limit of 103 hu. -/
def pendingTight : State := { pending with hds.tables.limits := some ⟨250, 103, 300, 600⟩ }

/-- The evaluator at a LIVE job. -/
def evaluating (s : State) : State := { s with sev.state := .busy (s.image .live none) }

/-- A LIFT_REQUEST for the pickup of lot 7104 to QUAY, with every range at a boundary. -/
def ask7104 : LiftAsk := ⟨7104, 1, 18, 254, ⟨75000, 14000⟩, ⟨75000, 25000⟩, 2, 19000, 80000, 0, 0, ⟨0, 0⟩, ⟨0, 0⟩⟩

/-- The same without a lot number. -/
def askNothing : LiftAsk := { ask7104 with lot := 0 }

theorem test_step_premises :
    (queued ready .readItem).pending = [.readItem] ∧ ready.pending = [] ∧ State.reset.phase = .off := by decide +kernel

theorem test_invariant_premises :
    ready.wf ∧ ready.rangesWf ∧ ready.shapeWf ∧ ready.noJobWaits ∧ hooked.wf ∧ granted.wf ∧ tandemGranted.wf ∧
      (∃ t, step ready = .next t) ∧ ∃ t, step (queued granted (.reservationExpiry .k1)) = .next t := by
  refine ⟨?_, ?_, ⟨?_, ?_⟩, ?_, ?_, ?_, ?_, ⟨_, rfl⟩, ⟨_, rfl⟩⟩ <;> decide +kernel

theorem test_reset_premises :
    State.reset.phase ≠ .running ∧ ready.phase = .running ∧ State.reset.phase = .off ∧ hooked.phase ≠ .off ∧
      hooked.liftsWf ∧ (fed ready .p kRestart []).takes .p kRestart [] ∧
      (restarting hooked).liftsWf ∧ (restarting hooked).phase = .running ∧ (restarting hooked).csv.restartPending = true ∧
      ((restarting hooked).link .p).sending = some (.frame (.done kRestart .plain)) := by decide +kernel

theorem test_power_on_completes :
    (after (.powerOn false) State.reset).phase = .running ∧ (after (.powerOn true) State.reset).hds.mode = .commissioning
    := by decide +kernel

theorem test_line_reset_keeps_the_hooked_lift :
    (after (.lineReset false) hooked).lift .k1 = .idle ∧ (after (.lineReset false) hooked).hds.dropped = 2 := by
  decide +kernel

theorem test_hold_tears_the_page :
    (after (.resetHold .line) { ready with hds.prog := some (255, 8) }).hds.pageState 255 = .torn := by decide +kernel

theorem test_frame_premises :
    ready.phase = .running ∧ (List.replicate 56 (0 : Byte)).length ≤ 56 ∧ ready.als.held.Nodup ∧
      ([1] : List Byte).length < 2 ∧ 56 < (([1, 57] : List Byte).getD 1 0).toNat ∧
      ([1, 0, 0] : List Byte).length < (([1, 0, 0] : List Byte).getD 1 0).toNat + 4 ∧
      crc (([1, 0, 0, 0] : List Byte).take ((([1, 0, 0, 0] : List Byte).getD 1 0).toNat + 4)) ≠ 0 := by decide +kernel

theorem test_good_frame_joins_the_buffer :
    ((after (.frameReceived .c1 (frameOctets kStopAck [])) ready).link .c1).inbound = [⟨kStopAck, []⟩] := by
  decide +kernel

theorem test_break_and_silence_premises :
    hooked.phase = .running ∧ (.p = Port.p → hooked.csv.restartPending = false) ∧ (ready.link .p).silence = none ∧
      ((ready.setLink .b { ready.link .b with silence := some 2000 }).link .b).silence = some 2000 := by decide +kernel

theorem test_sending_premises :
    ¬ (Port.p = .p ∧ ready.csv.restartPending = true ∧ (ready.link .p).sending = some (.frame (.done kRestart .plain))) ∧
      ready.sli.summary = some 1000 ∧ State.reset.sli.summary = none := by decide +kernel

theorem test_order_is_sent_before_the_queue :
    let l : Link := { Link.initial with
      queue := [.liftExpired 1]
      slot := some (.stop .heel 1)
      waiting := some (.resume 2)
      sending := some .order }
    ((after (.frameSent .c1 false) (ready.setLink .c1 l)).link .c1) =
      { l with slot := some (.resume 2), waiting := none, sending := some .order } := by decide +kernel

theorem test_unknown_kind_premises :
    (fed ready .p 26 []).takes .p 26 [] ∧ (fed ready .c1 54 []).takes .c1 54 [] ∧ (fed ready .b 63 []).takes .b 63 [] := by
  decide +kernel

theorem test_unknown_kind_is_answered :
    (after (.unknownKind .p) (fed ready .p 0 [])).link .p =
      { Link.initial with sending := some (.frame (.refused 0 .unknownKind)) } := by decide +kernel

theorem test_read_premises :
    (fed ready .p kReadItem [127, 41]).takes .p kReadItem (octetsN 1 127 ++ octetsN 1 41) ∧
      (fed ready .p kReadRun [255, 1, 13]).takes .p kReadRun (octetsN 1 255 ++ octetsN 1 1 ++ octetsN 1 13) ∧
      (fed ready .p kReadStow [18, 0, 0, 8]).takes .p kReadStow (octetsN 1 18 ++ octetsN 2 0 ++ octetsN 1 8) ∧
      (fed ready .p kReadLot [0, 0]).takes .p kReadLot (octetsN 2 0) ∧
      (fed ready .p kReadResult [1]).takes .p kReadResult (octetsN 1 1) ∧
      (fed ready .p kReadStrength [0, 20, 3]).takes .p kReadStrength (octetsN 1 0 ++ octetsN 1 20 ++ octetsN 1 3) ∧
      (fed ready .p kReadAlarms [31]).takes .p kReadAlarms (octetsN 1 31) ∧
      (fed ready .p kReadSetting [16]).takes .p kReadSetting (octetsN 1 16) := by decide +kernel

theorem test_read_lot_premises :
    (fed ready .p kReadLot (octetsN 2 7104)).takes .p kReadLot (octetsN 2 7104) ∧
      ready.ct.lots.find? (fun e => e.num == 7104) = some lot7104 ∧
      (fed hooked .p kReadLot (octetsN 2 6001)).takes .p kReadLot (octetsN 2 6001) ∧
      (∀ l ∈ hooked.ct.lots, l.num ≠ 6001) ∧ hooked.lift .k1 = .hooked load6001 := by decide +kernel

theorem test_read_stow_lists_lot_7104 :
    (after .readStow (fed ready .p kReadStow [18, 0, 0, 8])).link .p =
      { Link.initial with sending := some (.frame (.stow 18 1 (some (1, 18000)) 0 [(7104, 18000)])) } := by decide +kernel

theorem test_constant_premises :
    weightOnWire 60000 ∧ (⟨250000, -25000, 80000⟩ : Pos).onWire ∧
      (fed ready .p kSetConstant (octetsN 1 4 ++ octets 3 60000 ++ posOctets ⟨250000, -25000, 80000⟩)).takes .p kSetConstant
        (octetsN 1 4 ++ octets 3 60000 ++ posOctets ⟨250000, -25000, 80000⟩) ∧
      (vessel.const 116).isSome = true := by decide +kernel

theorem test_lot_premises :
    weightOnWire 20000 ∧ (⟨50000, -10500, 1000⟩ : Pos).onWire ∧
      (fed ready .p kEnterLot (octetsN 2 65535 ++ octetsN 1 18 ++ octets 3 20000 ++ posOctets ⟨50000, -10500, 1000⟩)).takes
        .p kEnterLot (octetsN 2 65535 ++ octetsN 1 18 ++ octets 3 20000 ++ posOctets ⟨50000, -10500, 1000⟩) ∧
      (fed ready .p kRemoveLot (octetsN 2 7104)).takes .p kRemoveLot (octetsN 2 7104) ∧
      ready.ct.lots.length ≤ Config.poolSize ∧
      (fed ready .p kShiftLot (octetsN 2 7104 ++ octetsN 1 32 ++ posOctets ⟨110000, 10500, 20000⟩)).takes .p kShiftLot
        (octetsN 2 7104 ++ octetsN 1 32 ++ posOctets ⟨110000, 10500, 20000⟩) ∧
      (⟨110000, 10500, 20000⟩ : Pos).onWire := by decide +kernel

theorem test_enter_lot_over_capacity :
    let t := after .enterLot (fed ready .p kEnterLot
      (octetsN 2 65535 ++ octetsN 1 18 ++ octets 3 20000 ++ posOctets ⟨50000, -10500, 1000⟩))
    t.ct.lots = [lot7104, ⟨65535, 20000, ⟨50000, -10500, 1000⟩, 18, .console, 0⟩] ∧ t.ct.serial = 2418 ∧
      lookup t.ct.spaces 18 = some .over := by decide +kernel

theorem test_remove_lot_files_the_waiting_load :
    let s := { ready with
      ct.lots := lot7104 :: List.replicate 511 ⟨1, 1, ⟨0, 0, 0⟩, 32, .console, 0⟩
      ct.filing := [⟨.k1, 9, 50, ⟨100000, 0, 2000⟩, 32, 3⟩]
      lcu.recs.k1 := .unfiled 9 50 }
    let t := after .removeLot (fed s .p kRemoveLot (octetsN 2 7104))
    t.ct.lots.length = 512 ∧ t.ct.filing = [] ∧ t.lift .k1 = .idle ∧ t.ct.serial = 2419 := by decide +kernel

theorem test_tank_premises :
    (fed ready .p kSetDensity (octetsN 1 83 ++ octetsN 2 5999)).takes .p kSetDensity (octetsN 1 83 ++ octetsN 2 5999) ∧
      ready.tank 83 = some tank3000 ∧ vessel.tank 83 = some tank ∧ 0 ≤ tank.depth ∧ weightOnWire 6001 ∧
      (fed ready .p kSetManual (octetsN 1 83 ++ octets 3 6001)).takes .p kSetManual (octetsN 1 83 ++ octets 3 6001) ∧
      (fed ready .p kReleaseManual (octetsN 1 83)).takes .p kReleaseManual (octetsN 1 83) := by decide +kernel

theorem test_manual_sounding_is_clamped :
    ((after .setManual (fed ready .p kSetManual (octetsN 1 83 ++ octets 3 6001))).tank 83).map
      (fun e => (e.sounding, e.source, e.volume)) = some (6000, .manual, 190000) := by decide +kernel

theorem test_setting_premises :
    (fed ready .p kSetSetting (octetsN 1 12 ++ octetsN 5 0)).takes .p kSetSetting (octetsN 1 12 ++ octetsN 5 0) ∧
      (12, 1000, 20000) ∈ numericSettings ∧
      (fed ready .p kSetSetting (octetsN 1 13 ++ octetsN 5 1)).takes .p kSetSetting (octetsN 1 13 ++ octetsN 5 1) ∧
      (fed ready .p kSetSetting (octetsN 1 5 ++ octetsN 5 (2 ^ 36))).takes .p kSetSetting
        (octetsN 1 5 ++ octetsN 5 (2 ^ 36)) ∧ 2 ^ 36 % 2 ^ 36 = 0 ∧ ready.settings.mask ≠ 0 ∧
      (fed ready .p kSetSetting (octetsN 1 5 ++ octetsN 5 (2 ^ 40 - 1))).takes .p kSetSetting
        (octetsN 1 5 ++ octetsN 5 (2 ^ 40 - 1)) ∧ (2 ^ 40 - 1) % 2 ^ 36 ≠ 0 ∧
      (fed ready .p kSetSetting (octetsN 1 0 ++ octetsN 5 0)).takes .p kSetSetting (octetsN 1 0 ++ octetsN 5 0) ∧
      (fed ready .p kSetSetting (octetsN 1 16 ++ octetsN 5 1)).takes .p kSetSetting (octetsN 1 16 ++ octetsN 5 1) := by
  decide +kernel

theorem test_draught_limit_moves_the_serial :
    let t := after .setSetting (fed ready .p kSetSetting (octetsN 1 12 ++ octetsN 5 1))
    t.settings.draughtLimit = 1000 ∧ t.ct.serial = 2418 := by decide +kernel

theorem test_trial_premises :
    (fed ready .p kTrialBegin []).takes .p kTrialBegin [] ∧
      (fed ready .p kTrialAdd (TrialChange.setSounding 254 80000).payload).takes .p kTrialAdd
        (TrialChange.setSounding 254 80000).payload ∧
      (fed ready .p kTrialAdd (TrialChange.hang .k4 1 ⟨250000, 25000⟩ 80000).payload).takes .p kTrialAdd
        (TrialChange.hang .k4 1 ⟨250000, 25000⟩ 80000).payload ∧
      (fed ready .p kTrialAdd (octetsN 1 6 ++ [])).takes .p kTrialAdd (octetsN 1 6 ++ []) ∧
      ready.csv.trial.length < 16 ∧ 16 ≤ (List.replicate 16 (TrialChange.removeLot 1)).length ∧
      254 ∈ (TrialChange.setSounding 254 80000).address ∧ (∀ a ∈ (TrialChange.removeLot 65535).address, a < 128) ∧
      128 ∈ (TrialChange.setSounding 128 0).address ∧ (fed ready .p kTrialRun []).takes .p kTrialRun [] := by
  decide +kernel

theorem test_trial_ranges_are_met :
    (TrialChange.setSounding 254 80000).onWire ∧ (TrialChange.setSounding 254 80000).inRange ∧
      (TrialChange.hang .k4 1 ⟨250000, 25000⟩ 80000).onWire ∧ (TrialChange.hang .k4 1 ⟨250000, 25000⟩ 80000).inRange ∧
      (TrialChange.setSounding 80 80001).onWire ∧ ¬ (TrialChange.setSounding 80 80001).inRange := by
  refine ⟨?_, ?_, ?_, ?_, ?_, ?_⟩ <;> simp only [TrialChange.onWire, TrialChange.inRange] <;> decide +kernel

theorem test_ack_premises :
    (ready.als.entries.map AlarmEntry.key).Nodup ∧
      (fed ready .p kAckAlarm (octetsN 1 25 ++ octetsN 1 255)).takes .p kAckAlarm (octetsN 1 25 ++ octetsN 1 255) := by
  decide +kernel

/-- A part in COMMISSIONING. -/
def commissioning : State := { ready with hds.mode := .commissioning }

/-- Page 255 being programmed, from a buffer with two entries. -/
def programming : State :=
  { commissioning with hds.prog := some (255, 8), hds.buffer := ⟨255, [(0, 0x0001FFFF), (63, 9)]⟩ }

theorem test_store_premises :
    ready.hds.mode ≠ .commissioning ∧ (fed ready .p kStoreLoad (List.replicate 50 0)).takes .p kStoreLoad
        (List.replicate 50 0) ∧ (50 - 2) % 4 = 0 ∧
      (fed ready .p kStoreProgram [0]).takes .p kStoreProgram [0] ∧
      (fed ready .p kStoreDiscard []).takes .p kStoreDiscard [] ∧
      (fed ready .p kStoreRead [0, 0, 1]).takes .p kStoreRead [0, 0, 1] ∧
      commissioning.hds.mode = .commissioning ∧
      (fed commissioning .p kStoreLoad (octetsN 1 255 ++ octetsN 1 63 ++
          ([7#32, 8#32]).flatMap fun (w : Entry) => octetsN 4 w.toNat)).takes .p kStoreLoad
        (octetsN 1 255 ++ octetsN 1 63 ++ ([7#32, 8#32]).flatMap fun (w : Entry) => octetsN 4 w.toNat) ∧
      (fed commissioning .p kStoreProgram (octetsN 1 255)).takes .p kStoreProgram (octetsN 1 255) ∧
      (fed commissioning .p kStoreDiscard []).takes .p kStoreDiscard [] ∧
      (fed commissioning .p kStoreRead (octetsN 1 255 ++ octetsN 1 63 ++ octetsN 1 12)).takes .p kStoreRead
        (octetsN 1 255 ++ octetsN 1 63 ++ octetsN 1 12) ∧
      programming.hds.prog = some (255, 8) := by
  refine ⟨?_, ?_, ?_, ?_, ?_, ?_, ?_, ?_, ?_, ?_, ?_, ?_⟩ <;> decide +kernel

theorem test_a_page_is_programmed :
    let t := after .programComplete programming
    t.hds.store.entry 255 0 = 0x000100FF ∧ t.hds.store.entry 255 63 = 9 ∧ t.hds.store.entry 255 1 = 0xFFFFFFFF ∧
      t.hds.pageState 255 = .written ∧ t.now = 8 := by decide +kernel

theorem test_lift_request_premises :
    ask7104.onWire ∧ vessel.crane .k1 = some crane1 ∧ ¬ ask7104.outOfRange ∧
      (fed ready .c1 kLiftRequest ask7104.payload).takes (portOf .k1) kLiftRequest ask7104.payload ∧
      askNothing.outOfRange ∧ ready.hds.mode = .service ∧ commissioning.hds.mode ≠ .service := by
  refine ⟨?_, ?_, ?_, ?_, ?_, ?_, ?_⟩ <;> decide +kernel

theorem test_lift_request_is_queued :
    let t := after (.liftRequest .k1) (fed ready .c1 kLiftRequest ask7104.payload)
    t.lcu.queue = [.k1] ∧ t.lcu.inHand = some (.k1, false) ∧ t.lift .k1 = .pending
      ⟨7104, 18000, .space 18, .quay, [⟨⟨75000, 14000⟩, none⟩, ⟨⟨75000, 25000⟩, none⟩, ⟨⟨75000, -13000⟩, none⟩,
        ⟨⟨75000, 25000⟩, none⟩], 80000, none⟩ 0 := by decide +kernel

theorem test_cancel_premises :
    (fed granted .c1 kLiftCancel (octetsN 1 7)).takesAt .k1 kLiftCancel (octetsN 1 7) := by decide +kernel

theorem test_deadline_premises :
    (ready.tgt.gauge 80).hold = none ∧
      (({ ready with tgt.gauges := [(111, ⟨false, some 60000⟩)] } : State).tgt.gauge 111).hold = some 60000 := by
  decide +kernel

theorem test_permitted_lift_off_premises :
    granted.liftsWf ∧ weightOnWire 18010 ∧ (⟨75000, 14000⟩ : Pt).onWire ∧ weightOnWire 32000 ∧
      granted.lift .k1 = .granted request7104 7 1 120000 ∧ vessel.crane .k1 = some crane1 ∧ request7104.cands ≠ [] ∧
      (fed granted .c1 kHookLoaded (hookLoadedPayload 7 7104 18010 18 ⟨75000, 14000⟩ 32000)).takes (portOf .k1)
        kHookLoaded (hookLoadedPayload 7 7104 18010 18 ⟨75000, 14000⟩ 32000) ∧
      tandemGranted.liftsWf ∧ tandemGranted.lift .k3 = .granted tandemRequest 18 1 120000 ∧
      vessel.crane .k3 = some crane3 ∧
      (fed tandemGranted .c3 kHookLoaded (hookLoadedPayload 18 7104 8230 18 ⟨104000, 8000⟩ 30000)).takes (portOf .k3)
        kHookLoaded (hookLoadedPayload 18 7104 8230 18 ⟨104000, 8000⟩ 30000) := by decide +kernel

/-- Ch. 6's sequence, event 5: the shares formed again, and the partner's record. -/
theorem test_tandem_lift_off :
    let s := fed tandemGranted .c3 kHookLoaded (hookLoadedPayload 18 7104 8230 18 ⟨104000, 8000⟩ 30000)
    let t := after (.hookLoaded .k3) (s.setLink .c4 { s.link .c4 with state := .active })
    t.lift .k4 = .partner 7104 .k3 ∧ t.hook .k4 = ⟨112000, 8000, 30000, .reported⟩ ∧ t.ct.lots = [] ∧
      t.lift .k3 = .hooked ⟨18, 7104, 8230, .space 18, some .quay, false, some ⟨500, 4115, 4115⟩⟩ := by decide +kernel

theorem test_unpermitted_lift_off_premises :
    ready.liftsWf ∧ weightOnWire 0 ∧ (⟨16777215, -8388608⟩ : Pt).onWire ∧ weightOnWire 16777215 ∧
      ready.lift .k1 = .idle ∧ (isUpper Crane.k1 && ready.lcu.paired .k1) = false ∧
      (fed ready .c1 kHookLoaded (hookLoadedPayload 255 65535 0 254 ⟨16777215, -8388608⟩ 16777215)).takes (portOf .k1)
        kHookLoaded (hookLoadedPayload 255 65535 0 254 ⟨16777215, -8388608⟩ 16777215) ∧
      granted.lift .k1 = .granted request7104 7 1 120000 ∧ ¬ (8 = 7 ∧ 7104 = request7104.lot) := by decide +kernel

/-- A full pool, and crane 1 with a landed load that waits for a record. -/
def waiting : State :=
  { ready with
    ct.lots := (List.range 512).map fun n => ⟨n + 1, 1, ⟨60000, 0, 6000⟩, 18, .console, 0⟩
    ct.filing := [⟨.k1, 513, 50, ⟨110000, 0, 5000⟩, 32, 3⟩]
    lcu.recs.k1 := .unfiled 513 50 }

theorem test_waiting_lots_are_distinct : waiting.heldLots.Nodup := by
  have e : waiting.heldLots = (List.range 513).map (· + 1) := by decide +kernel
  rw [e]
  exact List.nodup_range.map fun a b h => by simpa using h

/-- The same statement's premises from PENDING, and from LANDED_UNFILED with the same lot. -/
theorem test_unpermitted_from_other_states_premises :
    pending.liftsWf ∧ pending.lift .k1 = .pending request6001 0 ∧
      (fed pending .c1 kHookLoaded (hookLoadedPayload 0 6001 4500 254 ⟨75000, 14000⟩ 32000)).takes (portOf .k1)
        kHookLoaded (hookLoadedPayload 0 6001 4500 254 ⟨75000, 14000⟩ 32000) ∧
      waiting.liftsWf ∧ waiting.lift .k1 = .unfiled 513 50 ∧
      (fed waiting .c1 kHookLoaded (hookLoadedPayload 0 513 50 32 ⟨75000, 14000⟩ 32000)).takes (portOf .k1)
        kHookLoaded (hookLoadedPayload 0 513 50 32 ⟨75000, 14000⟩ 32000) := by
  refine ⟨?_, ?_, ?_, ⟨test_waiting_lots_are_distinct, ?_⟩, ?_, ?_⟩ <;> decide +kernel

/-- R96: a request under evaluation leaves the queue at an unpermitted lift-off, and its evaluation is discarded. -/
theorem test_unpermitted_lift_off_discards_the_request :
    let t := after .permitJobComplete (after (.hookLoaded .k1)
      (fed pending .c1 kHookLoaded (hookLoadedPayload 0 6001 4500 254 ⟨75000, 14000⟩ 32000)))
    t.lcu.queue = [] ∧ t.lcu.inHand = none ∧ t.lift .k1 = .hooked ⟨0, 6001, 4500, .quay, none, true, none⟩ := by
  decide +kernel

theorem test_hook_report_premises :
    (⟨94380, 6000⟩ : Pt).onWire ∧ weightOnWire 0 ∧ vessel.crane .k1 = some crane1 ∧
      (fed ready .c1 kHookPosition (ptOctets ⟨94380, 6000⟩ ++ octets 3 0)).takes (portOf .k1) kHookPosition
        (ptOctets ⟨94380, 6000⟩ ++ octets 3 0) := by decide +kernel

/-- R112's factor: 1.02 of 19,000 mm is 19,380 mm, plausible; one millimetre more is not. -/
theorem test_plausible_reach :
    crane1.plausible ⟨94380, 6000⟩ = true ∧ crane1.plausible ⟨94381, 6000⟩ = false := by decide +kernel

theorem test_landing_premises :
    (⟨50000, 0, 1000⟩ : Pos).onWire ∧ (isUpper Crane.k1 && hooked.lcu.paired .k1) = false ∧
      hooked.lift .k1 = .hooked load6001 ∧
      (fed hooked .c1 kHookLanded (octetsN 1 18 ++ posOctets ⟨50000, 0, 1000⟩)).takesAt .k1 kHookLanded
        (octetsN 1 18 ++ posOctets ⟨50000, 0, 1000⟩) ∧
      (fed hooked .c1 kHookLanded (octetsN 1 254 ++ posOctets ⟨50000, 0, 1000⟩)).takesAt .k1 kHookLanded
        (octetsN 1 254 ++ posOctets ⟨50000, 0, 1000⟩) := by decide +kernel

theorem test_landing_is_clamped_and_filed :
    let t := after (.hookLanded .k1) (fed hooked .c1 kHookLanded (octetsN 1 18 ++ posOctets ⟨49999, 0, 999⟩))
    t.ct.lots = [lot7104, ⟨6001, 4500, ⟨50000, 0, 1000⟩, 18, .crane .k1, 0⟩] ∧ t.lift .k1 = .idle ∧
      t.ct.serial = 2418 := by decide +kernel

/-- A port with an outstanding order. -/
def ordered (q : Port) (v : StopState) : State := ready.setStopPort q ⟨v, if v = .sent then some 3000 else none⟩

theorem test_stop_premises :
    (fed (ordered .c1 .sent) .c1 kStopAck []).takes .c1 kStopAck [] ∧ (vessel.crane .k1).isSome = true ∧
      ((fed (ordered .b .unanswered) .b kStopAck []).stopPort .b).state = .unanswered ∧
      (ordered .c1 .sent).stopPort .c1 = ⟨.sent, some 3000⟩ ∧ ((ordered .b .acked).stopPort .b).state ≠ .sent ∧
      (ordered .b .unanswered).als.held.Nodup := by decide +kernel

theorem test_acknowledgement_in_time :
    ((after (.stopAck .c1) (fed (ordered .c1 .sent) .c1 kStopAck [])).stopPort .c1) = ⟨.acked, none⟩ := by decide +kernel

theorem test_transfer_premises :
    (fed ready .b kTransferStart (octetsN 1 4 ++ octetsN 1 254 ++ octetsN 1 83)).takes .b kTransferStart
        (octetsN 1 4 ++ octetsN 1 254 ++ octetsN 1 83) ∧
      (fed ready .b kTransferEnd (octetsN 1 5)).takes .b kTransferEnd (octetsN 1 5) ∧
      (fed ready .b kTransferClear []).takes .b kTransferClear [] := by decide +kernel

/-- R53 and ch. 3's note: with tank 5/3 in transfer its largest inertia, 3,100, counts, and FSC is 371. -/
theorem test_transfer_counts_the_largest_surface :
    let t := after .transferStart (fed hooked .b kTransferStart (octetsN 1 4 ++ octetsN 1 254 ++ octetsN 1 83))
    (t.tank 83).map TankLive.inTransfer = some true ∧ (live t).map Result.fsc = some 371 := by decide +kernel

/-- The sweep at channel 11, or at draught channel 32, at resolution 14. -/
def converting (ch : Nat) : State := { ready with tgt.sweep := .running [ch, 32] 14 16, tgt.timer := some 1000 }

theorem test_gauging_premises :
    ready.tgt.timer = none ∧ (converting 11).tgt.timer = some 1000 ∧ (converting 11).tgt.sweep ≠ .idle ∧
      ({ ready with tgt.timer := some 1000 } : State).tgt.sweep = .idle ∧ ready.settings.mask ≠ 0 ∧
      (converting 11).tgt.sweep = .running [11, 32] 14 16 ∧ ready.hds.mode ≠ .starting ∧
      lookup (converting 11).tgt.chans 11 = some ⟨.unswept, none, none⟩ ∧ vessel.tankOf 11 = some (83, tank) ∧
      lookup (converting 11).ct.tanks 83 = some tank3000 ∧ vessel.tankOf 32 = none ∧
      lookup vessel.calib 11 = some ⟨12000, 60000, 12000, 10000, 63000⟩ ∧
      (⟨12000, 60000, 12000, 10000, 63000⟩ : Calibration).reading ((6000 % 2 ^ 14 * 2 ^ (16 - 14) : Nat) : Int) = some 3000
      := by decide +kernel

theorem test_calibrated_range_is_not_negative :
    ∀ k, lookup vessel.calib 11 = some k → 0 ≤ k.range := by
  intro k h
  have e : lookup vessel.calib 11 = some ⟨12000, 60000, 12000, 10000, 63000⟩ := by decide +kernel
  rw [e] at h
  cases h
  decide

/-- R127: 3,250 mm lies 250 mm off, above the step limit of 200, and becomes the candidate. -/
theorem test_step_becomes_the_candidate :
    let t := after (.conversionEnd 6250) (converting 11)
    (t.tgt.chan 11).candidate = some 3250 ∧ t.ct = ready.ct ∧ t.tgt.sweep = .running [32] 14 32 := by decide +kernel

theorem test_job_premises :
    (∃ img, pending.sev.state = .busy img ∧ img.kind = .permit ∧ img.crane = some .k1 ∧ img.serial = pending.ct.serial) ∧
      pending.lift .k1 = .pending request6001 0 ∧ pending.lcu.inHand = some (.k1, false) ∧ vessel.usable = true ∧
      request6001.cands ≠ [] := by
  refine ⟨⟨_, rfl, rfl, rfl, rfl⟩, ?_⟩
  decide +kernel

theorem test_permit_is_granted :
    let t := after .permitJobComplete pending
    t.lift .k1 = .granted request6001 1 1 120000 ∧ t.lcu.counter = 2 ∧ t.lcu.queue = [] ∧ t.lcu.inHand = none := by
  decide +kernel

/-- A lift heel limit of 103 hu under the worked case's 104: HEEL, number 0, at candidate 1, and port B is advised. -/
theorem test_permit_is_refused_on_heel :
    let t := after .permitJobComplete pendingTight
    t.lift .k1 = .idle ∧ t.lcu.counter = 1 ∧
      (match (t.link .c1).sending with
        | some (.frame (.liftRefused 0 1 2417 (.heel _ m))) => decide (m ≠ 0)
        | _ => false) = true ∧ (t.link .b).sending.isSome = true := by decide +kernel

theorem test_live_premises :
    (evaluating hooked).als.held.Nodup ∧ (∃ img r, (evaluating hooked).sev.state = .busy img ∧ img.kind = .live ∧
      passOver (evaluating hooked).tables img 0 img.live = some r) ∧
      (evaluating hooked).queueWf ∧ ((evaluating hooked).stopPort .p).state = .none ∧
      (evaluating hooked).hds.mode ≠ .starting := by
  refine ⟨by decide +kernel, ⟨_, _, rfl, rfl, rfl⟩, ?_⟩
  decide +kernel

/-- A stop heel limit of 103 hu under the worked case's 104: the stop reaches C1, and the resume ends it. -/
theorem test_stop_and_resume :
    let s := { hooked with hds.tables.limits := some ⟨103, 103, 0, 0⟩ }
    let t := after .liveJobComplete (evaluating s)
    let u := after .liveJobComplete (evaluating { t with hds.tables.limits := some ⟨104, 104, 0, 0⟩ })
    t.lmn.stop = some (.heel, 2417) ∧ t.stopPort .c1 = ⟨.sent, some 3000⟩ ∧
      (t.link .c1).slot = some (.stop .heel 2417) ∧ t.stopPort .b = ⟨.none, none⟩ ∧ u.lmn.stop = none ∧
      u.stopPort .c1 = ⟨.none, none⟩ ∧ (u.link .c1).waiting = some (.resume 2417) := by decide +kernel

/-- A part at a TRIAL job with one change. -/
def trying (ch : TrialChange) : State :=
  let s := { ready with csv.trial := [ch], csv.trialState := .running, csv.outcome := .pending }
  { s with sev.state := .busy (s.image .trial none) }

/-- A test condition of the lightship alone, every expected figure 0. -/
def testCondition : TestCondition := ⟨[⟨1, ⟨66000, 0, 0⟩, none⟩], 0, ⟨0, 0, 0, 0, 0, 0, 0, 0, 0, 0⟩, true⟩

/-- The evaluator at a TEST job. -/
def testing : State :=
  { ready with
    hds.mode := .starting
    hds.stage := .tests [{ testCondition with runnable := false }, testCondition]
    sev.state := .busy { ready.image .test none with strength := .harbour, test := some testCondition } }

theorem test_trial_and_test_premises :
    (∃ img sc r, (trying (.removeLot 7104)).sev.state = .busy img ∧ img.kind = .trial ∧
      Scene.changes vessel img.recs img.reserved 1 img.trial = .ok sc ∧ passOver vessel img 0 sc = some r) ∧
    (∃ img, (trying (.removeLot 1)).sev.state = .busy img ∧ img.kind = .trial ∧
      Scene.changes vessel img.recs img.reserved 1 img.trial = .error 1) ∧
    ∃ img r, testing.sev.state = .busy img ∧ img.kind = .test ∧ img.test = some testCondition ∧
      testPass vessel img testCondition = some r :=
  ⟨⟨_, _, _, rfl, rfl, rfl, rfl⟩, ⟨_, rfl, rfl, rfl⟩, _, _, rfl, rfl, rfl, rfl⟩

/-- Ch. 10's sequence, event 9: the third change names a lot that the first has taken out of the image. -/
theorem test_trial_with_an_inconsistent_change :
    let s := trying (.removeLot 7104)
    let list : List TrialChange :=
      [.removeLot 7104, .addLot 7210 18 6000 ⟨61000, 2000, 6000⟩, .shiftLot 7104 18 ⟨59000, 0, 6000⟩]
    (after .trialJobComplete (evaluating s)).csv.trialState = .running ∧
      (after .trialJobComplete { s with sev.state := .busy { s.image .trial none with trial := list } }).csv.outcome =
        .invalid 3 2417 := by decide +kernel

theorem test_test_condition_fails_on_its_first_figure :
    let t := after .testJobComplete testing
    t.hds.verdicts = [.fail 1, .notRun] ∧ t.hds.stage = .tests [] ∧ t.hds.testFail = true := by decide +kernel

/-- The premises of the pass and of its strength, in the worked case and for the test condition, and a heel at the end
of its range. -/
theorem test_result_premises :
    vessel.wf ∧ vessel.hull = some hull ∧ vessel.hydro = some rows ∧ vessel.strength.isSome = true ∧
      (live hooked).isSome = true ∧ (∀ it ∈ (hooked.image .live none).live.hung, it.reach = .point) ∧
      (testPass vessel (testing.image .test none) testCondition).isSome = true ∧
      (∀ it ∈ testCondition.items, it.span = none) ∧ (rows.map HydroRow.disp).Pairwise (· < ·) ∧
      (live hooked).all (fun r => decide (0 < r.disp) && decide (0 < r.gmf)) = true ∧ (heelOf 0 1 0).1 = 10000 := by
  decide +kernel

/-! ### Witnesses of the reset line, the gate of a frame, the refusals and the start-up -/

/-- A part whose reset line is held, without power. -/
def lineHeld : State := { State.reset with line := true }

theorem test_reset_line_premises :
    lineHeld.phase = .off ∧ lineHeld.line = true ∧ State.reset.line = false ∧ (restarting ready).noJobWaits ∧
      ready.line = false ∧ frameKind .readItem = some (.p, 1) ∧ (after (.resetHold .line) hooked).phase = .held ∧
      (after (.resetHold .line) hooked).liftsWf := by decide +kernel

/-- R184: power that comes back under a held line leaves the part in reset, and the release ends it. -/
theorem test_power_on_under_a_held_line :
    (after (.powerOn false) lineHeld).phase = .held ∧ (after (.powerOn false) lineHeld).line = true ∧
      (after (.lineReset false) (after (.powerOn false) lineHeld)).phase = .running ∧
      after (.lineReset false) lineHeld = State.reset ∧
      (after (.resetHold .line) (after (.resetHold .power) hooked)).phase = .off := by decide +kernel

theorem test_frame_gate_premises :
    testing.hds.mode = .starting ∧ frameKind (.hookPosition .k2) = some (.c2, 51) ∧ ready.noJobWaits ∧
      8 ≤ ((ready.setLink .b { ready.link .b with queue := List.replicate 8 (.liftExpired 1) }).link .b).queue.length ∧
      (ready.link .c1).inbound = [] := by decide +kernel

theorem test_misfit_frame_premises :
    (fed ready .p 4 [0]).noJobWaits ∧ (fed ready .p 4 [0]).takes .p 4 [0] ∧
      frameKind .readLot = some (.p, 4) ∧ frameKind .readItem ≠ some (.p, 4) ∧ (4, 1) ∉ kindLengths ∧
      (fed ready .c2 51 (List.replicate 9 0)).takes .c2 51 (List.replicate 9 0) ∧ (51, 9) ∈ kindLengths ∧
      craneOfPort .c2 = some .k2 ∧ vessel.crane .k2 = none := by decide +kernel

theorem test_wrong_length_does_not_fit : ¬ fitsKind 4 [0] ∧ fitsKind 51 (List.replicate 9 0) := by
  constructor <;> simp [fitsKind] <;> decide +kernel

/-- R173, R179: a READ_LOT of one octet; R6, R80: a report on the port of an undefined crane. -/
theorem test_gate_answers :
    (after .readLot (fed ready .p 4 [0])).link .p =
        { Link.initial with sending := some (.frame (.refused 4 .badField)) } ∧
      (after (.hookPosition .k2) (fed ready .c2 51 (List.replicate 9 0))).link .c2 =
        { Link.initial with sending := some (.frame (.refused 51 .badSpace)) } := by decide +kernel

/-- Twenty-four ADVISORY entries in one state. -/
def crowded (v : EntryState) : State :=
  { ready with als.entries := (List.range 24).map fun n => ⟨⟨.sensorFault, .addr n⟩, v, 7⟩ }

/-- R154, R155: a LIMIT entry displaces the oldest ADVISORY entry and sets its marker, an ADVISORY one that finds no
cleared entry is not listed, and is listed at the next raise that finds room. -/
theorem test_full_list :
    let s := (crowded .activeUnack).raise ⟨.heelLimit, .none⟩
    let t := (crowded .activeUnack).raise ⟨.overrun, .port .b⟩
    s.als.entries.length = 24 ∧ s.als.markAdvisory = true ∧ s.als.markLimit = false ∧
      s.als.entries.getLast? = some ⟨⟨.heelLimit, .none⟩, .activeUnack, 0⟩ ∧
      t.als.entries = (crowded .activeUnack).als.entries ∧ t.als.markAdvisory = true ∧
      (⟨.overrun, .port .b⟩ : AlarmKey) ∈ t.als.held ∧
      ({ t with als.entries := [] }.raise ⟨.overrun, .port .b⟩).als.entries.length = 1 ∧
      (⟨.overrun, .port .b⟩ : AlarmKey) ∉ ready.als.held ∧ (crowded .clearedUnack).als.held = [] := by decide +kernel

/-- Cranes 3 and 4 paired and idle. -/
def pairedB : State := { ready with lcu.pairB := true }

/-- A state with a stop standing. -/
def stopped (s : State) : State := { s with lmn.stop := some (.heel, 2417) }

theorem test_lift_off_refusal_premises :
    (isUpper Crane.k4 && pairedB.lcu.paired .k4) = true ∧ vessel.crane .k4 = some crane4 ∧
      (fed pairedB .c4 kHookLoaded (hookLoadedPayload 0 1 1 254 ⟨118000, 0⟩ 0)).takes (portOf .k4) kHookLoaded
        (hookLoadedPayload 0 1 1 254 ⟨118000, 0⟩ 0) ∧
      (fed ready .c1 kHookLoaded (hookLoadedPayload 0 0 1 254 ⟨75000, 0⟩ 0)).takes (portOf .k1) kHookLoaded
        (hookLoadedPayload 0 0 1 254 ⟨75000, 0⟩ 0) ∧
      (fed ready .c1 kHookLoaded (hookLoadedPayload 0 1 1 255 ⟨75000, 0⟩ 0)).takes (portOf .k1) kHookLoaded
        (hookLoadedPayload 0 1 1 255 ⟨75000, 0⟩ 0) ∧
      (fed hooked .c1 kHookLoaded (hookLoadedPayload 1 6001 1 254 ⟨75000, 0⟩ 0)).takes (portOf .k1) kHookLoaded
        (hookLoadedPayload 1 6001 1 254 ⟨75000, 0⟩ 0) ∧ hooked.lift .k1 = .hooked load6001 ∧
      (fed waiting .c1 kHookLoaded (hookLoadedPayload 0 1 50 32 ⟨75000, 0⟩ 0)).takes (portOf .k1) kHookLoaded
        (hookLoadedPayload 0 1 50 32 ⟨75000, 0⟩ 0) ∧ waiting.lift .k1 = .unfiled 513 50 := by decide +kernel

/-- The codes of those refusals (R80, R98, R106). -/
theorem test_lift_off_refusals :
    let code (s : State) (c : Crane) (p : List Byte) : Option Tx :=
      ((after (.hookLoaded c) (fed s (portOf c) kHookLoaded p)).link (portOf c)).sending
    code pairedB .k4 (hookLoadedPayload 0 1 1 254 ⟨118000, 0⟩ 0) = some (.frame (.refused kHookLoaded .portPaired)) ∧
      code ready .k1 (hookLoadedPayload 0 0 1 254 ⟨75000, 0⟩ 0) = some (.frame (.refused kHookLoaded .badField)) ∧
      code ready .k1 (hookLoadedPayload 0 1 1 128 ⟨75000, 0⟩ 0) = some (.frame (.refused kHookLoaded .badField)) ∧
      code hooked .k1 (hookLoadedPayload 1 6001 1 254 ⟨75000, 0⟩ 0) = some (.frame (.refused kHookLoaded .craneBusy)) ∧
      code waiting .k1 (hookLoadedPayload 0 1 50 32 ⟨75000, 0⟩ 0) = some (.frame (.refused kHookLoaded .craneBusy)) := by
  decide +kernel

/-- R145: with a stop standing an unpermitted lift-off gets a STOP, which a free transmitter takes first. -/
theorem test_lift_off_under_a_stop :
    let t := after (.hookLoaded .k1)
      (fed (stopped ready) .c1 kHookLoaded (hookLoadedPayload 0 6001 4500 254 ⟨75000, 14000⟩ 32000))
    t.stopPort .c1 = ⟨.sent, some 3000⟩ ∧ (t.link .c1).sending = some .order ∧
      (t.link .c1).queue = [.late 6001 0] ∧ (ready.stopPort .c1).state = .none ∧ (ready.link .c1).sending = none := by
  decide +kernel

/-- A tandem lift of lot 7104 on pair B, the upper hook UNKNOWN. -/
def tandemHooked : State :=
  { pairedB with
    lcu.recs.k3 := .hooked ⟨18, 7104, 8230, .space 18, some .quay, false, some ⟨500, 4115, 4115⟩⟩
    lcu.recs.k4 := .partner 7104 .k3
    lcu.hooks.k4 := ⟨112000, 8000, 30000, .unknown⟩
    ct.lots := [] }

theorem test_tandem_landing_premises :
    (fed pairedB .c4 kHookLanded (octetsN 1 254 ++ posOctets ⟨0, 0, 0⟩)).takesAt .k4 kHookLanded
        (octetsN 1 254 ++ posOctets ⟨0, 0, 0⟩) ∧
      (fed tandemHooked .c3 kHookLanded (octetsN 1 254 ++ posOctets ⟨98000, 0, 0⟩)).takesAt .k3 kHookLanded
        (octetsN 1 254 ++ posOctets ⟨98000, 0, 0⟩) ∧ (tandemHooked.hook .k4).source = .unknown ∧
      (tandemHooked.hook .k3).source = .reported ∧ tandemHooked.liftsWf := by decide +kernel

/-- R115: the tandem landing frees both records and settles the UNKNOWN upper hook at its pedestal. -/
theorem test_tandem_landing :
    let t := after (.hookLanded .k3) (fed tandemHooked .c3 kHookLanded (octetsN 1 254 ++ posOctets ⟨98000, 0, 0⟩))
    t.lift .k3 = .idle ∧ t.lift .k4 = .idle ∧ t.hook .k4 = ⟨118000, -4000, 0, .reported⟩ ∧
      t.ct.structs.k4 = some ⟨118000, -4000, 18000⟩ := by decide +kernel

/-- The last conversion of the start-up sweep. -/
def lastConversion (v : EvState) : State :=
  { ready with
    hds.mode := .starting
    hds.stage := .sweep
    elapsed := none
    tgt.sweep := .running [11] 14 16
    sev.state := v }

theorem test_start_up_sweep_premises :
    (lastConversion .idle).hds.mode = .starting ∧ (lastConversion .idle).hds.stage = .sweep ∧
      (lastConversion .idle).tgt.sweep = .running [11] 14 16 ∧ (lastConversion .disabled).sev.state = .disabled ∧
      (lastConversion .idle).sev.state ≠ .disabled ∧ lookup (lastConversion .idle).tgt.chans 11 = some ⟨.unswept, none, none⟩ ∧
      (lastConversion .idle).als.held.Nodup := by decide +kernel

/-- R137, R185, R187: the end of the start-up sweep hands over the first evaluation; with the evaluator DISABLED the
mode is entered, the elapsed seconds begin, and START_REPORT goes out. -/
theorem test_end_of_the_start_up_sweep :
    let t := after (.conversionEnd 6000) (lastConversion .idle)
    let u := after (.conversionEnd 6000) (lastConversion .disabled)
    t.hds.stage = .firstLive ∧ t.tgt.firstSweep = true ∧ t.hds.mode = .starting ∧ u.hds.mode = .service ∧
      u.elapsed = some 16 ∧ u.tgt.timer = some (16 + u.settings.sweepPeriod * 100) ∧
      (match (u.link .p).sending with
        | some (.frame (.startReport _)) => true
        | _ => false) = true := by decide +kernel

theorem test_image_premises :
    (pending.image .permit none).table.lots.map Lot.num = [7104] ∧
      reservation tandemGranted.lcu.recs .k3 = some (tandemRequest, 1) ∧
      reservation tandemGranted.lcu.recs (mate .k3) = none := by decide +kernel

/-- R55: another crane's reservation takes the lot out of the image and hangs both shares. -/
theorem test_reservation_in_the_image :
    let kept := (tandemGranted.image .permit none).reserved
    kept.lots = [] ∧ kept.hung.map Item.w = [4108, 4107] ∧ kept.place.k4 = some ⟨112000, 8000⟩ := by decide +kernel

/-- R145: port B, with no order outstanding, is tested again at a live result that leaves the stop standing. -/
theorem test_port_b_is_tested_again :
    let s := { stopped hooked with
      hds.tables.limits := some ⟨103, 103, 0, 0⟩
      tgt.transfers := [⟨1, .tank 83, .sea⟩] }
    let t := after .liveJobComplete (evaluating s)
    s.lmn.stop ≠ none ∧ (s.stopPort .b).state = .none ∧ t.lmn.stop = s.lmn.stop ∧
      t.stopPort .b = ⟨.sent, some 3000⟩ := by decide +kernel

/-- R140, R185: a stop can be issued at the start-up's own live result. -/
theorem test_stop_at_the_start_up :
    let s := { hooked with
      hds.mode := .starting
      hds.stage := .firstLive
      hds.tables.limits := some ⟨103, 103, 0, 0⟩ }
    let t := after .liveJobComplete (evaluating s)
    t.lmn.stop = some (.heel, 2417) ∧ t.hds.mode = .service ∧ (evaluating s).queueWf := by decide +kernel

/-- R56: changes that fit and changes that do not, at the faces of a box and of a reach. -/
theorem test_trial_change_premises :
    let sc := ready.ct.scene
    (∃ l ∈ sc.lots, l.num = 7104) ∧ vessel.cargo 18 = some (⟨50000, 70000, -10500, 10500, 1000, 20000⟩, 24000) ∧
      (sc.change vessel ready.lcu.recs (.addLot 1 18 5 ⟨70000, 10500, 1000⟩)).isSome = true ∧
      sc.change vessel ready.lcu.recs (.addLot 1 18 5 ⟨70001, 0, 1000⟩) = none ∧
      sc.change vessel ready.lcu.recs (.removeLot 1) = none ∧ vessel.tank 83 = some tank ∧ vessel.tank 18 = none ∧
      (sc.change vessel ready.lcu.recs (.hang .k1 1 ⟨94000, 6000⟩ 0)).isSome = true ∧
      sc.change vessel ready.lcu.recs (.hang .k1 1 ⟨94001, 6000⟩ 0) = none := by decide +kernel

/-- The worked case under a permit whose destination is the quay. -/
def permitted : State := { hooked with lcu.recs.k1 := .hooked { load6001 with dest := some .quay } }

/-- R20, R101: a landing in a space other than the permit's, moved by the box, is told twice; one where it was to go, or
of a load without destination, not at all. -/
theorem test_landing_events :
    let kinds (s : State) (p : List Byte) : List AlarmKind :=
      (after (.hookLanded .k1) (fed s .c1 kHookLanded p)).als.entries.map fun e => e.key.kind
    let off := octetsN 1 18 ++ posOctets ⟨49999, 0, 999⟩
    permitted.lift .k1 = .hooked { load6001 with dest := some .quay } ∧
      (fed permitted .c1 kHookLanded off).takesAt .k1 kHookLanded off ∧
      kinds permitted off = [.destinationChanged, .positionClamped] ∧ kinds hooked off = [.positionClamped] ∧
      kinds hooked (octetsN 1 18 ++ posOctets ⟨50000, 0, 1000⟩) = [] ∧
      kinds permitted (octetsN 1 254 ++ posOctets ⟨0, 0, 0⟩) = [] := by decide +kernel

/-- Channel 11 active but no longer in the mask, and tank 5/3's gauge at rest. -/
def leaving (src : Source) : State :=
  { ready with
    ct.tanks := [(83, { tank3000 with source := src })]
    tgt.timer := some 1000
    tgt.chans := (List.range 36).map fun ch => (ch, ⟨.good, none, some 3000⟩)
    tgt.gauges := [(83, ⟨true, some 7⟩)]
    csv.settings.mask := 0x100000000 }

/-- R123, R130: a SENSOR tank is held with its timer started, a tank in another source loses its release mark alone. -/
theorem test_channel_leaves_the_sweep :
    let t := after .sweepTimerExpiry (leaving .sensor)
    let u := after .sweepTimerExpiry (leaving .held)
    (leaving .sensor).tgt.timer = some 1000 ∧ (leaving .sensor).settings.mask ≠ 0 ∧ (leaving .sensor).tgt.sweep = .idle ∧
      t.tgt.active = [32] ∧ (t.tank 83).map TankLive.source = some .held ∧
      t.tgt.gauge 83 = ⟨false, some (1000 + t.settings.holdLimit * 1000)⟩ ∧ (t.tgt.chan 11) = ⟨.unswept, none, none⟩ ∧
      (t.tgt.chan 12).candidate = some 3000 ∧ u.tgt.gauge 83 = ⟨false, some 7⟩ := by decide +kernel

/-- R91: an evaluation whose request has left: nothing is sent, and the evaluator is free. -/
theorem test_discarded_evaluation :
    let s := { pending with lcu.recs := hooked.lcu.recs, lcu.queue := [], lcu.inHand := some (.k1, true) }
    let t := after .permitJobComplete s
    (∃ img, s.sev.state = .busy img ∧ img.kind = .permit ∧ img.crane = some .k1) ∧ s.lcu.inHand ≠ some (.k1, false) ∧
      t.sev.state = .idle ∧ t.lcu.inHand = none ∧ t.link .c1 = s.link .c1 ∧ t.lift .k1 = .hooked load6001 :=
  ⟨⟨_, rfl, rfl, rfl⟩, by decide +kernel⟩

/-- R169: a hang-load change names crane 1 to 4. -/
theorem test_trial_crane_premises :
    let p := octetsN 1 5 ++ octetsN 1 5 ++ octets 3 1 ++ ptOctets ⟨0, 0⟩ ++ octets 3 0
    (fed ready .p kTrialAdd p).takes .p kTrialAdd p ∧ ready.csv.trial.length < 16 ∧ weightOnWire 1 ∧
      (⟨0, 0⟩ : Pt).onWire ∧ (after .trialAdd (fed ready .p kTrialAdd p)).link .p =
        { Link.initial with sending := some (.frame (.refused kTrialAdd .badField)) } := by decide +kernel

/-! ### Witnesses of the lines, the tables, the pages and the octets -/

/-- R25's example at 3,137 mm, a sounding on a point, one below the first point, and one above the last. -/
theorem test_tank_table_between_and_at_its_ends :
    tank.values 3137 = ⟨3137, 93480, 1555, 2405⟩ ∧ (tank.values 2400).volume = 64000 ∧ (tank.values (-5)).liqZ = 0 ∧
      (tank.values 6001).inertia = 3100 ∧ (tank.table.map TankPoint.sounding).Pairwise (· < ·) := by decide +kernel

/-- R132's example: channels 32 and 33 at 5,310 and 5,277 mm give 5,294, and 5,310 when channel 33 faults. -/
theorem test_measured_draught :
    let s (c : Channel) : State := { ready with tgt.chans := [(32, ⟨.good, some 5310, none⟩), (33, c)] }
    (s ⟨.good, some 5277, none⟩).measured 32 33 = some 5294 ∧ (s ⟨.fault, none, none⟩).measured 32 33 = some 5310 ∧
      ready.measured 34 35 = none ∧ (s ⟨.good, some 5277, none⟩).tgt.aftDraught = some 5294 := by decide +kernel

/-- R156: an acknowledged ADVISORY entry releases ALA, an acknowledged HARD entry holds ALH, a cleared one does not. -/
theorem test_alarm_lines :
    let a (l : Level) (v : EntryState) : Als :=
      { Als.initial with entries := [⟨⟨if l = .hard then .storeFault else .overrun, .none⟩, v, 0⟩] }
    (a .advisory .clearedUnack).lineA = true ∧ (a .advisory .activeAck).lineA = false ∧
      (a .hard .activeAck).lineH = true ∧ (a .hard .clearedUnack).lineH = false ∧
      ({ Als.initial with markLimit := true } : Als).lineL = true := by decide +kernel

/-- R181, R185: page 0 is WRITTEN, page 1 bears another marker and is TORN, page 9 was torn, page 2 is BLANK. -/
theorem test_page_states :
    let s : Store := ⟨[(0, 0x00010000), (64, 0x00020005)], [(9, 0)]⟩
    s.wf ∧ s.pageState 0 = .written ∧ s.pageState 1 = .torn ∧ s.pageState 9 = .torn ∧ s.pageState 2 = .blank ∧
      s.load.written = 1 ∧ s.load.torn = 2 ∧ s.load.fault = true := by decide +kernel

/-- R134: a non-tank address twice is BAD_SPACE, one tank twice and SEA twice BAD_FIELD. -/
theorem test_transfer_between_one_end_and_itself :
    ready.startCode 1 18 18 = some .badSpace ∧ ready.startCode 1 83 83 = some .badField ∧
      ready.startCode 1 254 254 = some .badField ∧ ready.startCode 1 83 254 = none := by decide +kernel

/-- R94: a break marks the evaluation of the port's request for discard. -/
theorem test_break_marks_the_evaluation :
    (after (.linkBreak .c1 false) pending).lcu.inHand = some (.k1, true) ∧
      (after (.linkBreak .c1 false) pending).lift .k1 = .idle := by decide +kernel

/-- R15, R36: a kept filing list entry is clamped into its destination's box. -/
theorem test_waiting_load_is_refitted :
    ((keptTable vessel { ready.ct with filing := [⟨.k1, 5, 10, ⟨0, 0, 0⟩, 18, 0⟩] }).filing.map Filing.pos) =
      [⟨50000, 0, 1000⟩] := by decide +kernel

/-- R178, R179: STOP, RESUME and REFUSED as they travel, and SUMMARY's 30 octets. -/
theorem test_outbound_octets :
    (Order.stop .gm 258).payload = [1, 1, 2] ∧ (Order.resume 258).payload = [1, 2] ∧
      (OutMsg.refused 5 .badField).payload = [5, 2] ∧ (OutMsg.summary ready.summary).payload.length = 30 ∧
      octets 3 (-2) = [255, 255, 254] := by decide +kernel

end Sys2Proof.Tests
end

section
/-!
One step of the part (R4), and the part before the first POWER_ON.
-/

namespace Sys2Proof.Machine

set_option Elab.async false

/-- Settles O1, by the two shapes of the queue. -/
theorem stepTakesTheFrontCommand : Obligations.StepTakesTheFrontCommand := by
  refine fun s => ⟨fun c rest hq => ?_, fun hq => ?_⟩
  · simp only [step, hq]
  · simp only [step, hq, State.tick]

/-- With no table loaded there is no entry that a check could refuse. -/
theorem Tables.empty_wf : Tables.empty.wf := by
  simp [Tables.wf, Tables.empty]

/-- The unpowered part has no table, no lot and no transfer, and its reset line is released. -/
theorem State.reset_shapeWf : State.reset.shapeWf := by
  have hrunning : State.reset.phase ≠ .running := by decide
  have hheld : State.reset.phase ≠ .held := by decide
  have htransfers : State.reset.tgt.transfers = [] := rfl
  refine ⟨Tables.empty_wf, rfl, rfl, rfl, ?_, ?_, ?_, ?_, fun h => absurd h hrunning, fun _ => rfl,
    fun h => absurd h hheld⟩
  · decide
  · decide
  · simp [htransfers]
  · simp [htransfers]

/-- Settles O3: the unpowered part is one concrete state, and what is not decided on it is `State.reset_shapeWf`. -/
theorem unpoweredPartMeetsTheInvariants : Obligations.UnpoweredPartMeetsTheInvariants := by
  refine ⟨⟨?links, ?alarms, ?store, ?lifts⟩, ?ranges, State.reset_shapeWf, nofun⟩
  case lifts => refine ⟨?_, ?_, ?_, ?_, ?_⟩ <;> decide
  all_goals decide

end Sys2Proof.Machine
end

section
/-!
The ranges of the settings, the trial list and the permit numbers (R12, R167, R169): each operation of the part keeps
them, each command is made of such operations, and so each step keeps them.
-/

namespace Sys2Proof.Machine

set_option Elab.async false

/-! ### The predicate -/

/-- A numeric value is stored within the bounds that it is clamped to (R167). -/
theorem clampNat_mem {lo hi : Nat} (v : Nat) (hb : lo ≤ hi) : lo ≤ clampNat lo hi v ∧ clampNat lo hi v ≤ hi := by
  unfold clampNat
  split
  · omega
  · split <;> omega

theorem clampDraught_mem (v : Nat) : clampDraught v = 0 ∨ (1000 ≤ clampDraught v ∧ clampDraught v ≤ 20000) := by
  unfold clampDraught
  split
  · exact .inl rfl
  · exact .inr (clampNat_mem v (by decide : 1000 ≤ 20000))

/-- Storing one setting leaves every setting in its range (R167). -/
theorem Settings.store_inRange {t u : Settings} {v id : Nat} (h : t.inRange) (hs : t.store v id = some u) :
    u.inRange := by
  obtain ⟨h1, h2, h3, h4, h6, h7, h8, h9, h10, h11, h12, h14⟩ := h
  unfold Settings.store at hs
  split at hs
  case h_1 => cases hs; exact ⟨clampNat_mem v (by decide), h2, h3, h4, h6, h7, h8, h9, h10, h11, h12, h14⟩
  case h_2 => cases hs; exact ⟨h1, clampNat_mem v (by decide), h3, h4, h6, h7, h8, h9, h10, h11, h12, h14⟩
  case h_3 => cases hs; exact ⟨h1, h2, clampNat_mem v (by decide), h4, h6, h7, h8, h9, h10, h11, h12, h14⟩
  case h_4 => cases hs; exact ⟨h1, h2, h3, clampNat_mem v (by decide), h6, h7, h8, h9, h10, h11, h12, h14⟩
  case h_5 => cases hs; exact ⟨h1, h2, h3, h4, h6, h7, h8, h9, h10, h11, h12, h14⟩
  case h_6 => cases hs; exact ⟨h1, h2, h3, h4, clampNat_mem v (by decide), h7, h8, h9, h10, h11, h12, h14⟩
  case h_7 => cases hs; exact ⟨h1, h2, h3, h4, h6, clampNat_mem v (by decide), h8, h9, h10, h11, h12, h14⟩
  case h_8 =>
    cases hs
    have h8 := clampNat_mem (hi := 50) v (Nat.zero_le _)
    exact ⟨h1, h2, h3, h4, h6, h7, h8.2, h9, h10, h11, h12, h14⟩
  case h_9 => cases hs; exact ⟨h1, h2, h3, h4, h6, h7, h8, clampNat_mem v (by decide), h10, h11, h12, h14⟩
  case h_10 => cases hs; exact ⟨h1, h2, h3, h4, h6, h7, h8, h9, clampNat_mem v (by decide), h11, h12, h14⟩
  case h_11 => cases hs; exact ⟨h1, h2, h3, h4, h6, h7, h8, h9, h10, clampNat_mem v (by decide), h12, h14⟩
  case h_12 => cases hs; exact ⟨h1, h2, h3, h4, h6, h7, h8, h9, h10, h11, clampDraught_mem v, h14⟩
  case h_13 =>
    split at hs
    · cases hs; exact ⟨h1, h2, h3, h4, h6, h7, h8, h9, h10, h11, h12, h14⟩
    · split at hs
      · cases hs; exact ⟨h1, h2, h3, h4, h6, h7, h8, h9, h10, h11, h12, h14⟩
      · cases hs
  case h_14 => cases hs; exact ⟨h1, h2, h3, h4, h6, h7, h8, h9, h10, h11, h12, clampNat_mem v (by decide)⟩
  case h_15 => cases hs

namespace State.rangesWf

/-- The ranges are read from four fields: two states that agree on them are in range together. -/
theorem of_fields {s t : State} (h : s.rangesWf) (hset : t.csv.settings = s.csv.settings)
    (htrial : t.csv.trial = s.csv.trial) (hcount : t.lcu.counter = s.lcu.counter) (hrecs : t.lcu.recs = s.lcu.recs) :
    t.rangesWf := by
  unfold State.rangesWf State.settings State.lift at *
  rwa [hset, htrial, hcount, hrecs]

/-- An operation that touches neither Console Services nor the LCU keeps the ranges. -/
theorem of_blocks {s t : State} (h : s.rangesWf) (hcsv : t.csv = s.csv := by rfl) (hlcu : t.lcu = s.lcu := by rfl) :
    t.rangesWf :=
  h.of_fields (by rw [hcsv]) (by rw [hcsv]) (by rw [hlcu]) (by rw [hlcu])

/-- Operations done one after another over a list. -/
theorem foldl {α : Type} {f : State → α → State} (hf : ∀ u a, u.rangesWf → (f u a).rangesWf) (l : List α) {s : State}
    (h : s.rangesWf) : (l.foldl f s).rangesWf := by
  induction l generalizing s with
  | nil => exact h
  | cons a rest ih => exact ih (hf s a h)

/-! ### The shared operations -/

variable {s : State}

/-- A lift record replaced by one whose permit number, if it holds one, is in range. -/
theorem setLift {c : Crane} {r : LiftRec} (h : s.rangesWf) (hr : ∀ n ∈ r.permit, permitNumber n) :
    (s.setLift c r).rangesWf := by
  obtain ⟨hset, htrial, hcount, hlift⟩ := h
  refine ⟨hset, htrial, hcount, fun d hd n hn => ?_⟩
  rw [State.lift_setLift] at hn
  split at hn
  · exact hr n hn
  · exact hlift d hd n hn

/-- A lift record replaced by one that holds no permit. -/
theorem setLift_none {c : Crane} {r : LiftRec} (h : s.rangesWf) (hr : r.permit = none := by rfl) :
    (s.setLift c r).rangesWf :=
  h.setLift fun n hn => by rw [hr] at hn; cases hn

theorem raise {k : AlarmKey} (h : s.rangesWf) : (s.raise k).rangesWf := h.of_blocks (by simp) (by simp)
theorem clear {k : AlarmKey} (h : s.rangesWf) : (s.clear k).rangesWf := h.of_blocks (by simp) (by simp)
theorem event {k : AlarmKey} (h : s.rangesWf) : (s.event k).rangesWf := h.of_blocks (by simp) (by simp)
theorem judge {k : AlarmKey} {b : Bool} (h : s.rangesWf) : (s.judge k b).rangesWf := h.of_blocks (by simp) (by simp)
theorem keep {k : AlarmKey} {b : Bool} (h : s.rangesWf) : (s.keep k b).rangesWf := h.of_blocks (by simp) (by simp)
theorem alarm {r : Als × List Notice} (h : s.rangesWf) : (s.alarm r).rangesWf := h.of_blocks (by simp) (by simp)
theorem judgeSpace {a : Nat} (h : s.rangesWf) : (s.judgeSpace a).rangesWf := h.of_blocks (by simp) (by simp)
theorem takeJob (h : s.rangesWf) : s.takeJob.rangesWf := h.of_fields (by simp) (by simp) (by simp) (by simp)
theorem bump (h : s.rangesWf) : s.bump.rangesWf := h
theorem offer {q : Port} {m : OutMsg} (h : s.rangesWf) : (s.offer q m).rangesWf := h
theorem reach {d : Nat} (h : s.rangesWf) : (s.reach d).rangesWf := h
theorem jobDone {k : JobKind} (h : s.rangesWf) : (s.jobDone k).rangesWf := h
theorem pull {q : Port} (h : s.rangesWf) : (s.pull q).rangesWf := h
theorem onTank {a : Nat} {f : TankLive → TankLive} (h : s.rangesWf) : (s.onTank a f).rangesWf := h
theorem onChan {ch : Nat} {f : Channel → Channel} (h : s.rangesWf) : (s.onChan ch f).rangesWf := h
theorem onGauge {a : Nat} {f : TankGauge → TankGauge} (h : s.rangesWf) : (s.onGauge a f).rangesWf := h
theorem sweepOn {l : List Nat} {r : Nat} (h : s.rangesWf) : (s.sweepOn l r).rangesWf := h
theorem setHook {c : Crane} {k : Hook} (h : s.rangesWf) : (s.setHook c k).rangesWf := h
theorem sendStop {q : Port} {c : Criterion} {n : Serial} (h : s.rangesWf) : (s.sendStop q c n).rangesWf := h

theorem answer {q : Port} {r : Reply} (h : s.rangesWf) : (s.answer q r).rangesWf := by cases r <;> exact h

/-! ### The Condition Table -/

theorem takeLot {n : Nat} (h : s.rangesWf) : (s.takeLot n).rangesWf := by
  unfold State.takeLot
  split
  · exact judgeSpace h.of_blocks
  · exact h

theorem fileHead (h : s.rangesWf) : s.fileHead.rangesWf := by
  unfold State.fileHead
  split
  · split
    · exact clear (bump (setLift_none h.of_blocks))
    · exact h
  · exact h

theorem sound {a : Nat} {d : TankDef} {v : Int} {src : Source} (h : s.rangesWf) : (s.sound a d v src).rangesWf := by
  unfold State.sound
  dsimp only
  split
  · split <;> exact h
  · exact h

theorem flagTanks {named : Nat → Bool} (h : s.rangesWf) : (s.flagTanks named).rangesWf := by
  unfold State.flagTanks
  dsimp only
  split <;> exact h

theorem moveStructure {c : Crane} {q : Pt} (h : s.rangesWf) : (s.moveStructure c q).rangesWf := by
  unfold State.moveStructure
  split <;> exact h

/-! ### The Limit Monitor -/

theorem withdrawAll {crit : Criterion} (h : s.rangesWf) : (s.withdrawAll crit).rangesWf := by
  have hw : (cranes.foldl (State.withdraw crit) s).rangesWf := by
    refine foldl (fun u c hu => ?_) cranes h
    unfold State.withdraw
    split
    · exact hu.setLift_none.offer
    · exact hu
  have hr := foldl (f := State.refuseStopped) (fun u c hu => hu.setLift_none.offer)
    (cranes.foldl (State.withdraw crit) s).lcu.queue hw
  exact hr.of_fields rfl rfl rfl rfl

theorem stopCranes {c : Criterion} {n : Serial} (h : s.rangesWf) : (s.stopCranes c n).rangesWf := by
  refine foldl (fun u k hu => ?_) cranes h
  split <;> exact hu

theorem stopBallast {r : Result} (h : s.rangesWf) : (s.stopBallast r).rangesWf := by
  unfold State.stopBallast
  split <;> exact h

theorem issueStop {r : Result} {c : Criterion} (h : s.rangesWf) : (s.issueStop r c).rangesWf :=
  stopBallast (stopCranes (withdrawAll h.of_blocks))

theorem resumePort {n : Serial} {q : Port} (h : s.rangesWf) : (State.resumePort n s q).rangesWf := by
  unfold State.resumePort
  split
  · exact h
  · exact clear h.of_blocks

theorem resume {r : Result} (h : s.rangesWf) : (s.resume r).rangesWf := by
  have hp := foldl (f := State.resumePort r.serial) (fun _ _ hu => hu.resumePort) ports h
  unfold State.resume
  generalize ports.foldl (State.resumePort r.serial) s = u at hp ⊢
  exact hp

theorem retestBallast {r : Result} (h : s.rangesWf) : (s.retestBallast r).rangesWf := by
  unfold State.retestBallast
  split
  · exact h.stopBallast
  · exact h

theorem judgeStations {k : AlarmKind} {pm : List Int} (h : s.rangesWf) : (s.judgeStations k pm).rangesWf :=
  foldl (fun _ _ hu => hu.keep) _ h

theorem limitAlarms {r : Result} (h : s.rangesWf) : (s.limitAlarms r).rangesWf :=
  h.keep.keep.keep.judgeStations.judgeStations.keep

theorem judgeLive {r : Result} (h : s.rangesWf) : (s.judgeLive r).rangesWf := by
  have hj : ((s.limitAlarms r).crossCheck r).rangesWf := h.limitAlarms.judge.judge
  unfold State.judgeLive
  dsimp only
  split
  · split
    · exact hj.issueStop
    · exact hj
  · split
    · exact hj.resume
    · exact hj.retestBallast

theorem stopHooked {c : Crane} (h : s.rangesWf) : (s.stopHooked c).rangesWf := by
  unfold State.stopHooked
  dsimp only
  split
  · split <;> exact h
  · exact h

/-! ### Gauging -/

theorem judgeSensor {a : Nat} (h : s.rangesWf) : (s.judgeSensor a).rangesWf := by
  unfold State.judgeSensor
  split
  · exact h.keep
  · exact h

theorem judgeSensors (h : s.rangesWf) : s.judgeSensors.rangesWf := foldl (fun _ _ hu => hu.judgeSensor) _ h

theorem startHold {a : Nat} (h : s.rangesWf) : (s.startHold a).rangesWf := by
  unfold State.startHold
  split <;> exact h

theorem holdTank {a : Nat} (h : s.rangesWf) : (s.holdTank a).rangesWf := by
  unfold State.holdTank
  split
  · split
    · exact h.onTank.startHold
    · exact h
  · exact h

theorem endHold {a : Nat} {release : Bool} (h : s.rangesWf) : (s.endHold a release).rangesWf := h.onGauge.clear

theorem commit {a : Nat} {d : TankDef} {v : Int} (h : s.rangesWf) : (s.commit a d v).rangesWf := h.sound.endHold

theorem reading {ch a : Nat} {d : TankDef} {t : TankLive} {v : Int} (h : s.rangesWf) :
    (s.reading ch a d t v).rangesWf := by
  unfold State.reading
  split
  · exact h
  · split
    · exact h.commit
    · split
      · exact h.onChan
      · split
        · exact h
        · exact h.commit

theorem tankReading {ch a : Nat} {d : TankDef} {v : Int} (h : s.rangesWf) : (s.tankReading ch a d v).rangesWf := by
  unfold State.tankReading
  split
  · exact h
  · dsimp only
    split
    · exact h.reading
    · split
      · exact h.onChan.reading
      · split
        · exact h.onChan.commit
        · exact h.onChan

theorem chanGood {ch : Nat} {v : Int} (h : s.rangesWf) : (s.chanGood ch v).rangesWf := by
  unfold State.chanGood
  dsimp only
  split
  · exact h.onChan.tankReading.judgeSensor
  · exact h.onChan

theorem chanFault {ch : Nat} (h : s.rangesWf) : (s.chanFault ch).rangesWf := by
  unfold State.chanFault
  dsimp only
  split
  · exact h.onChan.holdTank.judgeSensor
  · exact h.onChan

theorem convert {ch count r : Nat} (h : s.rangesWf) : (s.convert ch count r).rangesWf := by
  unfold State.convert
  split
  · exact h.chanGood
  · exact h.chanFault

theorem leaveSweep {ch : Nat} (h : s.rangesWf) : (s.leaveSweep ch).rangesWf := by
  unfold State.leaveSweep
  dsimp only
  split
  · exact h.onChan.onGauge.holdTank
  · exact h.onChan

theorem setActive {active : List Nat} (h : s.rangesWf) : (s.setActive active).rangesWf :=
  judgeSensors (foldl (fun _ _ hu => hu.leaveSweep) _ h.of_blocks)

theorem startSweep (h : s.rangesWf) : s.startSweep.rangesWf := h.setActive.sweepOn

theorem stopSweep (h : s.rangesWf) : s.stopSweep.rangesWf := setActive h.of_blocks

theorem dropCandidate {d : TankDef} (h : s.rangesWf) : (s.dropCandidate d).rangesWf := by
  unfold State.dropCandidate
  split <;> exact h

theorem setManual {a : Nat} {d : TankDef} {v : Int} (h : s.rangesWf) : (s.setManual a d v).rangesWf :=
  h.sound.dropCandidate.endHold.judgeSensor

theorem releaseManual {a : Nat} {d : TankDef} (h : s.rangesWf) : (s.releaseManual a d).rangesWf := by
  unfold State.releaseManual
  split
  · split
    · exact h.onTank.dropCandidate.onGauge.startHold
    · exact h
  · exact h

theorem setTransfers {l : List Transfer} (h : s.rangesWf) : (s.setTransfers l).rangesWf := flagTanks h.of_blocks

/-! ### Lifts -/

theorem leaveQueue {c : Crane} (h : s.rangesWf) : (s.leaveQueue c).rangesWf := h

theorem dropRequest {c : Crane} (h : s.rangesWf) : (s.dropRequest c).rangesWf := by
  unfold State.dropRequest
  split
  · exact h.leaveQueue.setLift_none
  · exact h.setLift_none
  · exact h

theorem putHook {c : Crane} {q : Pt} {v : Int} (h : s.rangesWf) : (s.putHook c q v).rangesWf := h.setHook.moveStructure

theorem structureToWorst {c : Crane} (h : s.rangesWf) : (s.structureToWorst c).rangesWf := by
  unfold State.structureToWorst
  split
  · exact h.moveStructure
  · exact h

theorem losePosition {c : Crane} (h : s.rangesWf) : (s.losePosition c).rangesWf := h.setHook.raise

theorem hookUnknown {c : Crane} (h : s.rangesWf) : (s.hookUnknown c).rangesWf := by
  unfold State.hookUnknown
  split
  · exact h.losePosition.structureToWorst.bump
  · exact h

theorem settleHook {c : Crane} (h : s.rangesWf) : (s.settleHook c).rangesWf := by
  unfold State.settleHook
  split
  · split
    · exact h.putHook
    · exact h
  · exact h

theorem clearLoadAlarms {c : Crane} (h : s.rangesWf) : (s.clearLoadAlarms c).rangesWf := h.clear.clear

theorem endLift {c : Crane} {l : Load} {next : LiftRec} (h : s.rangesWf) (hn : next.permit = none := by rfl) :
    (s.endLift c l next).rangesWf := by
  have h1 : ((s.setLift c next).clearLoadAlarms c).rangesWf := (h.setLift_none hn).clearLoadAlarms
  unfold State.endLift
  dsimp only
  split
  · exact h1.setLift_none.clearLoadAlarms
  · exact h1

theorem settleLift {c : Crane} {l : Load} (h : s.rangesWf) : (s.settleLift c l).rangesWf := by
  unfold State.settleLift
  split
  · exact h.settleHook.settleHook
  · exact h.settleHook

theorem removeHooked {c : Crane} {n : Nat} (h : s.rangesWf) : (s.removeHooked c n).rangesWf := by
  unfold State.removeHooked
  split
  · exact h.endLift.settleLift
  · exact h

theorem removeFiled {n : Nat} (h : s.rangesWf) : (s.removeFiled n).rangesWf := by
  unfold State.removeFiled
  split
  · exact judgeSpace (clear (setLift_none h.of_blocks))
  · exact h

theorem placeLot {c : Crane} {n : Nat} {origin : LiftEnd} (h : s.rangesWf) : (s.placeLot c n origin).rangesWf := by
  unfold State.placeLot
  dsimp only
  split
  · exact h.event.takeLot.removeHooked.removeFiled
  · exact h.takeLot.removeHooked.removeFiled

theorem endLiftOff {freed : Bool} (h : s.rangesWf) : (s.endLiftOff freed).rangesWf := by
  unfold State.endLiftOff
  split
  · exact h.bump.fileHead
  · exact h

theorem hangUpper {c : Crane} {n : Nat} {q : Pt} {v : Int} (h : s.rangesWf) : (s.hangUpper c n q v).rangesWf := by
  have hp : ((s.setLift (mate c) (.partner n c)).putHook (mate c) q v).rangesWf := h.setLift_none.putHook
  unfold State.hangUpper
  dsimp only
  split
  · exact hp
  · exact hp.losePosition.structureToWorst

theorem liftPermitted {c : Crane} {r : Request} {n : Nat} {f : LiftOff} (h : s.rangesWf) :
    (s.liftPermitted c r n f).rangesWf := by
  have hp : (((s.placeLot c f.lot (liftEnd f.origin)).setLift c (.hooked (r.load n f))).putHook c r.pickup.own
      r.susp).rangesWf := h.placeLot.setLift_none.putHook
  unfold State.liftPermitted
  dsimp only
  split
  · exact hp.hangUpper.endLiftOff.stopHooked
  · exact hp.endLiftOff.stopHooked

theorem liftUnpermitted {c : Crane} {f : LiftOff} (h : s.rangesWf) : (s.liftUnpermitted c f).rangesWf :=
  h.placeLot.setLift_none.putHook.raise.endLiftOff.stopHooked

theorem destinationEvent {c : Crane} {l : Load} {dest : LiftEnd} (h : s.rangesWf) :
    (s.destinationEvent c l dest).rangesWf := by
  unfold State.destinationEvent
  split
  · split
    · exact h
    · exact h.event
  · exact h

theorem settleLanding {c : Crane} {l : Load} {q : Pt} (h : s.rangesWf) : (s.settleLanding c l q).rangesWf := by
  have hl : (if (s.hook c).source = .unknown then s.putHook c q 0 else s).rangesWf := by
    split
    · exact h.putHook
    · exact h
  unfold State.settleLanding
  dsimp only
  split
  · exact hl.settleHook
  · exact hl

theorem landQuay {c : Crane} {l : Load} {q : Pt} (h : s.rangesWf) : (s.landQuay c l q).rangesWf :=
  h.endLift.settleLanding.bump

theorem landFiled {c : Crane} {l : Load} {a : Nat} {q : Pos} (h : s.rangesWf) : (s.landFiled c l a q).rangesWf :=
  h.endLift (next := .idle)

theorem landUnfiled {c : Crane} {l : Load} {a : Nat} {q : Pos} (h : s.rangesWf) : (s.landUnfiled c l a q).rangesWf :=
  raise (of_blocks (h.endLift (next := .unfiled l.lot l.weight)))

theorem landSpace {c : Crane} {l : Load} {a : Nat} {box : Box} {q : Pos} (h : s.rangesWf) :
    (s.landSpace c l a box q).rangesWf := by
  have h1 : (if box.clampPos q = q then s else s.event ⟨.positionClamped, .crane c⟩).rangesWf := by
    split
    · exact h
    · exact h.event
  unfold State.landSpace
  dsimp only
  split
  · exact h1.landFiled.settleLanding.judgeSpace.bump
  · exact h1.landUnfiled.settleLanding.judgeSpace.bump

/-! ### The judgement of a permit (R12, R86 to R90) -/

theorem grant {c : Crane} {r : Request} {index : Nat} {n : Serial} (h : s.rangesWf) :
    (s.grant c r index n).rangesWf := by
  obtain ⟨hset, htrial, ⟨hlo, hhi⟩, hlift⟩ := h
  have hnext : permitNumber (nextPermit s.lcu.counter) := by
    unfold nextPermit
    split <;> constructor <;> omega
  have hcount : State.rangesWf { s with lcu.counter := nextPermit s.lcu.counter, lcu.queue := s.lcu.queue.erase c } :=
    ⟨hset, htrial, hnext, hlift⟩
  exact offer (setLift hcount fun n hn => by cases hn; exact ⟨hlo, hhi⟩)

theorem advise {c : Crane} {m : Int} {n : Serial} (h : s.rangesWf) : (s.advise c m n).rangesWf := by
  unfold State.advise
  split
  · exact h
  · exact h.offer

theorem refusePermit {c : Crane} {p : PermitLimits} {f : PermitTest × Result} (h : s.rangesWf) :
    (s.refusePermit c p f).rangesWf :=
  advise (offer (setLift_none (h.of_fields rfl rfl rfl rfl)))

theorem stale {c : Crane} {r : Request} {n : Nat} (h : s.rangesWf) : (s.stale c r n).rangesWf := by
  unfold State.stale
  split
  · exact h.setLift_none
  · exact offer (setLift_none (h.of_fields rfl rfl rfl rfl))

theorem judgePermit {img : Image} {c : Crane} {r : Request} (h : s.rangesWf) : (s.judgePermit img c r).rangesWf := by
  unfold State.judgePermit
  dsimp only
  split
  · exact h.refusePermit
  · exact h.grant

theorem permitOutcome {img : Image} {c : Crane} (h : s.rangesWf) : (s.permitOutcome img c).rangesWf := by
  unfold State.permitOutcome
  split
  · split
    · split
      · exact h.judgePermit
      · exact h.stale
    · exact h
  · exact h

/-! ### Resets and the start-up (R184, R185) -/

/-- Every block at its after-reset state is in range, whatever stood before. -/
theorem blocksReset (s : State) : s.blocksReset.rangesWf := by
  have hset : Settings.initial.inRange := by decide
  have hone : permitNumber 1 := by decide
  refine ⟨hset, Nat.zero_le _, hone, fun c _ n hn => ?_⟩
  have hidle : (s.blocksReset.lift c).permit = none := by
    have : s.blocksReset.lift c = (s.lift c).afterReset := by cases c <;> rfl
    rw [this]
    cases s.lift c <;> rfl
  rw [hidle] at hn
  cases hn

theorem loadTables (h : s.rangesWf) : s.loadTables.rangesWf := by
  have h1 : State.rangesWf { s with
      hds.tables := s.hds.store.load.tables
      hds.written := s.hds.store.load.written
      hds.torn := s.hds.store.load.torn
      csv.settings.mask := defaultMask s.hds.store.load.tables.calib
      sev.state := if s.hds.store.load.tables.usable then .idle else .disabled } := h
  have h2 {u : State} (hu : u.rangesWf) : (if s.hds.store.load.fault then u.raiseStoreFault else u).rangesWf := by
    split
    · exact raise hu.of_blocks
    · exact hu
  unfold State.loadTables
  dsimp only
  split
  · exact (h2 h1).raise
  · exact h2 h1

theorem fileWaiting {n : Nat} (h : s.rangesWf) : (State.fileWaiting n s).rangesWf := by
  induction n generalizing s with
  | zero => exact h
  | succ n ih => exact ih h.fileHead

theorem retainTable (h : s.rangesWf) : s.retainTable.rangesWf := by
  have hd : (s.ct.filing.foldl State.dropUnfiled s).rangesWf := by
    refine foldl (fun u f hu => ?_) _ h
    unfold State.dropUnfiled
    split
    · exact hu
    · exact hu.setLift_none
  exact foldl (fun _ _ hu => hu.judgeSpace) _ (fileWaiting hd.of_blocks)

theorem retainHook {before : PerCrane Hook} {c : Crane} (h : s.rangesWf) : (s.retainHook before c).rangesWf :=
  h.setHook.raise

theorem retainHooked {before : PerCrane Hook} {c : Crane} (h : s.rangesWf) :
    (State.retainHooked before s c).rangesWf := by
  unfold State.retainHooked
  split
  · rename_i l _
    have h1 : ((if l.unpermitted then s.raise ⟨.unpermittedLift, .crane c⟩ else s).retainHook before c).rangesWf := by
      split
      · exact h.raise.retainHook
      · exact h.retainHook
    dsimp only
    split
    · refine retainHook (setLift_none (h1.of_fields rfl rfl ?_ ?_)) <;> cases c <;> rfl
    · exact h1
  · exact h

theorem dropHooked {c : Crane} (h : s.rangesWf) : (s.dropHooked c).rangesWf := by
  unfold State.dropHooked
  split
  · split
    · exact h
    · exact bump (of_blocks (h.setLift_none (c := c) (r := .idle)))
  · exact h

theorem retainUnfiled {c : Crane} (h : s.rangesWf) : (s.retainUnfiled c).rangesWf := by
  unfold State.retainUnfiled
  split
  · exact h.raise
  · exact h

theorem retainStructure {c : Crane} (h : s.rangesWf) : (s.retainStructure c).rangesWf := by
  unfold State.retainStructure
  split
  · exact h.structureToWorst.bump
  · exact h

theorem retainLifts (h : s.rangesWf) : s.retainLifts.rangesWf := by
  have h0 : State.rangesWf { s with lcu.hooks := pedestalHooks s.tables } := h
  unfold State.retainLifts
  exact foldl (fun _ _ hu => hu.retainStructure) _ (foldl (fun _ _ hu => hu.retainUnfiled) _
    (foldl (fun _ _ hu => hu.retainHooked) _ (foldl (fun _ _ hu => hu.dropHooked) _ h0)))

theorem retain (h : s.rangesWf) : s.retain.rangesWf := by
  unfold State.retain
  split
  · have hone : permitNumber 1 := by decide
    exact ⟨h.1, h.2.1, hone, fun c _ n hn => by cases c <;> cases hn⟩
  · exact of_blocks h.retainTable.retainLifts
  · exact of_blocks h.retainTable.retainLifts

theorem modeEntry (h : s.rangesWf) : s.modeEntry.rangesWf := by
  refine takeJob (offer (foldl (f := State.holdIfHeld) (fun u a hu => ?_) _ h.of_blocks))
  unfold State.holdIfHeld
  split
  · split
    · exact hu.startHold
    · exact hu
  · exact hu

theorem nextTest {l : List TestCondition} (h : s.rangesWf) : (State.nextTest l s).rangesWf := by
  induction l generalizing s with
  | nil => exact h
  | cons tc rest ih =>
    unfold State.nextTest
    split
    · exact h
    · exact ih h.of_blocks

theorem startUpSwept (h : s.rangesWf) : s.startUpSwept.rangesWf := by
  have hj : State.rangesWf ({ s with tgt.firstSweep := true }.judgeSensors) := judgeSensors h.of_blocks
  unfold State.startUpSwept
  dsimp only
  split
  · exact modeEntry hj.of_blocks
  · exact hj.nextTest

theorem startUpSweep (h : s.rangesWf) : s.startUpSweep.rangesWf := by
  have hs : State.rangesWf ({ s with hds.stage := .sweep }.startSweep) := startSweep h.of_blocks
  unfold State.startUpSweep
  dsimp only
  split
  · exact hs.startUpSwept
  · exact hs

/-- A reset leaves every setting, the trial list and the permit numbers in range, whatever stood before. -/
theorem startUp (s : State) (cause : Cause) (strap : Bool) : (s.startUp cause strap).rangesWf :=
  startUpSweep (retain (loadTables (of_blocks (blocksReset s))))

/-! ### Taking a frame -/

/-- The taking of a frame keeps the ranges when its handling does. -/
theorem serve {q : Port} {k : Byte} {handle : List Byte → State → State × Reply}
    (hh : ∀ p u, u.rangesWf → (handle p u).1.rangesWf) (h : s.rangesWf) : (serve q k handle s).rangesWf := by
  rcases serve_cases q k handle s with hs | ⟨p, -, -, hs⟩ | ⟨p, -, -, hs⟩ <;> rw [hs]
  · exact h
  · exact h.pull.answer
  · exact (hh p _ h.pull).answer

/-- The taking of a crane port's frame keeps the ranges when its handling does. -/
theorem serveCrane {c : Crane} {k : Byte} {handle : List Byte → State → State × Reply}
    (hh : ∀ p u, u.rangesWf → (handle p u).1.rangesWf) (h : s.rangesWf) : (serveCrane c k handle s).rangesWf := by
  refine serve (fun p u hu => ?_) h
  split
  · exact hu
  · exact hh p u hu

/-- The taking of a frame that a paired upper port refuses keeps the ranges when its handling does. -/
theorem serveLift {c : Crane} {k : Byte} {handle : List Byte → State → State × Reply}
    (hh : ∀ p u, u.rangesWf → (handle p u).1.rangesWf) (h : s.rangesWf) : (serveLift c k handle s).rangesWf := by
  refine serveCrane (fun p u hu => ?_) h
  split
  · exact hu
  · exact hh p u hu

theorem serveUnknown {q : Port} (h : s.rangesWf) : (serveUnknown q s).rangesWf := by
  unfold Machine.serveUnknown
  split
  · split
    · exact h
    · exact h.pull.answer
  · exact h

/-! ### The handling of the frames -/

/-- A handling that leaves the state as it is. -/
theorem of_reads {k : List Byte → State → State × Reply} (hk : ∀ p u, (k p u).1 = u) :
    ∀ p u, u.rangesWf → (k p u).1.rangesWf :=
  fun p u hu => by rw [hk]; exact hu

variable {p : List Byte}

theorem setConstantReply (h : s.rangesWf) : (setConstantReply p s).1.rangesWf := by
  unfold Machine.setConstantReply State.writeConst
  dsimp only
  repeat' split
  all_goals exact h

theorem enterLotReply (h : s.rangesWf) : (enterLotReply p s).1.rangesWf := by
  unfold Machine.enterLotReply
  dsimp only
  split
  · exact h
  · exact bump (judgeSpace h.of_blocks)

theorem removeLotReply (h : s.rangesWf) : (removeLotReply p s).1.rangesWf := by
  unfold Machine.removeLotReply
  dsimp only
  split
  · exact h
  · exact h.takeLot.bump.fileHead

theorem shiftLot {l : Lot} {a : Nat} {q : Pos} (h : s.rangesWf) : (s.shiftLot l a q).rangesWf := by
  unfold State.shiftLot
  dsimp only
  split
  · split <;> exact h
  · exact bump (judgeSpace (judgeSpace h.of_blocks))

theorem shiftLotReply (h : s.rangesWf) : (shiftLotReply p s).1.rangesWf := by
  unfold Machine.shiftLotReply
  dsimp only
  split
  · exact h
  · exact h.shiftLot
  · exact h

theorem setDensityReply (h : s.rangesWf) : (setDensityReply p s).1.rangesWf := by
  unfold Machine.setDensityReply State.writeDensity
  dsimp only
  repeat' split
  all_goals exact h

theorem setManualReply (h : s.rangesWf) : (setManualReply p s).1.rangesWf := by
  unfold Machine.setManualReply
  dsimp only
  split
  · exact h
  · exact h.setManual

theorem releaseManualReply (h : s.rangesWf) : (releaseManualReply p s).1.rangesWf := by
  unfold Machine.releaseManualReply
  dsimp only
  split
  · exact h
  · exact h.releaseManual

/-- The settings replaced by ones in their ranges (R34, R124). -/
theorem storeSettings {u : Settings} (h : s.rangesWf) (hu : u.inRange) : (s.storeSettings u).rangesWf := by
  obtain ⟨-, htrial, hcount, hlift⟩ := h
  have h1 : State.rangesWf { s with csv.settings := u } := ⟨hu, htrial, hcount, hlift⟩
  have h2 : State.rangesWf (if u.strength = s.settings.strength ∧ u.draughtLimit = s.settings.draughtLimit
      then { s with csv.settings := u } else State.bump { s with csv.settings := u }) := by
    split
    · exact h1
    · exact h1.bump
  unfold State.storeSettings
  dsimp only
  split
  · exact h2.stopSweep
  · exact h2

theorem setPairing {c : Crane} {on : Bool} {t : State} (h : s.rangesWf) (ht : s.setPairing c on = .ok t) :
    t.rangesWf := by
  unfold State.setPairing at ht
  split at ht
  · cases ht
  · split at ht
    · cases ht; exact h
    · split at ht
      · cases ht
        refine h.of_fields rfl rfl ?_ ?_ <;> cases c <;> rfl
      · cases ht

theorem applySetting {id v : Nat} {t : State} (h : s.rangesWf) (ht : s.applySetting id v = .ok t) : t.rangesWf := by
  unfold State.applySetting at ht
  split at ht
  · split at ht
    · cases ht
    · exact h.setPairing ht
  · split at ht
    · rename_i u hu
      cases ht
      exact h.storeSettings (Settings.store_inRange h.1 hu)
    · cases ht

theorem setSettingReply (h : s.rangesWf) : (setSettingReply p s).1.rangesWf := by
  unfold Machine.setSettingReply
  dsimp only
  split
  · exact h
  · rename_i hs
    exact h.applySetting hs

theorem trialBeginReply (h : s.rangesWf) : (trialBeginReply p s).1.rangesWf := by
  obtain ⟨hset, -, hcount, hlift⟩ := h
  exact ⟨hset, Nat.zero_le _, hcount, hlift⟩

/-- TRIAL_ADD takes a change only while the list holds fewer than 16 (R169). -/
theorem trialAddReply (h : s.rangesWf) : (trialAddReply p s).1.rangesWf := by
  unfold Machine.trialAddReply
  split
  · rename_i hroom
    split
    · exact h
    · obtain ⟨hset, -, hcount, hlift⟩ := h
      refine ⟨hset, ?_, hcount, hlift⟩
      simpa using hroom
  · exact h

theorem trialRunReply (h : s.rangesWf) : (trialRunReply p s).1.rangesWf := by
  unfold Machine.trialRunReply
  repeat' split
  all_goals exact h

theorem ackAlarmReply (h : s.rangesWf) : (ackAlarmReply p s).1.rangesWf := by
  unfold Machine.ackAlarmReply
  dsimp only
  split
  · exact h
  · exact h.alarm

theorem inCommissioning {k : Byte} {handle : List Byte → State → State × Reply}
    (hh : ∀ p u, u.rangesWf → (handle p u).1.rangesWf) (p : List Byte) (u : State) (hu : u.rangesWf) :
    (inCommissioning k handle p u).1.rangesWf := by
  unfold Machine.inCommissioning
  split
  · exact hh p u hu
  · exact hu

theorem storeLoadReply (h : s.rangesWf) : (storeLoadReply p s).1.rangesWf := by
  unfold Machine.storeLoadReply
  dsimp only
  split <;> exact h

theorem storeProgramReply (h : s.rangesWf) : (storeProgramReply p s).1.rangesWf := by
  unfold Machine.storeProgramReply
  dsimp only
  split <;> exact h

theorem storeDiscardReply (h : s.rangesWf) : (storeDiscardReply p s).1.rangesWf := by
  unfold Machine.storeDiscardReply
  split <;> exact h

theorem storeReadReply (h : s.rangesWf) : (storeReadReply p s).1.rangesWf := by
  unfold Machine.storeReadReply
  dsimp only
  repeat' split
  all_goals exact h

theorem liftRequestReply {c : Crane} (h : s.rangesWf) : (liftRequestReply c p s).1.rangesWf := by
  unfold Machine.liftRequestReply
  dsimp only
  split
  · exact h
  · exact of_fields (h.setLift_none (r := .pending _ 0)) rfl rfl rfl rfl

theorem liftCancelReply {c : Crane} (h : s.rangesWf) : (liftCancelReply c p s).1.rangesWf := by
  unfold Machine.liftCancelReply
  split
  · exact h.dropRequest
  · split
    · exact h.dropRequest
    · exact h
  · exact h

theorem hookLoadedReply {c : Crane} (h : s.rangesWf) : (hookLoadedReply c p s).1.rangesWf := by
  unfold Machine.hookLoadedReply State.lateLift
  dsimp only
  split
  · exact h
  · split
    · exact h.liftUnpermitted
    · exact h.dropRequest.liftUnpermitted
    · split
      · exact h.liftPermitted
      · exact h.dropRequest.liftUnpermitted
    · split
      · exact h.liftUnpermitted
      · exact h
    · exact h
    · exact h

theorem hookPositionReply {c : Crane} (h : s.rangesWf) : (hookPositionReply c p s).1.rangesWf := by
  unfold Machine.hookPositionReply State.applyHook
  dsimp only
  split
  · split
    · split
      · exact h.clear
      · exact h.clear.putHook.clear.bump
    · exact h.raise
  · exact h.raise

theorem hookLandedReply {c : Crane} (h : s.rangesWf) : (hookLandedReply c p s).1.rangesWf := by
  unfold Machine.hookLandedReply
  dsimp only
  split
  · exact h
  · split
    · split
      · exact h.destinationEvent.landQuay
      · split
        · exact h.destinationEvent.landSpace
        · exact h
    · exact h

theorem stopAckReply {q : Port} (h : s.rangesWf) : (stopAckReply q p s).1.rangesWf := by
  show (s.ackStop q).rangesWf
  unfold State.ackStop
  split
  · exact h
  · exact clear h.of_blocks
  · exact h
  · exact h

theorem transferStartReply (h : s.rangesWf) : (transferStartReply p s).1.rangesWf := by
  unfold Machine.transferStartReply
  dsimp only
  split
  · exact h
  · exact h.setTransfers

theorem transferEndReply (h : s.rangesWf) : (transferEndReply p s).1.rangesWf := by
  unfold Machine.transferEndReply
  dsimp only
  split
  · split
    · exact h.setTransfers
    · exact h
  · exact h

theorem transferClearReply (h : s.rangesWf) : (transferClearReply p s).1.rangesWf := by
  unfold Machine.transferClearReply
  dsimp only
  split
  · exact h
  · exact h.setTransfers

/-! ### The events of the links (R173 to R177) -/

theorem receive {q : Port} {l : List Byte} (h : s.rangesWf) : (s.receive q l).rangesWf := by
  have hm : (s.matchingCheck q).rangesWf := by
    have h1 : State.rangesWf ((s.setLink q { s.link q with
        bad := 0
        silence := some (s.now + s.settings.silenceWindow * 100)
        state := .active }).clear ⟨.linkDegraded, .port q⟩) := clear h.of_blocks
    unfold State.matchingCheck
    dsimp only
    split
    · exact h1
    · exact h1.clear
  have hb : (s.badFrame q).rangesWf := by
    unfold State.badFrame
    dsimp only
    split
    · exact keep h.of_blocks
    · exact h
  unfold State.receive
  split
  · unfold State.takeIn
    split
    · exact hm
    · exact hm.event
  · exact hb
  · exact hb
  · exact hb

theorem breakPort {q : Port} {comm : Bool} (h : s.rangesWf) : (s.breakPort q comm).rangesWf := by
  unfold State.breakPort State.craneBreak
  dsimp only
  split
  · exact startUp _ _ _
  · split
    · exact takeJob (hookUnknown (dropRequest h.of_blocks))
    · exact takeJob h.of_blocks

theorem silent {q : Port} (h : s.rangesWf) : (s.silent q).rangesWf := by
  unfold State.silent State.craneSilent
  dsimp only
  split
  · split
    · exact hookUnknown (raise h.of_blocks)
    · exact raise h.of_blocks
  · exact raise h.of_blocks

/-! ### Timers and jobs -/

theorem sweepDue (h : s.rangesWf) : s.sweepDue.rangesWf := by
  unfold State.sweepDue
  split
  · exact h
  · split
    · exact h.startSweep
    · exact h

theorem converted {ch count r : Nat} {rest : List Nat} (h : s.rangesWf) : (s.converted ch count r rest).rangesWf := by
  unfold State.converted
  dsimp only
  split
  · exact h.convert.sweepOn.startUpSwept
  · exact h.convert.sweepOn.takeJob

theorem handOff (h : s.rangesWf) : s.handOff.rangesWf := h

theorem installLive {r : Result} (h : s.rangesWf) : (s.installLive r).rangesWf := judgeLive (judge h.of_blocks)

theorem afterLive (h : s.rangesWf) : s.afterLive.rangesWf := by
  unfold State.afterLive
  split
  · exact h.modeEntry
  · exact h.takeJob

theorem trialDone {img : Image} (h : s.rangesWf) : (s.trialDone img).rangesWf := offer (h.of_fields rfl rfl rfl rfl)

theorem recordVerdict {v : Verdict} (h : s.rangesWf) : (s.recordVerdict v).rangesWf := by
  unfold State.recordVerdict
  dsimp only
  split
  · exact raise h.of_blocks
  · exact h
  · exact h

theorem placeSummary {m : Summary} {q : Port} (h : s.rangesWf) : (placeSummary m s q).rangesWf := h

end State.rangesWf

/-! ### Reads leave the state as it is -/

theorem readItemReply_state (p : List Byte) (s : State) : (readItemReply p s).1 = s := by
  unfold readItemReply
  dsimp only
  split <;> rfl

theorem readRunReply_state (p : List Byte) (s : State) : (readRunReply p s).1 = s := by
  unfold readRunReply
  dsimp only
  split <;> rfl

theorem readStowReply_state (p : List Byte) (s : State) : (readStowReply p s).1 = s := by
  unfold readStowReply
  dsimp only
  split
  · rfl
  · split <;> rfl

theorem readLotReply_state (p : List Byte) (s : State) : (readLotReply p s).1 = s := by
  unfold readLotReply
  dsimp only
  split
  · rfl
  · split <;> rfl

theorem readResultReply_state (p : List Byte) (s : State) : (readResultReply p s).1 = s := by
  unfold readResultReply
  split <;> rfl

theorem readStrengthReply_state (p : List Byte) (s : State) : (readStrengthReply p s).1 = s := by
  unfold readStrengthReply
  dsimp only
  split
  · rfl
  · split <;> rfl

theorem readAlarmsReply_state (p : List Byte) (s : State) : (readAlarmsReply p s).1 = s := by
  unfold readAlarmsReply
  dsimp only
  split <;> rfl

theorem readSettingReply_state (p : List Byte) (s : State) : (readSettingReply p s).1 = s := by
  unfold readSettingReply
  dsimp only
  split <;> rfl

/-! ### The step -/

/-- Each command keeps the settings, the trial list and the permit numbers in their ranges. -/
theorem exec_keeps_rangesWf (c : Instr) {s t : State} (h : s.rangesWf) (ht : exec c s = .next t) : t.rangesWf := by
  cases c with
  | powerOn comm =>
    cases ht
    split
    · split
      · obtain ⟨hset, htrial, -, -⟩ := State.rangesWf.blocksReset s
        have hone : permitNumber 1 := by decide
        exact ⟨hset, htrial, hone, fun c _ n hn => by cases c <;> cases hn⟩
      · exact .startUp _ _ _
    · exact h
  | lineReset comm =>
    cases ht
    split
    · exact h
    · exact .startUp _ _ _
  | resetHold cause => cases ht; exact .of_blocks (.blocksReset s)
  | frameReceived port octets =>
    cases ht
    split
    · exact h.receive
    · exact h
  | linkBreak port comm =>
    cases ht
    split
    · exact h.breakPort
    · exact h
  | silenceTimerExpiry port =>
    cases ht
    split
    · exact h.reach.silent.takeJob
    · exact h
  | frameSent port comm =>
    cases ht
    split
    · exact .startUp _ _ _
    · exact h
  | summaryTimerExpiry =>
    cases ht
    split
    · exact .foldl (fun _ _ hu => hu.placeSummary) _ h.of_blocks
    · exact h
  | unknownKind port => cases ht; exact h.serveUnknown
  | readItem => cases ht; exact h.serve (.of_reads readItemReply_state)
  | readRun => cases ht; exact h.serve (.of_reads readRunReply_state)
  | readStow => cases ht; exact h.serve (.of_reads readStowReply_state)
  | readLot => cases ht; exact h.serve (.of_reads readLotReply_state)
  | readResult => cases ht; exact h.serve (.of_reads readResultReply_state)
  | readStrength => cases ht; exact h.serve (.of_reads readStrengthReply_state)
  | readAlarms => cases ht; exact h.serve (.of_reads readAlarmsReply_state)
  | readSetting => cases ht; exact h.serve (.of_reads readSettingReply_state)
  | setConstant => cases ht; exact (h.serve fun _ _ hu => hu.setConstantReply).takeJob
  | enterLot => cases ht; exact (h.serve fun _ _ hu => hu.enterLotReply).takeJob
  | removeLot => cases ht; exact (h.serve fun _ _ hu => hu.removeLotReply).takeJob
  | shiftLot => cases ht; exact (h.serve fun _ _ hu => hu.shiftLotReply).takeJob
  | setDensity => cases ht; exact (h.serve fun _ _ hu => hu.setDensityReply).takeJob
  | setManual => cases ht; exact (h.serve fun _ _ hu => hu.setManualReply).takeJob
  | releaseManual => cases ht; exact (h.serve fun _ _ hu => hu.releaseManualReply).takeJob
  | setSetting => cases ht; exact (h.serve fun _ _ hu => hu.setSettingReply).takeJob
  | trialBegin => cases ht; exact h.serve fun _ _ hu => hu.trialBeginReply
  | trialAdd => cases ht; exact h.serve fun _ _ hu => hu.trialAddReply
  | trialRun => cases ht; exact (h.serve fun _ _ hu => hu.trialRunReply).takeJob
  | ackAlarm => cases ht; exact h.serve fun _ _ hu => hu.ackAlarmReply
  | restart => cases ht; exact h.serve fun _ _ hu => hu
  | storeLoad => cases ht; exact h.serve (.inCommissioning fun _ _ hu => hu.storeLoadReply)
  | storeProgram => cases ht; exact h.serve (.inCommissioning fun _ _ hu => hu.storeProgramReply)
  | storeDiscard => cases ht; exact h.serve (.inCommissioning fun _ _ hu => hu.storeDiscardReply)
  | storeRead => cases ht; exact h.serve (.inCommissioning fun _ _ hu => hu.storeReadReply)
  | programComplete =>
    cases ht
    split
    · exact .answer h.of_blocks
    · exact h
  | liftRequest crane => cases ht; exact (h.serveCrane fun _ _ hu => hu.liftRequestReply).takeJob
  | liftCancel crane => cases ht; exact h.serveLift fun _ _ hu => hu.liftCancelReply
  | hookLoaded crane => cases ht; exact (h.serveLift fun _ _ hu => hu.hookLoadedReply).takeJob
  | hookPosition crane => cases ht; exact (h.serveCrane fun _ _ hu => hu.hookPositionReply).takeJob
  | hookLanded crane => cases ht; exact (h.serveLift fun _ _ hu => hu.hookLandedReply).takeJob
  | stopAck port =>
    cases ht
    cases port with
    | p => exact h
    | b => exact h.serve fun _ _ hu => hu.stopAckReply
    | c1 | c2 | c3 | c4 => exact h.serveCrane fun _ _ hu => hu.stopAckReply
  | transferStart => cases ht; exact (h.serve fun _ _ hu => hu.transferStartReply).takeJob
  | transferEnd => cases ht; exact (h.serve fun _ _ hu => hu.transferEndReply).takeJob
  | transferClear => cases ht; exact (h.serve fun _ _ hu => hu.transferClearReply).takeJob
  | reservationExpiry crane =>
    cases ht
    split
    · exact h.reach.setLift_none.offer
    · exact h
  | ackTimerExpiry port =>
    cases ht
    split
    · exact .raise h.of_blocks
    · exact h
  | sweepTimerExpiry =>
    cases ht
    split
    · exact .sweepDue h.of_blocks
    · exact h
  | conversionEnd count =>
    cases ht
    split
    · exact h.reach.converted
    · exact h
  | holdTimerExpiry tank =>
    cases ht
    split
    · exact h.reach.onGauge.raise
    · exact h
  | permitJobComplete =>
    cases ht
    split
    · dsimp only
      split
      · exact h.permitOutcome.handOff.jobDone.takeJob
      · exact h.handOff.jobDone.takeJob
    · exact h
  | liveJobComplete =>
    cases ht
    split
    · dsimp only
      split
      · exact h.installLive.jobDone.afterLive
      · exact h.jobDone.afterLive
    · exact h
  | trialJobComplete =>
    cases ht
    split
    · exact h.trialDone.jobDone.takeJob
    · exact h
  | testJobComplete =>
    cases ht
    split
    · dsimp only
      split
      · split
        · exact h.recordVerdict.jobDone.nextTest
        · exact h.jobDone.nextTest
      · exact h.jobDone.nextTest
    · exact h

/-- Settles O8: a step is a command or a tick of the time base, and both keep the ranges. -/
theorem settingsAndPermitNumbersStayInRange : Obligations.SettingsAndPermitNumbersStayInRange := by
  intro s t h ht
  unfold step at ht
  split at ht
  · exact exec_keeps_rangesWf _ (.of_blocks h) ht
  · cases ht
    unfold State.tick
    split <;> exact h

end Sys2Proof.Machine
end

section
/-!
What a change of the alarm list does to the conditions that are held raised (R152), and with which other updates it
commutes: those of another port's link, of the Condition Table and of the LCU. With these a frame of a crane port may be
taken before or after the alarms of its handling.
-/

namespace Sys2Proof.Machine

set_option Elab.async false

/-! ### The conditions held raised -/

@[simp] theorem Als.drop_held (a : Als) (k : AlarmKey) : (a.drop k).held = a.held := rfl

@[simp] theorem Als.mark_held (a : Als) (l : Level) : (a.mark l).held = a.held := by cases l <;> rfl

@[simp] theorem Als.unmark_held (a : Als) (k : AlarmKey) : (a.unmark k).held = a.held := by
  unfold Als.unmark
  split <;> rfl

@[simp] theorem Als.create_held (a : Als) (k : AlarmKey) (st : EntryState) (now : Seconds) :
    (a.create k st now).1.held = a.held := by
  unfold Als.create
  dsimp only
  split
  · rfl
  · split
    · split <;> simp
    · simp

@[simp] theorem Als.raise_held (a : Als) (k : AlarmKey) (now : Seconds) : (a.raise k now).1.held = a.held := by
  unfold Als.raise
  split
  · simp
  · split <;> rfl

@[simp] theorem Als.clear_held (a : Als) (k : AlarmKey) : (a.clear k).1.held = a.held := by
  unfold Als.clear
  split
  · rfl
  · split
    · rfl
    · simp
    · rfl

@[simp] theorem State.notify_als (s : State) (l : List Notice) : (s.notify l).als = s.als := by rw [s.notify_eq l]; rfl

@[simp] theorem State.alarm_als (s : State) (r : Als × List Notice) : (s.alarm r).als = r.1 := by simp [State.alarm]

/-- A raise adds its condition to those held, once (R152). -/
theorem State.raise_held (s : State) (k : AlarmKey) :
    (s.raise k).als.held = if k ∈ s.als.held then s.als.held else s.als.held ++ [k] := by simp [State.raise]

theorem State.mem_held_raise (s : State) (k j : AlarmKey) : j ∈ (s.raise k).als.held ↔ j ∈ s.als.held ∨ j = k := by
  rw [State.raise_held]
  split
  · rename_i hk
    refine ⟨.inl, fun h => h.elim id ?_⟩
    rintro rfl
    exact hk
  · simp

/-- A clear takes its condition from those held (R152). -/
theorem State.clear_held (s : State) (k : AlarmKey) : (s.clear k).als.held = s.als.held.erase k := by
  unfold State.clear
  split
  · simp
  · rename_i hk
    rw [List.erase_of_not_mem hk]

/-- A condition that was held at most once is not held after its clear. -/
theorem State.not_mem_held_clear {s : State} (k : AlarmKey) (h : s.als.held.Nodup) : k ∉ (s.clear k).als.held := by
  rw [State.clear_held]
  exact h.not_mem_erase

/-! ### Another port's link -/

theorem PerPort.set_comm {α : Type} (m : PerPort α) {q r : Port} (h : q ≠ r) (v w : α) :
    (m.set q v).set r w = (m.set r w).set q v :=
  PerPort.ext_get fun k => by
    simp only [PerPort.get_set]
    by_cases hr : k = r
    · subst hr; simp [Ne.symm h]
    · simp [hr]

theorem State.setLink_comm (s : State) {q r : Port} (h : q ≠ r) (l l' : Link) :
    (s.setLink q l).setLink r l' = (s.setLink r l').setLink q l := by
  simp [State.setLink, PerPort.set_comm s.sli.links h]

theorem State.offer_setLink (s : State) {q r : Port} (h : q ≠ r) (l : Link) (m : OutMsg) :
    (s.setLink q l).offer r m = (s.offer r m).setLink q l := by
  simp [State.offer, State.setLink_comm s h, Ne.symm h]

theorem State.notify_setLink (s : State) {q : Port} (h : q ≠ .p) (l : Link) (ns : List Notice) :
    (s.setLink q l).notify ns = (s.notify ns).setLink q l := by
  induction ns generalizing s with
  | nil => rfl
  | cons n rest ih => simp only [State.notify, State.offer_setLink s h, ih]

theorem State.alarm_setLink (s : State) {q : Port} (h : q ≠ .p) (l : Link) (r : Als × List Notice) :
    (s.setLink q l).alarm r = (s.alarm r).setLink q l :=
  State.notify_setLink { s with als := r.1 } h l r.2

theorem State.raise_setLink (s : State) {q : Port} (h : q ≠ .p) (l : Link) (k : AlarmKey) :
    (s.setLink q l).raise k = (s.raise k).setLink q l := State.alarm_setLink s h l _

theorem State.clear_setLink (s : State) {q : Port} (h : q ≠ .p) (l : Link) (k : AlarmKey) :
    (s.setLink q l).clear k = (s.clear k).setLink q l := by
  unfold State.clear
  rw [State.setLink_als]
  split
  · exact State.alarm_setLink s h l _
  · rfl

/-- A frame of another port than P may be taken before or after a raise. -/
theorem State.raise_pull (s : State) {q : Port} (h : q ≠ .p) (k : AlarmKey) :
    (s.pull q).raise k = (s.raise k).pull q := by
  unfold State.pull
  rw [State.raise_setLink s h, State.raise_link s k q h]

/-- A frame of another port than P may be taken before or after a clear. -/
theorem State.clear_pull (s : State) {q : Port} (h : q ≠ .p) (k : AlarmKey) :
    (s.pull q).clear k = (s.clear k).pull q := by
  unfold State.pull
  rw [State.clear_setLink s h, State.clear_link s k q h]

/-! ### The Condition Table and the LCU -/

/-- The state with another Condition Table and another LCU. -/
def State.withCtLcu (s : State) (ct : CondTable) (lcu : Lcu) : State := { s with ct := ct, lcu := lcu }

theorem State.notify_withCtLcu (s : State) (ct : CondTable) (lcu : Lcu) (ns : List Notice) :
    (s.withCtLcu ct lcu).notify ns = (s.notify ns).withCtLcu ct lcu := by
  induction ns generalizing s with
  | nil => rfl
  | cons n rest ih => exact ih (s.offer .p (.notice n))

/-- A clear looks at neither the Condition Table nor the LCU. -/
theorem State.clear_withCtLcu (s : State) (ct : CondTable) (lcu : Lcu) (k : AlarmKey) :
    (s.withCtLcu ct lcu).clear k = (s.clear k).withCtLcu ct lcu := by
  unfold State.clear
  split
  · rename_i hk
    have hk' : k ∈ s.als.held := hk
    rw [if_pos hk']
    exact State.notify_withCtLcu { s with als := _ } ct lcu _
  · rename_i hk
    have hk' : k ∉ s.als.held := hk
    rw [if_neg hk']

end Sys2Proof.Machine
end

section
/-!
HOOK_POSITION (R1, R112 to R114, R118).
-/

namespace Sys2Proof.Machine

set_option Elab.async false

/-- The clamp of a reported figure (R1) as the nearer end of its range. -/
theorem clamp_eq_max_min {lo hi : Int} (h : lo ≤ hi) (v : Int) : clamp lo hi v = max lo (min hi v) := by
  unfold clamp
  split
  · omega
  · split <;> omega

theorem Pt.clampFrame_eq (q : Pt) :
    q.clampFrame = ⟨max 0 (min 250000 q.x), max (-25000) (min 25000 q.y)⟩ := by
  rw [Pt.clampFrame, clamp_eq_max_min (by decide), clamp_eq_max_min (by decide)]

theorem portOf_ne_p (c : Crane) : portOf c ≠ .p := by cases c <;> decide

/-- The payload of a HOOK_POSITION reads back its point and its height. -/
theorem hookPosition_fields {q : Pt} {h : Int} (hq : q.onWire) (hh : weightOnWire h) :
    fieldPt (ptOctets q ++ octets 3 h) 0 = q ∧ fieldU (ptOctets q ++ octets 3 h) 6 3 = h := by
  refine ⟨fieldPt_ptOctets q _ hq, ?_⟩
  rw [fieldU_append_right _ _ _ _ (by simp), ptOctets_length]
  exact fieldU_octets_end h hh

/-- The write of a report to the hook, the structure and the serial, before its clear (R31, R114). -/
def State.hookWritten (s : State) (c : Crane) (d : CraneDef) (q : Pt) (h : Int) : State :=
  s.withCtLcu { s.ct with structs := s.ct.structs.set c (some (d.centroid q)), serial := s.ct.serial + 1 }
    { s.lcu with hooks := s.lcu.hooks.set c ⟨q.x, q.y, h, .reported⟩ }

theorem State.clear_hookWritten (s : State) (c : Crane) (d : CraneDef) (q : Pt) (h : Int) (k : AlarmKey) :
    (s.clear k).hookWritten c d q h = (s.hookWritten c d q h).clear k := by
  simp only [State.hookWritten, State.clear_withCtLcu, State.clear_ct, State.clear_lcu]

/-- A report applied to a defined crane is written, and POSITION_UNKNOWN clears (R114, R118). -/
theorem State.applyHook_eq (s : State) {c : Crane} {d : CraneDef} (hd : s.tables.crane c = some d) (q : Pt) (h : Int) :
    s.applyHook c q h = (s.hookWritten c d q h).clear ⟨.positionUnknown, .crane c⟩ := by
  have hput : s.putHook c q h = s.withCtLcu { s.ct with structs := s.ct.structs.set c (some (d.centroid q)) }
      { s.lcu with hooks := s.lcu.hooks.set c ⟨q.x, q.y, h, .reported⟩ } := by
    have hd' : (s.setHook c ⟨q.x, q.y, h, .reported⟩).tables.crane c = some d := hd
    unfold State.putHook State.moveStructure
    rw [hd']
    rfl
  rw [State.applyHook, hput, State.hookWritten, State.clear_withCtLcu, State.clear_withCtLcu]
  rfl

/-- What HOOK_POSITION does with a report of a defined crane, its point and height in the frame. -/
theorem hookPositionReply_eq {c : Crane} {p : List Byte} {s : State} {d : CraneDef} (hd : s.tables.crane c = some d) :
    let q := (fieldPt p 0).clampFrame
    let h := clamp 0 80000 (fieldU p 6 3)
    hookPositionReply c p s =
      if d.plausible q = false then
        (s.raise ⟨.positionImplausible, .crane c⟩, done kHookPosition (.report .implausible))
      else if (s.hook c).source = .reported ∧ (s.hook c).near q h s.settings.hookDeadband = true then
        (s.clear ⟨.positionImplausible, .crane c⟩, done kHookPosition (.report .withinDeadband))
      else ((s.clear ⟨.positionImplausible, .crane c⟩).applyHook c q h, done kHookPosition (.report .applied)) := by
  unfold hookPositionReply
  rw [hd]
  dsimp only
  cases d.plausible (fieldPt p 0).clampFrame <;> simp

/-- The state after a HOOK_POSITION frame: what its handling does, said of the state before the frame was taken. -/
theorem execHookPosition_eq {s : State} {c : Crane} {p : List Byte} {d : CraneDef} {q : Pt} {h : Int}
    (ht : s.takes (portOf c) kHookPosition p) (hlen : lengthOk kHookPosition p = true)
    (hd : s.tables.crane c = some d) (hq : (fieldPt p 0).clampFrame = q) (hh : clamp 0 80000 (fieldU p 6 3) = h) :
    exec (.hookPosition c) s = .next (State.takeJob (
      let say (b : ReportState) : OutMsg := .done kHookPosition (.report b)
      if d.plausible q = false then (s.raise ⟨.positionImplausible, .crane c⟩).replied (portOf c) (say .implausible)
      else if (s.hook c).source = .reported ∧ (s.hook c).near q h s.settings.hookDeadband = true then
        (s.clear ⟨.positionImplausible, .crane c⟩).replied (portOf c) (say .withinDeadband)
      else ((s.clear ⟨.positionImplausible, .crane c⟩).applyHook c q h).replied (portOf c) (say .applied))) := by
  have hp := portOf_ne_p c
  have hpull : (s.pull (portOf c)).tables.crane c = some d := hd
  have happly (u : State) (hu : u.tables.crane c = some d) :
      (u.pull (portOf c)).applyHook c q h = (u.applyHook c q h).pull (portOf c) := by
    have hu' : (u.pull (portOf c)).tables.crane c = some d := hu
    rw [State.applyHook_eq _ hu', State.applyHook_eq _ hu, ← State.clear_pull _ hp]
    rfl
  show Host.Outcome.next (serveCrane c kHookPosition (hookPositionReply c) s).takeJob = _
  rw [serveCrane_takes ⟨ht, by rw [hd]; rfl⟩ hlen, hookPositionReply_eq hpull, hq, hh]
  congr 2
  by_cases himp : d.plausible q = false
  · simp only [if_pos himp]
    rw [State.raise_pull s hp]
    exact State.answer_pull _ _ _
  · simp only [if_neg himp]
    by_cases hnear : (s.hook c).source = .reported ∧ (s.hook c).near q h s.settings.hookDeadband = true
    · have hnear' : ((s.pull (portOf c)).hook c).source = .reported ∧
          ((s.pull (portOf c)).hook c).near q h (s.pull (portOf c)).settings.hookDeadband = true := hnear
      rw [if_pos hnear, if_pos hnear', State.clear_pull s hp]
      exact State.answer_pull _ _ _
    · have hnear' : ¬(((s.pull (portOf c)).hook c).source = .reported ∧
          ((s.pull (portOf c)).hook c).near q h (s.pull (portOf c)).settings.hookDeadband = true) := hnear
      rw [if_neg hnear, if_neg hnear', State.clear_pull s hp, happly _ (by rw [State.clear_tables]; exact hd)]
      exact State.answer_pull _ _ _

@[simp] theorem State.replied_als (s : State) (q : Port) (m : OutMsg) : (s.replied q m).als = s.als := rfl

/-- Settles O47: the report is implausible, within the deadband, or applied. -/
theorem hookReportIsJudgedAndApplied : Obligations.HookReportIsJudgedAndApplied := by
  intro s c q h d hq hh hd ht x y z dx dy held band
  obtain ⟨hpt, hz⟩ := hookPosition_fields hq hh
  have hlen : lengthOk kHookPosition (ptOctets q ++ octets 3 h) = true := by simp [lengthOk, fixedLength]
  have hpoint : (fieldPt (ptOctets q ++ octets 3 h) 0).clampFrame = ⟨x, y⟩ := by rw [hpt, Pt.clampFrame_eq]
  have hheight : clamp 0 80000 (fieldU (ptOctets q ++ octets 3 h) 6 3) = z := by
    rw [hz, clamp_eq_max_min (by decide)]
  have hplaus : d.plausible ⟨x, y⟩ = false ↔ 2601 * (d.outreach * d.outreach) < 2500 * (dx * dx + dy * dy) := by
    rw [CraneDef.plausible, decide_eq_false_iff_not, not_le]
    rfl
  have hnear : (held.source = .reported ∧ held.near ⟨x, y⟩ z s.settings.hookDeadband = true) ↔
      (held.source = .reported ∧ mag (x - held.x) < band ∧ mag (y - held.y) < band ∧ mag (z - held.h) < band) := by
    simp [Hook.near, band, and_assoc]
  refine ⟨_, execHookPosition_eq ht hlen hd hpoint hheight, ?_⟩
  simp only [hplaus, hnear, held]
  split
  · refine ⟨rfl, ?_⟩
    rw [State.takeJob_als, State.replied_als, State.mem_held_raise]
    exact .inr rfl
  · split
    · refine ⟨rfl, fun hn => ?_⟩
      rw [State.takeJob_als, State.replied_als]
      exact State.not_mem_held_clear _ hn
    · rw [State.applyHook_eq _ (by rw [State.clear_tables]; exact hd), State.clear_hookWritten]
      refine ⟨rfl, fun hn => ?_⟩
      rw [State.takeJob_als, State.replied_als]
      have hn1 : ((s.hookWritten c d ⟨x, y⟩ z).clear ⟨.positionImplausible, .crane c⟩).als.held.Nodup := by
        rw [State.clear_held]
        exact List.Nodup.erase _ hn
      refine ⟨?_, State.not_mem_held_clear _ hn1⟩
      rw [State.clear_held]
      exact fun hmem => State.not_mem_held_clear (s := s.hookWritten c d ⟨x, y⟩ z) _ hn (List.mem_of_mem_erase hmem)

end Sys2Proof.Machine
end

section
/-!
The reads by address (R5, R10, R161, R162): the fields of an address are the rows of its table, and each read answers
with them and leaves the state as it is.
-/

namespace Sys2Proof.Machine

set_option Elab.async false

/-! ### A field identifier and its row (R10) -/

theorem Compartment.item_eq_lookup (c : Compartment) (f : Nat) :
    c.item f = lookup [(2, c.box.xAft), (3, c.box.xFwd), (4, c.box.yPort), (5, c.box.yStbd), (6, c.box.zLow),
      (7, c.box.zHigh), (8, Int.ofNat c.first), (9, Int.ofNat c.last)] f := by
  unfold Compartment.item
  split
  case h_9 => simp_all [lookup_cons, @eq_comm Nat _ f]
  all_goals rfl

/-- The row of a space's capacity state (R18). -/
def capRow : Option CapState → List (Nat × Int)
  | some .within => [(13, 0)]
  | some .over => [(13, 1)]
  | none => []

theorem State.cargoItem_eq_lookup (s : State) (a : Nat) (capacity : Int) (f : Nat) :
    s.cargoItem a capacity f =
      lookup ([(10, capacity), (11, s.ct.total a), (12, Int.ofNat (s.ct.stow a).length)] ++
        capRow (lookup s.ct.spaces a)) f := by
  unfold State.cargoItem
  split
  case h_4 => rcases lookup s.ct.spaces a with _ | _ | _ <;> rfl
  case h_5 =>
    rcases lookup s.ct.spaces a with _ | _ | _ <;> simp_all [capRow, lookup_cons, @eq_comm Nat _ f]
  all_goals rfl

theorem TankDef.item_eq_lookup (d : TankDef) (f : Nat) :
    d.item f = lookup [(14, Int.ofNat d.table.length), (15, d.depth), (16, d.cx), (17, d.cy),
      (18, d.channel.elim 255 Int.ofNat), (19, d.density), (20, d.maxInertia)] f := by
  unfold TankDef.item
  split
  case h_5 => cases d.channel <;> rfl
  case h_8 => simp_all [lookup_cons, @eq_comm Nat _ f]
  all_goals rfl

theorem TankLive.item_eq_lookup (t : TankLive) (f : Nat) :
    t.item f = lookup [(21, t.sounding), (22, Int.ofNat t.source.num), (23, t.density), (24, t.volume), (25, t.liqZ),
      (26, t.inertia), (27, t.weight), (28, if t.inTransfer then 1 else 0)] f := by
  unfold TankLive.item
  split
  case h_9 => simp_all [lookup_cons, @eq_comm Nat _ f]
  all_goals rfl

theorem CraneDef.item_eq_lookup (d : CraneDef) (f : Nat) :
    d.item f = lookup [(29, d.px), (30, d.py), (31, d.weight), (32, d.boom), (33, d.outreach), (34, d.swl)] f := by
  unfold CraneDef.item
  split
  case h_7 => simp_all [lookup_cons, @eq_comm Nat _ f]
  all_goals rfl

theorem Pos.item_eq_lookup (q : Pos) (f : Nat) : q.item f = lookup [(35, q.x), (36, q.y), (37, q.z)] f := by
  unfold Pos.item
  split
  case h_4 => simp_all [lookup_cons, @eq_comm Nat _ f]
  all_goals rfl

theorem ConstDef.item_eq_lookup (d : ConstDef) (f : Nat) :
    d.item f = lookup [(38, d.weight), (39, d.pos.x), (40, d.pos.y), (41, d.pos.z)] f := by
  unfold ConstDef.item
  split
  case h_5 => simp_all [lookup_cons, @eq_comm Nat _ f]
  all_goals rfl

theorem ConstLive.item_eq_lookup (c : ConstLive) (f : Nat) :
    c.item f = lookup [(27, c.weight), (35, c.pos.x), (36, c.pos.y), (37, c.pos.z)] f := by
  unfold ConstLive.item
  split
  case h_1 => rfl
  case h_2 hf => rw [Pos.item_eq_lookup, lookup_cons (27, c.weight), if_neg (Ne.symm hf)]

/-- The crane of an address, found by its number or among the four (R6). -/
theorem craneOfNum_eq_find (a : Nat) : craneOfNum (a - 111) = cranes.find? fun c => a == 111 + craneNum c := by
  generalize hn : a - 111 = n
  unfold craneOfNum
  split
  · obtain rfl : a = 112 := by omega
    rfl
  · obtain rfl : a = 113 := by omega
    rfl
  · obtain rfl : a = 114 := by omega
    rfl
  · obtain rfl : a = 115 := by omega
    rfl
  · rename_i h1 h2 h3 h4
    refine (List.find?_eq_none.2 fun c _ => ?_).symm
    rw [beq_iff_eq]
    rintro rfl
    cases c
    · exact h1 hn.symm
    · exact h2 hn.symm
    · exact h3 hn.symm
    · exact h4 hn.symm

/-! ### The table of an address (R10) -/

/-- The KIND of an address (R10). -/
theorem State.lookup_itemTable_kind (s : State) (a : Nat) : lookup (s.itemTable a) 1 = some (s.tables.kindOf a : Int) := by
  unfold State.itemTable Tables.kindOf
  rcases s.tables.comp a with _ | ⟨box, first, last, body⟩
  · rfl
  · cases body <;> rfl

theorem State.kindAt_eq (s : State) (a : Nat) : s.kindAt a = s.tables.kindOf a := by
  rw [State.kindAt, State.lookup_itemTable_kind]
  rfl

/-- The rows that every defined address has, before those of its kind (R10). -/
theorem Compartment.lookup_rows (e : Compartment) {f : Nat} (hf : f ≠ 1) (kind : Int) (rest : List (Nat × Int)) :
    lookup ([(1, kind), (2, e.box.xAft), (3, e.box.xFwd), (4, e.box.yPort), (5, e.box.yStbd), (6, e.box.zLow),
      (7, e.box.zHigh), (8, Int.ofNat e.first), (9, Int.ofNat e.last)] ++ rest) f =
      (e.item f).or (lookup rest f) := by
  rw [lookup_append, lookup_cons, if_neg (Ne.symm hf), Compartment.item_eq_lookup]

/-- Every field of an address is the row of its table (R10). -/
theorem State.item_eq_lookup (s : State) (a f : Nat) : s.item a f = lookup (s.itemTable a) f := by
  unfold State.item
  split
  case isTrue h1 => rw [h1, State.lookup_itemTable_kind]
  case isFalse h1 =>
    unfold State.itemTable
    rcases s.tables.comp a with _ | ⟨box, first, last, body⟩
    · simp [lookup_cons, Ne.symm h1]
    · refine .trans ?_ (Compartment.lookup_rows ⟨box, first, last, body⟩ h1 _ _).symm
      show (Compartment.item _ f).or (s.kindItem a body f) = _
      congr 1
      cases body with
      | cargo capacity =>
        refine (s.cargoItem_eq_lookup a capacity f).trans ?_
        rcases lookup s.ct.spaces a with _ | _ | _ <;> rfl
      | tank d =>
        rw [State.kindItem, TankDef.item_eq_lookup, lookup_append]
        congr 1
        rw [State.tank]
        rcases lookup s.ct.tanks a with _ | ⟨sounding, source, density, volume, liqZ, inertia, weight, moving⟩
        · rfl
        · rw [Option.bind_some, TankLive.item_eq_lookup]
          cases source <;> rfl
      | crane d =>
        rw [State.kindItem, CraneDef.item_eq_lookup, lookup_append, craneOfNum_eq_find]
        congr 1
        rcases (cranes.find? fun c => a == 111 + craneNum c).bind s.ct.structs.get with _ | q
        · rfl
        · exact q.item_eq_lookup f
      | constant d =>
        rw [State.kindItem, ConstDef.item_eq_lookup, lookup_append]
        congr 1
        rcases lookup s.ct.consts a with _ | live
        · rfl
        · exact live.item_eq_lookup f

theorem State.kindAndItem_eq (s : State) (a f : Nat) : s.kindAndItem f a = (s.kindAt a, lookup (s.itemTable a) f) := by
  rw [State.kindAndItem, State.kindAt_eq, State.item_eq_lookup]

/-! ### The three reads (R161, R162) -/

/-- A read that answers and does nothing else. -/
theorem serve_reads {s : State} {q : Port} {k : Byte} {p : List Byte} {m : OutMsg}
    {handle : List Byte → State → State × Reply} (h : s.takes q k p) (hl : lengthOk k p = true)
    (hm : handle p (s.pull q) = (s.pull q, .say m)) : serve q k handle s = s.replied q m := by
  rw [serve_takes h hl, hm]
  exact s.answer_pull q m

/-- The two checks of a read by address, the address octet first (R5, R161, assumption 25). -/
theorem readCode_eq {a : Nat} (h : a < 256) (ok : Bool) :
    readCode a ok = if 128 ≤ a ∧ a ≠ 254 then some .badField else if a = 254 then some .badSpace
      else if ok = false then some .badField else none := by
  rw [readCode, addressCode_eq h]
  by_cases h1 : 128 ≤ a ∧ a ≠ 254
  · rw [if_pos h1, if_pos h1]
  · rw [if_neg h1, if_neg h1]
    by_cases h2 : a = 254
    · rw [if_pos h2, if_pos h2]
    · rw [if_neg h2, if_neg h2]
      cases ok <;> rfl

/-- Two octets of a payload, and what follows them, each read back. -/
theorem field_two_octets {a f : Nat} (ha : a < 256) (hf : f < 256) (rest : List Byte) :
    field (octetsN 1 a ++ octetsN 1 f ++ rest) 0 1 = a ∧ field (octetsN 1 a ++ octetsN 1 f ++ rest) 1 1 = f := by
  rw [List.append_assoc]
  refine ⟨field_octetsN_append 1 a _ ha, ?_⟩
  rw [field_append_right _ _ _ _ (by simp)]
  simpa using field_octetsN_append 1 f rest hf

theorem readItemReply_eq (s : State) {a f : Nat} (ha : a < 256) (hf : f < 256) :
    readItemReply (octetsN 1 a ++ octetsN 1 f) s = (s, .say (
      if 128 ≤ a ∧ a ≠ 254 then .refused kReadItem .badField
      else if a = 254 then .refused kReadItem .badSpace
      else if f < 1 ∨ 41 < f then .refused kReadItem .badField
      else .value a f false [(s.kindAt a, lookup (s.itemTable a) f)])) := by
  obtain ⟨h0, h1⟩ : field (octetsN 1 a ++ octetsN 1 f) 0 1 = a ∧ field (octetsN 1 a ++ octetsN 1 f) 1 1 = f := by
    simpa using field_two_octets ha hf []
  have hok : itemField f = false ↔ f < 1 ∨ 41 < f := by simp [itemField]; omega
  unfold readItemReply
  simp only [h0, h1, readCode_eq ha, hok]
  split_ifs <;> simp only [refuse, State.kindAndItem_eq]

theorem readRunReply_eq (s : State) {a f n : Nat} (ha : a < 256) (hf : f < 256) (hn : n < 256) :
    readRunReply (octetsN 1 a ++ octetsN 1 f ++ octetsN 1 n) s = (s, .say (
      if 128 ≤ a ∧ a ≠ 254 then .refused kReadRun .badField
      else if a = 254 then .refused kReadRun .badSpace
      else if f < 1 ∨ 41 < f ∨ n < 1 ∨ 13 < n then .refused kReadRun .badField
      else .value a f true ((List.range (min n (16 - a % 16))).map fun k =>
        (s.kindAt (a + k), lookup (s.itemTable (a + k)) f)))) := by
  obtain ⟨h0, h1⟩ := field_two_octets ha hf (octetsN 1 n)
  have h2 : field (octetsN 1 a ++ octetsN 1 f ++ octetsN 1 n) 2 1 = n := by
    rw [field_append_right _ _ _ _ (by simp)]
    simpa using field_octetsN 1 n hn
  have hok : (itemField f && decide (1 ≤ n ∧ n ≤ 13)) = false ↔ f < 1 ∨ 41 < f ∨ n < 1 ∨ 13 < n := by
    simp [itemField]; omega
  unfold readRunReply
  simp only [h0, h1, h2, readCode_eq ha, hok]
  split_ifs <;> simp only [refuse, runAddrs, List.map_map, Function.comp_def, State.kindAndItem_eq]

theorem readStowReply_eq (s : State) {a i n : Nat} (ha : a < 256) (hi : i < 65536) (hn : n < 256) :
    readStowReply (octetsN 1 a ++ octetsN 2 i ++ octetsN 1 n) s = (s, .say (
      if 128 ≤ a ∧ a ≠ 254 then .refused kReadStow .badField
      else if a = 254 then .refused kReadStow .badSpace
      else if n < 1 ∨ 8 < n then .refused kReadStow .badField
      else if (s.tables.cargo a).isSome = true then
        .stow a 1 (some ((s.ct.stow a).length, s.ct.total a)) i
          (((s.ct.stow a).drop i).take n |>.map fun l => (l.num, l.weight))
      else .stow a (s.kindAt a) none i [])) := by
  have h0 : field (octetsN 1 a ++ octetsN 2 i ++ octetsN 1 n) 0 1 = a := by
    rw [List.append_assoc]
    exact field_octetsN_append 1 a _ ha
  have h1 : field (octetsN 1 a ++ octetsN 2 i ++ octetsN 1 n) 1 2 = i := by
    rw [List.append_assoc, field_append_right _ _ _ _ (by simp)]
    simpa using field_octetsN_append 2 i _ hi
  have h3 : field (octetsN 1 a ++ octetsN 2 i ++ octetsN 1 n) 3 1 = n := by
    rw [field_append_right _ _ _ _ (by simp)]
    simpa using field_octetsN 1 n hn
  have hok : decide (1 ≤ n ∧ n ≤ 8) = false ↔ n < 1 ∨ 8 < n := by simp; omega
  have hkind : (s.tables.cargo a).isSome = true → s.tables.kindOf a = 1 := by
    unfold Tables.cargo Tables.kindOf
    split <;> simp_all
  unfold readStowReply
  simp only [h0, h1, h3, readCode_eq ha, hok]
  by_cases h1 : 128 ≤ a ∧ a ≠ 254
  · simp only [if_pos h1, refuse]
  · by_cases h2 : a = 254
    · simp only [if_neg h1, if_pos h2, refuse]
    · by_cases h3 : n < 1 ∨ 8 < n
      · simp only [if_neg h1, if_neg h2, if_pos h3, refuse]
      · simp only [if_neg h1, if_neg h2, if_neg h3, State.kindAt_eq]
        split
        · rename_i h4
          rw [hkind h4]
        · rfl

/-- Settles O22: each read answers by its address octet and its other fields. -/
theorem readsAnswerByAddress : Obligations.ReadsAnswerByAddress := by
  refine fun s a f n i ha hf hn hi => ⟨fun h => ?_, fun h => ?_, fun h => ?_⟩
  · exact congrArg _ (serve_reads h (by simp [lengthOk, fixedLength]) (readItemReply_eq _ ha hf))
  · exact congrArg _ (serve_reads h (by simp [lengthOk, fixedLength]) (readRunReply_eq _ ha hf hn))
  · exact congrArg _ (serve_reads h (by simp [lengthOk, fixedLength]) (readStowReply_eq _ ha hi hn))

end Sys2Proof.Machine
end

section
/-!
Which frames are taken, and which are refused unread (R6, R80, R160, R173, R174, R178, R179): every frame command is
the taking of a frame of its kind on its port, so what it does with other frames is said once for all of them.
-/

namespace Sys2Proof.Machine

set_option Elab.async false

/-! ### When no frame is taken, and when no job is chosen -/

/-- While the part mode is STARTING no frame is taken (R174). -/
theorem State.head_of_starting {s : State} (h : s.hds.mode = .starting) (q : Port) : s.head q = none := by
  simp [State.head, State.canTake, h]

/-- No frame is taken on port P while a restart is pending, on a port whose outbound queue has no free entry, or from an
empty buffer (R160, R174). -/
theorem State.head_of_blocked {s : State} {q : Port} (h : (q = .p ∧ s.csv.restartPending = true) ∨
    8 ≤ (s.link q).queue.length + (s.link q).reserved ∨ (s.link q).inbound = []) : s.head q = none := by
  unfold State.head
  split
  · rename_i hc
    simp only [State.canTake, Link.hasRoom, Bool.and_eq_true, Bool.or_eq_true, bne_iff_ne, Bool.not_eq_true'] at hc
    obtain ⟨⟨-, hrestart⟩, hroom⟩ := hc
    rcases h with ⟨hq, hr⟩ | hfull | hempty
    · rcases hrestart with hne | hno
      · exact absurd hq hne
      · rw [hr] at hno; cases hno
    · exact absurd (of_decide_eq_true hroom) (by rw [Config.outboundSize]; omega)
    · rw [hempty]; rfl
  · rfl

/-- A frame command finds no frame to take. -/
theorem serve_of_head_none {s : State} {q : Port} (h : s.head q = none) (k : Byte)
    (handle : List Byte → State → State × Reply) : serve q k handle s = s := by simp [serve, h]

theorem State.takeJob_of_starting {s : State} (h : s.hds.mode = .starting) : s.takeJob = s := by
  simp [State.takeJob, h]

/-- With no job left waiting the evaluator chooses none (R41). -/
theorem State.takeJob_of_noJobWaits {s : State} (h : s.noJobWaits) (hrun : s.phase = .running) : s.takeJob = s := by
  unfold State.takeJob
  split
  · rename_i hidle
    simp only [Bool.and_eq_true, bne_iff_ne, ne_eq, decide_eq_true_eq] at hidle
    obtain ⟨hdirty, hqueue, htrial⟩ := h hrun hidle.1 hidle.2
    simp [chooseJob, hdirty, hqueue, htrial]
  · rfl

/-- A frame answered leaves no job waiting where none waited. -/
theorem State.noJobWaits_replied {s : State} (h : s.noJobWaits) (q : Port) (m : OutMsg) : (s.replied q m).noJobWaits := h

/-! ### The frame commands (R178) -/

/-- A command is the taking of a frame of a kind on a port: what it does with the frame is its handling, after which the
evaluator may choose a job; the port of an undefined crane refuses the frame (R6, R80). -/
structure TakesFrame (c : Instr) (q : Port) (k : Byte) (handle : List Byte → State → State × Reply) : Prop where
  exec_eq : ∀ s, exec c s = .next (serve q k handle s) ∨ exec c s = .next (serve q k handle s).takeJob
  undefined : ∀ crane, craneOfPort q = some crane → ∀ p u, u.tables.crane crane = none →
    handle p u = (u, refuse k .badSpace)

/-- A command of port P or B, whose ports have no crane. -/
theorem TakesFrame.of_port {c : Instr} {q : Port} {k : Byte} {handle : List Byte → State → State × Reply}
    (hq : craneOfPort q = none)
    (h : ∀ s, exec c s = .next (serve q k handle s) ∨ exec c s = .next (serve q k handle s).takeJob) :
    TakesFrame c q k handle :=
  ⟨h, fun crane hc => by rw [hq] at hc; cases hc⟩

theorem craneOfPort_portOf (c : Crane) : craneOfPort (portOf c) = some c := by cases c <;> rfl

/-- A command of a crane's port. -/
theorem TakesFrame.of_crane {i : Instr} {c : Crane} {k : Byte} {handle : List Byte → State → State × Reply}
    (h : ∀ s, exec i s = .next (serveCrane c k handle s) ∨ exec i s = .next (serveCrane c k handle s).takeJob) :
    TakesFrame i (portOf c) k
      (fun p s => if (s.tables.crane c).isNone then (s, refuse k .badSpace) else handle p s) := by
  refine ⟨h, fun crane hc p u hu => ?_⟩
  rw [craneOfPort_portOf] at hc
  cases hc
  rw [hu]
  rfl

/-- Every frame command is the taking of a frame of its kind on its port. -/
theorem takesFrame_of_frameKind {c : Instr} {q : Port} {k : Nat} (h : frameKind c = some (q, k)) :
    ∃ handle, k < 256 ∧ TakesFrame c q (BitVec.ofNat 8 k) handle := by
  cases c with
  | powerOn | lineReset | resetHold | frameReceived | linkBreak | silenceTimerExpiry | frameSent | summaryTimerExpiry
  | unknownKind | programComplete | reservationExpiry | ackTimerExpiry | sweepTimerExpiry | conversionEnd
  | holdTimerExpiry | permitJobComplete | liveJobComplete | trialJobComplete | testJobComplete => cases h
  | readItem | readRun | readStow | readLot | readResult | readStrength | readAlarms | readSetting | trialBegin
  | trialAdd | ackAlarm | restart | storeLoad | storeProgram | storeDiscard | storeRead =>
    cases h
    exact ⟨_, by decide, .of_port rfl fun s => .inl rfl⟩
  | setConstant | enterLot | removeLot | shiftLot | setDensity | setManual | releaseManual | setSetting | trialRun
  | transferStart | transferEnd | transferClear =>
    cases h
    exact ⟨_, by decide, .of_port rfl fun s => .inr rfl⟩
  | liftRequest crane => cases h; exact ⟨_, by decide, .of_crane fun s => .inr rfl⟩
  | liftCancel crane => cases h; exact ⟨_, by decide, .of_crane fun s => .inl rfl⟩
  | hookLoaded crane => cases h; exact ⟨_, by decide, .of_crane fun s => .inr rfl⟩
  | hookPosition crane => cases h; exact ⟨_, by decide, .of_crane fun s => .inr rfl⟩
  | hookLanded crane => cases h; exact ⟨_, by decide, .of_crane fun s => .inr rfl⟩
  | stopAck port =>
    cases port with
    | p => cases h
    | b => cases h; exact ⟨_, by decide, .of_port rfl fun s => .inl rfl⟩
    | c1 => cases h; exact ⟨_, by decide, .of_crane (c := .k1) fun s => .inl rfl⟩
    | c2 => cases h; exact ⟨_, by decide, .of_crane (c := .k2) fun s => .inl rfl⟩
    | c3 => cases h; exact ⟨_, by decide, .of_crane (c := .k3) fun s => .inl rfl⟩
    | c4 => cases h; exact ⟨_, by decide, .of_crane (c := .k4) fun s => .inl rfl⟩

variable {c : Instr} {q : Port} {k : Byte} {handle : List Byte → State → State × Reply}

/-- What the taking of a frame comes to, when no job waits after it. -/
theorem TakesFrame.exec_of_serve {s t : State} (h : TakesFrame c q k handle) (hs : serve q k handle s = t)
    (ht : t.takeJob = t) : exec c s = .next t := by
  rcases h.exec_eq s with he | he
  · rw [he, hs]
  · rw [he, hs, ht]

/-! ### The lengths (R173, R179) -/

/-- A field of one octet is that octet. -/
theorem field_one {p : List Byte} {i : Nat} (h : i < p.length) : field p i 1 = p[i].toNat := by
  unfold field
  rw [List.drop_eq_getElem_cons h, List.take_succ_cons]
  simp

/-- The kinds of one length, as the table of lengths has them (R179). -/
theorem fixedLength_iff_mem (k n : Nat) : fixedLength k = some n ↔ (k, n) ∈ kindLengths := by
  unfold fixedLength
  split
  case h_32 => simp_all [kindLengths]
  all_goals simp [kindLengths, eq_comm]

/-- The lengths of the trial changes, as the table of lengths has them (R169, assumption 17). -/
theorem trialLength_fits_iff (ch n : Nat) :
    (match trialLength ch with
      | some m => decide (n = m)
      | none => true) = true ↔ (ch, n) ∈ changeLengths ∨ 6 ≤ ch := by
  by_cases h : 6 ≤ ch
  · have hnone : trialLength ch = none := by
      unfold trialLength
      split
      case h_7 => rfl
      all_goals omega
    simp [hnone, h]
  · interval_cases ch <;> simp [trialLength, changeLengths]

theorem lengthOk_liftRequest (p : List Byte) : lengthOk kLiftRequest p = true ↔ fitsKind 48 p := by
  have hok : lengthOk kLiftRequest p = true ↔
      if 27 ≤ p.length ∧ field p 26 1 = 1 then p.length = 41 else p.length = 27 := by
    rw [lengthOk, if_pos rfl]
    split <;> simp
  have hfits : fitsKind 48 p ↔ (p.length = 27 ∧ p[26]? ≠ some 1) ∨ (p.length = 41 ∧ p[26]? = some 1) := Iff.rfl
  rw [hok, hfits]
  by_cases hlen : 27 ≤ p.length
  · have hflag : field p 26 1 = 1 ↔ p[26]? = some 1 := by
      rw [field_one (by omega), List.getElem?_eq_getElem (by omega), Option.some_inj, ← BitVec.toNat_inj]
      rfl
    simp only [hlen, hflag, true_and]
    split <;> rename_i hset <;> simp only [hset, not_true_eq_false, not_false_eq_true, and_true, and_false, or_false,
      false_or, ne_eq]
  · have hne : p.length ≠ 27 ∧ p.length ≠ 41 := by omega
    simp [hlen, hne]

theorem lengthOk_trialAdd (p : List Byte) : lengthOk kTrialAdd p = true ↔ fitsKind 18 p := by
  have hok : lengthOk kTrialAdd p = (decide (1 ≤ p.length) && match trialLength (field p 0 1) with
      | some m => decide (p.length = m)
      | none => true) := rfl
  rw [hok, Bool.and_eq_true, trialLength_fits_iff]
  show _ ↔ ∃ ch rest, p = ch :: rest ∧ ((ch.toNat, p.length) ∈ changeLengths ∨ 6 ≤ ch.toNat)
  rcases p with _ | ⟨ch, rest⟩
  · simp
  · rw [field_one (by simp)]
    simp

theorem lengthOk_storeLoad (p : List Byte) : lengthOk kStoreLoad p = true ↔ fitsKind 22 p := by
  have hok : lengthOk kStoreLoad p = decide (6 ≤ p.length ∧ p.length ≤ 50 ∧ (p.length - 2) % 4 = 0) := rfl
  rw [hok, decide_eq_true_eq]
  show _ ↔ ∃ n, 1 ≤ n ∧ n ≤ 12 ∧ p.length = 2 + 4 * n
  refine ⟨fun h => ⟨(p.length - 2) / 4, by omega, by omega, by omega⟩, ?_⟩
  rintro ⟨n, h1, h12, hlen⟩
  omega

/-- The lengths that are taken are those that the kind requires (R173, R179). -/
theorem lengthOk_iff_fitsKind (k : Byte) (p : List Byte) : lengthOk k p = true ↔ fitsKind k.toNat p := by
  by_cases h48 : k = kLiftRequest
  · subst h48; exact lengthOk_liftRequest p
  · by_cases h18 : k = kTrialAdd
    · subst h18; exact lengthOk_trialAdd p
    · by_cases h22 : k = kStoreLoad
      · subst h22; exact lengthOk_storeLoad p
      · have hne {m : Byte} (hm : k ≠ m) : k.toNat ≠ m.toNat := fun h => hm (BitVec.eq_of_toNat_eq h)
        have hfits : fitsKind k.toNat p ↔ (k.toNat, p.length) ∈ kindLengths := by
          have h : fitsKind k.toNat p = ((k.toNat, p.length) ∈ kindLengths) :=
            (if_neg (hne h18)).trans ((if_neg (hne h22)).trans (if_neg (hne h48)))
          rw [h]
        rw [lengthOk, if_neg h48, if_neg h18, if_neg h22, hfits, decide_eq_true_eq, fixedLength_iff_mem]

/-! ### The statement -/

/-- A frame of a kind that its port does not serve is answered UNKNOWN_KIND; one of a kind that it serves stays. -/
theorem serveUnknown_takes {s : State} {q : Port} {k : Byte} {p : List Byte} (h : s.takes q k p) :
    serveUnknown q s = if servesKind q k then s else s.replied q (.refused k .unknownKind) := by
  rw [serveUnknown, State.head_of_takes h]
  exact if_congr Iff.rfl rfl (s.answer_pull q _)

/-- A command that finds no frame of its port to take leaves the state as it is (assumption 5). -/
theorem exec_of_head_none {s : State} {c : Instr} {q : Port} (hc : (∃ k, frameKind c = some (q, k)) ∨ c = .unknownKind q)
    (hhead : s.head q = none) (hjob : s.takeJob = s) : exec c s = .next s := by
  rcases hc with ⟨k, hk⟩ | rfl
  · obtain ⟨handle, -, hframe⟩ := takesFrame_of_frameKind hk
    exact hframe.exec_of_serve (serve_of_head_none hhead _ _) hjob
  · show Host.Outcome.next (serveUnknown q s) = _
    rw [serveUnknown, hhead]

/-- A frame at the head of the buffer, and a frame command of its port: another kind stays, a wrong length is refused
BAD_FIELD, and the port of an undefined crane refuses BAD_SPACE. -/
theorem exec_of_takes {s : State} {c : Instr} {q : Port} {k : Nat} {head : Byte} {p : List Byte}
    (hk : frameKind c = some (q, k)) (hjobs : s.noJobWaits) (ht : s.takes q head p) :
    (head.toNat ≠ k → exec c s = .next s) ∧
    (head.toNat = k → ¬ fitsKind k p → exec c s = .next (s.replied q (.refused head .badField))) ∧
    (head.toNat = k → fitsKind k p → ∀ crane, craneOfPort q = some crane → s.tables.crane crane = none →
      exec c s = .next (s.replied q (.refused head .badSpace))) := by
  obtain ⟨handle, hlt, hframe⟩ := takesFrame_of_frameKind hk
  have hrun : s.phase = .running := ht.1
  have hreplied (m : OutMsg) : (s.replied q m).takeJob = s.replied q m :=
    State.takeJob_of_noJobWaits (State.noJobWaits_replied hjobs q m) hrun
  have hkind : head = BitVec.ofNat 8 k ↔ head.toNat = k := by
    rw [← BitVec.toNat_inj, BitVec.toNat_ofNat, Nat.mod_eq_of_lt hlt]
  refine ⟨fun hne => ?_, fun heq hlen => ?_, fun heq hlen crane hcrane hundef => ?_⟩
  · refine hframe.exec_of_serve ?_ (State.takeJob_of_noJobWaits hjobs hrun)
    simp [serve, State.head_of_takes ht, mt hkind.1 hne]
  · obtain rfl := hkind.2 heq
    rw [← heq, ← lengthOk_iff_fitsKind, Bool.not_eq_true] at hlen
    exact hframe.exec_of_serve ((serve_badLength ht hlen).trans (s.answer_pull q _)) (hreplied _)
  · obtain rfl := hkind.2 heq
    rw [← heq, ← lengthOk_iff_fitsKind] at hlen
    refine hframe.exec_of_serve ?_ (hreplied _)
    have hpull : (s.pull q).tables.crane crane = none := hundef
    rw [serve_takes ht hlen, hframe.undefined crane hcrane _ _ hpull]
    exact s.answer_pull q _

/-- A port serves the kinds that R178 lists for it. -/
theorem servesKind_iff (q : Port) (k : Byte) : servesKind q k = true ↔ k.toNat ∈ (match q with
    | .p => (List.range 25).map (· + 1)
    | .b => [53, 64, 65, 66]
    | .c1 | .c2 | .c3 | .c4 => [48, 49, 50, 51, 52, 53] : List Nat) := by
  cases q with
  | p =>
    simp only [servesKind, decide_eq_true_eq, List.mem_map, List.mem_range]
    exact ⟨fun h => ⟨k.toNat - 1, by omega, by omega⟩, fun ⟨n, hn, he⟩ => by omega⟩
  | b => simp [servesKind]; omega
  | c1 | c2 | c3 | c4 => simp [servesKind]; omega

/-- Settles O21. -/
theorem unservedKindIsUnknown : Obligations.UnservedKindIsUnknown := by
  refine ⟨fun s q k p ht => ?_, fun s c q hc => ⟨fun hmode => ?_, fun hrun hjobs hblocked => ?_⟩,
    fun s c q k head p hk hjobs ht => exec_of_takes hk hjobs ht⟩
  · show Host.Outcome.next (serveUnknown q s) = _
    rw [serveUnknown_takes ht]
    exact congrArg _ (if_congr (servesKind_iff q k) rfl rfl)
  · exact exec_of_head_none hc (State.head_of_starting hmode q) (State.takeJob_of_starting hmode)
  · exact exec_of_head_none hc (State.head_of_blocked hblocked) (State.takeJob_of_noJobWaits hjobs hrun)

end Sys2Proof.Machine
end

section
/-!
RESET_HOLD (R4, R156, R183, R184): every block at its after-reset state.
-/

namespace Sys2Proof.Machine

set_option Elab.async false

/-- At a reset no tank has a release mark or a hold timer (R120). -/
theorem Tgt.initial_gauge (a : Nat) : Tgt.initial.gauge a = ⟨false, none⟩ := by
  have h (l : List Nat) : (lookup (l.map fun t => (80 + t, (⟨false, none⟩ : TankGauge))) a).getD ⟨false, none⟩ =
      ⟨false, none⟩ := by
    induction l with
    | nil => rfl
    | cons t rest ih =>
      rw [List.map_cons, lookup_cons]
      split
      · rfl
      · exact ih
  exact h (List.range 32)

/-- What a reset makes of a lift record (R78). -/
theorem LiftRec.afterReset_eq (r : LiftRec) : r.afterReset = match r with
    | .hooked l => .hooked l
    | .unfiled n w => .unfiled n w
    | _ => .idle := by cases r <;> rfl

theorem State.blocksReset_lift (s : State) (c : Crane) : s.blocksReset.lift c = (s.lift c).afterReset := by
  cases c <;> rfl

theorem State.blocksReset_hook (s : State) (c : Crane) : s.blocksReset.hook c = s.hook c := rfl

theorem State.blocksReset_link (s : State) (q : Port) : s.blocksReset.link q = .initial := by cases q <;> rfl

theorem State.blocksReset_stopPort (s : State) (q : Port) : s.blocksReset.stopPort q = ⟨.none, none⟩ := by
  cases q <;> rfl

/-- A page that was being programmed is TORN after a reset (R183). -/
theorem Hds.resetState_torn {h : Hds} {page deadline : Nat} (hp : h.prog = some (page, deadline)) :
    h.resetState.pageState page = .torn := by
  have hstore : h.resetState.store = h.store.tear page h.freeId := by
    show h.storeAfterReset = _
    rw [Hds.storeAfterReset, hp]
  have hidle : h.resetState.programming ≠ some page := nofun
  rw [Hds.pageState, if_neg hidle, hstore, Store.pageState]
  simp [Store.tear]

theorem phaseAfterHold_eq (p : Phase) (cause : HoldCause) :
    phaseAfterHold p cause = if cause = .power ∨ p = .off then .off else .held := by
  cases cause <;> simp [phaseAfterHold]

theorem lineAfterHold_eq (line : Bool) (cause : HoldCause) :
    (line || decide (cause = .line)) = if cause = .line then true else line := by
  cases cause <;> simp

/-- Settles O14: the state after the hold is `blocksReset` with the phase and the line, read block by block. -/
theorem holdStopsEveryTimer : Obligations.HoldStopsEveryTimer := by
  refine fun s cause => ⟨_, rfl, phaseAfterHold_eq s.phase cause, lineAfterHold_eq s.line cause, s.blocksReset_link, rfl,
    s.blocksReset_stopPort, rfl, rfl, rfl, Tgt.initial_gauge, rfl, rfl, rfl, rfl, rfl, rfl, rfl, rfl, rfl,
    fun _ _ hp => Hds.resetState_torn hp, rfl, rfl, rfl, rfl, rfl,
    fun c => (s.blocksReset_lift c).trans (s.lift c).afterReset_eq, s.blocksReset_hook, rfl, rfl, rfl, rfl⟩

end Sys2Proof.Machine
end

section
/-!
The alarm list of a reset (R18, R129, R150 to R155): from the empty list on, conditions are only raised, all at one time.
So every entry is ACTIVE_UNACK with that time, and while the list has room every condition that is held is listed.
-/

namespace Sys2Proof.Machine

set_option Elab.async false

/-- An alarm list on which conditions have only been raised, all at one time. -/
structure Als.Fresh (a : Als) (now : Seconds) : Prop where
  entry : ∀ e ∈ a.entries, e.key ∈ a.held ∧ e.state = .activeUnack ∧ e.raised = now
  room : a.lowerCount < Config.lowerAlarms →
    a.markAdvisory = false ∧ a.markLimit = false ∧ ∀ k ∈ a.held, ∃ e ∈ a.entries, e.key = k

theorem Als.initial_fresh (now : Seconds) : Als.initial.Fresh now := ⟨nofun, fun _ => ⟨rfl, rfl, nofun⟩⟩

/-- The entry that a new one displaces is one of the two lower levels (R154). -/
theorem Als.victim_lower {a : Als} {l : Level} {v : AlarmEntry} (h : a.victim l = some v) :
    v ∈ a.entries ∧ v.level ≠ .hard := by
  unfold Als.victim at h
  split at h
  · split at h
    · rename_i hf
      cases h
      have := List.find?_some hf
      exact ⟨List.mem_of_find?_eq_some hf, by simp_all⟩
    · have := List.find?_some h
      exact ⟨List.mem_of_find?_eq_some h, by simp_all⟩
  · have := List.find?_some h
    exact ⟨List.mem_of_find?_eq_some h, by simp_all⟩
  · cases h

/-- A displacement takes one lower-level entry from the list (R154). -/
theorem Als.drop_lowerCount {a : Als} {v : AlarmEntry} (hv : v ∈ a.entries) (hl : v.level ≠ .hard) :
    (a.drop v.key).lowerCount + 1 = a.lowerCount := by
  obtain ⟨w, l1, l2, -, hw, hsplit, herase⟩ :=
    List.exists_of_eraseP (p := fun e => e.key == v.key) hv (by simp)
  have hkey : w.key = v.key := by simpa using hw
  have hlevel : (w.level != .hard) = true := by
    rw [AlarmEntry.level, hkey]
    exact bne_iff_ne.2 hl
  rw [Als.lowerCount, Als.lowerCount, Als.drop, herase, hsplit]
  simp [hlevel]
  omega

@[simp] theorem Als.mark_entries (a : Als) (l : Level) : (a.mark l).entries = a.entries := by cases l <;> rfl

@[simp] theorem Als.mark_lowerCount (a : Als) (l : Level) : (a.mark l).lowerCount = a.lowerCount := by
  simp [Als.lowerCount]

/-- A displacement with its marker and the new entry of a lower level leaves the lower levels as full as before
(R154, R155). -/
theorem Als.lowerCount_displaced {a : Als} {v : AlarmEntry} (hv : v ∈ a.entries) (hl : v.level ≠ .hard) {e : AlarmEntry}
    (he : e.level ≠ .hard) {b : Als} (hb : b.entries = (a.drop v.key).entries ++ [e]) : b.lowerCount = a.lowerCount := by
  have hdrop := Als.drop_lowerCount hv hl
  have hlower : (e.level != .hard) = true := bne_iff_ne.2 he
  rw [← hdrop, Als.lowerCount, hb, List.countP_append, Als.lowerCount]
  simp [hlower]

/-- The condition being raised, newly listed, leaves the list fresh. -/
theorem Als.Fresh.create {a : Als} {now : Seconds} {k : AlarmKey} (hk : k ∈ a.held)
    (hentry : ∀ e ∈ a.entries, e.key ∈ a.held ∧ e.state = .activeUnack ∧ e.raised = now)
    (hroom : a.lowerCount < Config.lowerAlarms →
      a.markAdvisory = false ∧ a.markLimit = false ∧ ∀ j ∈ a.held, j ≠ k → ∃ e ∈ a.entries, e.key = j) :
    (a.create k .activeUnack now).1.Fresh now := by
  have hnew (l : List AlarmEntry) (hl : ∀ e ∈ l, e ∈ a.entries) (e : AlarmEntry) (he : e ∈ l ++ [⟨k, .activeUnack, now⟩]) :
      e.key ∈ a.held ∧ e.state = .activeUnack ∧ e.raised = now := by
    rcases List.mem_append.1 he with h | h
    · exact hentry e (hl e h)
    · cases List.mem_singleton.1 h
      exact ⟨hk, rfl, rfl⟩
  unfold Als.create
  dsimp only
  split
  next hspace =>
    refine ⟨hnew a.entries fun _ h => h, fun hcount => ?_⟩
    obtain ⟨hadv, hlim, hlisted⟩ := hroom (by
      simp only [Als.lowerCount, List.countP_append] at hcount ⊢
      omega)
    refine ⟨hadv, hlim, fun j hj => ?_⟩
    by_cases hjk : j = k
    · exact ⟨_, List.mem_append_right _ (List.mem_singleton_self _), hjk.symm⟩
    · obtain ⟨e, he, hkey⟩ := hlisted j hj hjk
      exact ⟨e, List.mem_append_left _ he, hkey⟩
  next hfull =>
    rw [not_or] at hfull
    obtain ⟨hlower, hcount⟩ := hfull
    split
    next v hv =>
      obtain ⟨hmem, hlevel⟩ := Als.victim_lower hv
      have hsub : ∀ e ∈ (a.drop v.key).entries, e ∈ a.entries := fun e he => List.mem_of_mem_eraseP he
      refine ⟨?_, fun h => absurd ((Als.lowerCount_displaced hmem hlevel (e := ⟨k, .activeUnack, now⟩) hlower
        ?_).symm.trans_lt h) hcount⟩
      · split <;> simpa using hnew _ hsub
      · split <;> simp
    next =>
      exact ⟨by simpa using hentry, fun h => absurd (by simpa using h) hcount⟩

/-- A raise of a condition leaves the list fresh (R152). -/
theorem Als.Fresh.raise {a : Als} {now : Seconds} (h : a.Fresh now) (k : AlarmKey) :
    (Als.raise { a with held := if k ∈ a.held then a.held else a.held ++ [k] } k now).1.Fresh now := by
  obtain ⟨hentry, hroom⟩ := h
  unfold Als.raise
  split
  next =>
    refine Als.Fresh.create (by dsimp only; split <;> simp_all) (fun e he => ?_) fun hcount => ?_
    · obtain ⟨hheld, hstate⟩ := hentry e he
      exact ⟨by dsimp only; split <;> simp [hheld], hstate⟩
    · obtain ⟨hadv, hlim, hlisted⟩ := hroom hcount
      refine ⟨hadv, hlim, fun j hj hne => hlisted j ?_⟩
      dsimp only at hj
      split at hj <;> simp_all
  next e he =>
    have hmem : e ∈ a.entries := List.mem_of_find?_eq_some he
    have hkey : e.key = k := by simpa using List.find?_some he
    obtain ⟨hheld, hstate, -⟩ := hentry e hmem
    rw [if_neg (by rw [hstate]; decide), if_pos (hkey ▸ hheld)]
    exact ⟨hentry, hroom⟩

/-- A raise of the alarm list's own time leaves it fresh. -/
theorem State.raise_fresh {s : State} (h : s.als.Fresh s.seconds) (k : AlarmKey) :
    (s.raise k).als.Fresh (s.raise k).seconds := by
  have hsec : (s.raise k).seconds = s.seconds := by simp [State.seconds]
  rw [hsec, State.raise, State.alarm_als]
  exact h.raise k

/-- A condition kept raised while it holds leaves the list fresh, unless it ends. -/
theorem State.keep_fresh {s : State} (h : s.als.Fresh s.seconds) {k : AlarmKey} {b : Bool}
    (hends : b = false → k ∉ s.als.held) : (s.keep k b).als.Fresh (s.keep k b).seconds := by
  unfold State.keep
  cases b with
  | true =>
    by_cases hk : k ∈ s.als.held
    · simpa [hk] using h
    · simpa [hk] using State.raise_fresh h k
  | false => simpa [State.clear, hends rfl] using h

/-- A condition kept raised while it holds is held exactly while it holds (assumption 12). -/
theorem State.mem_held_keep {s : State} {k : AlarmKey} {b : Bool} (hends : b = false → k ∉ s.als.held) (j : AlarmKey) :
    j ∈ (s.keep k b).als.held ↔ j ∈ s.als.held ∨ j = k ∧ b = true := by
  unfold State.keep
  cases b with
  | true =>
    by_cases hk : k ∈ s.als.held
    · simp only [if_pos, hk, and_true]
      exact ⟨.inl, fun h => h.elim id (· ▸ hk)⟩
    · simp [hk, State.mem_held_raise]
  | false => simp [State.clear, hends rfl]

end Sys2Proof.Machine
end

section
/-!
The start-up after its retention (R48, R137, R180, R185): the start-up sweep, the judgement of SENSOR_FAULT, the hand-over
to the evaluator, and the mode entry. `startErased` forgets the fields that these may change, so that the fields they
leave are read off one equation; `Swept` says what a start-up has judged when it hands over.
-/

namespace Sys2Proof.Machine

set_option Elab.async false

/-! ### What the start-up leaves unchanged -/

/-- A link without the frames that wait in it or are being sent. -/
def Link.quiet (l : Link) : Link := { l with queue := [], sending := none }

/-- The state without the fields that a start-up may change after its retention (R185). -/
def State.startErased (s : State) : State :=
  { s.setLink .p (s.link .p).quiet with
    elapsed := none
    als := .initial
    sev := { s.sev with state := .idle, taken := none }
    tgt := { s.tgt with sweep := .idle, active := [], timer := none, gauges := [], firstSweep := false }
    hds := { s.hds with mode := .starting, stage := .entered, verdicts := [] } }

theorem Link.start_quiet (l : Link) : l.start.quiet = l.quiet := by
  unfold Link.start
  split
  · rfl
  · split
    · rfl
    · split <;> rfl

theorem Link.offer_quiet (l : Link) (m : OutMsg) : (l.offer m).quiet = l.quiet := by
  unfold Link.offer Link.put
  split
  · exact Link.start_quiet _
  · rfl

theorem State.offer_startErased (s : State) (m : OutMsg) : (s.offer .p m).startErased = s.startErased := by
  unfold State.startErased State.offer State.setLink State.link
  simp only [PerPort.get_set, PerPort.set_set, if_pos, Link.offer_quiet]

theorem State.notify_startErased (s : State) (l : List Notice) :
    (s.notify l).startErased = s.startErased := by
  induction l generalizing s with
  | nil => rfl
  | cons n rest ih =>
    rw [State.notify, ih, State.offer_startErased]

theorem State.alarm_startErased (s : State) (r : Als × List Notice) :
    (s.alarm r).startErased = s.startErased := State.notify_startErased { s with als := r.1 } r.2

theorem State.raise_startErased (s : State) (k : AlarmKey) :
    (s.raise k).startErased = s.startErased := s.alarm_startErased _

theorem State.keep_startErased (s : State) (k : AlarmKey) (b : Bool) :
    (s.keep k b).startErased = s.startErased := by
  unfold State.keep State.clear
  split
  · split
    · rfl
    · exact s.raise_startErased k
  · split
    · exact s.alarm_startErased _
    · rfl

/-! ### The judgement of SENSOR_FAULT (R129) -/

/-- What every keeping of a condition leaves, the judgement of the tanks leaves. -/
theorem State.judgeSensors_keeps {β : Type} (f : State → β) (h : ∀ s k b, f (s.keep k b) = f s) (s : State) :
    f s.judgeSensors = f s := by
  have hone (u : State) (a : Nat) : f (u.judgeSensor a) = f u := by
    unfold State.judgeSensor
    split
    · exact h _ _ _
    · rfl
  have hall (l : List Nat) (u : State) : f (l.foldl State.judgeSensor u) = f u := by
    induction l generalizing u with
    | nil => rfl
    | cons a l ih => rw [List.foldl_cons, ih, hone]
  exact hall _ s

@[simp] theorem State.judgeSensors_now (s : State) : s.judgeSensors.now = s.now :=
  State.judgeSensors_keeps _ State.keep_now s
@[simp] theorem State.judgeSensors_elapsed (s : State) : s.judgeSensors.elapsed = s.elapsed :=
  State.judgeSensors_keeps _ State.keep_elapsed s
@[simp] theorem State.judgeSensors_ct (s : State) : s.judgeSensors.ct = s.ct := State.judgeSensors_keeps _ State.keep_ct s
@[simp] theorem State.judgeSensors_sev (s : State) : s.judgeSensors.sev = s.sev :=
  State.judgeSensors_keeps _ State.keep_sev s
@[simp] theorem State.judgeSensors_tgt (s : State) : s.judgeSensors.tgt = s.tgt :=
  State.judgeSensors_keeps _ State.keep_tgt s
@[simp] theorem State.judgeSensors_csv (s : State) : s.judgeSensors.csv = s.csv :=
  State.judgeSensors_keeps _ State.keep_csv s
@[simp] theorem State.judgeSensors_hds (s : State) : s.judgeSensors.hds = s.hds :=
  State.judgeSensors_keeps _ State.keep_hds s
@[simp] theorem State.judgeSensors_tables (s : State) : s.judgeSensors.tables = s.tables :=
  State.judgeSensors_keeps _ State.keep_tables s
@[simp] theorem State.judgeSensors_seconds (s : State) : s.judgeSensors.seconds = s.seconds := by simp [State.seconds]

/-- The model's judgement is R129's condition. -/
theorem State.sensorFault_iff (s : State) (a : Nat) (d : TankDef) : s.sensorFault a d = true ↔ s.sensorFaulty a d := by
  unfold State.sensorFault State.sensorFaulty State.tank Tgt.chan
  rw [Bool.or_eq_true, Bool.and_eq_true, Bool.and_eq_true, and_assoc]
  refine or_congr ?_ (and_congr_right' (and_congr ?_ ?_))
  · cases d.channel with
    | none => simp
    | some ch => cases hc : lookup s.tgt.chans ch <;> simp [hc]
  · cases lookup s.ct.tanks a <;> simp
  · cases d.channel <;> simp [Option.isNone_iff_eq_none]

/-- The condition of SENSOR_FAULT is read from the table, the gauging unit and the definitions. -/
theorem State.sensorFaulty_congr {s t : State} (hactive : t.tgt.active = s.tgt.active) (hchans : t.tgt.chans = s.tgt.chans)
    (hfirst : t.tgt.firstSweep = s.tgt.firstSweep) (htanks : t.ct.tanks = s.ct.tanks) (htables : t.tables = s.tables)
    (a : Nat) (d : TankDef) : t.sensorFaulty a d ↔ s.sensorFaulty a d := by
  unfold State.sensorFaulty
  rw [hactive, hchans, hfirst, htanks, htables]

/-- An address of the working tables is one of their entries. -/
theorem Tables.mem_addrs {t : Tables} {a : Nat} (h : (t.comp a).isSome = true) : a ∈ t.comps.map Prod.fst := by
  obtain ⟨e, he⟩ := Option.isSome_iff_exists.1 h
  obtain ⟨p, hp, -⟩ := Option.map_eq_some_iff.1 he
  exact List.mem_map.2 ⟨p, List.mem_of_find?_eq_some hp, by simpa using List.find?_some hp⟩

theorem Tables.mem_addrs_of_tank {t : Tables} {a : Nat} {d : TankDef} (h : t.tank a = some d) :
    a ∈ t.comps.map Prod.fst := by
  refine Tables.mem_addrs ?_
  unfold Tables.tank at h
  split at h
  next heq => rw [heq]; rfl
  next => cases h

/-- The defined tanks are the addresses of the working tables that have one (R6). -/
theorem Tables.mem_tankAddrs {t : Tables} {a : Nat} {d : TankDef} (h : t.tank a = some d) : a ∈ t.tankAddrs :=
  List.mem_filter.2 ⟨Tables.mem_addrs_of_tank h, by rw [h]; rfl⟩

theorem State.judgeSensors_startErased (s : State) : s.judgeSensors.startErased = s.startErased :=
  State.judgeSensors_keeps _ State.keep_startErased s

/-- A fault that is held raised stands: no judgement is due to clear it. -/
def State.faultsStand (s : State) : Prop :=
  ∀ a d, s.tables.tank a = some d → s.sensorFault a d = false → (⟨.sensorFault, .addr a⟩ : AlarmKey) ∉ s.als.held

/-- SENSOR_FAULT is judged for the tanks one after another: each that is faulty is held raised (R129). -/
theorem State.foldl_judgeSensor {s : State} (hstand : s.faultsStand) (hfresh : s.als.Fresh s.seconds) (l : List Nat) :
    (l.foldl State.judgeSensor s).als.Fresh s.seconds ∧
      ∀ j, j ∈ (l.foldl State.judgeSensor s).als.held ↔ j ∈ s.als.held ∨
        ∃ a ∈ l, ∃ d, j = ⟨.sensorFault, .addr a⟩ ∧ s.tables.tank a = some d ∧ s.sensorFault a d = true := by
  induction l generalizing s with
  | nil => simp [hfresh]
  | cons a l ih =>
    rw [List.foldl_cons]
    cases hd : s.tables.tank a with
    | none =>
      have hself : s.judgeSensor a = s := by simp [State.judgeSensor, hd]
      rw [hself]
      simpa [hd] using ih hstand hfresh
    | some d =>
      have hjudge : s.judgeSensor a = s.keep ⟨.sensorFault, .addr a⟩ (s.sensorFault a d) := by simp [State.judgeSensor, hd]
      rw [hjudge]
      have hheld := State.mem_held_keep (hstand a d hd)
      have hkept (b : Bool) (a' : Nat) (d' : TankDef) :
          (s.keep ⟨.sensorFault, .addr a⟩ b).sensorFault a' d' = s.sensorFault a' d' := by
        simp [State.sensorFault, State.tank]
      have hstand' : (s.keep ⟨.sensorFault, .addr a⟩ (s.sensorFault a d)).faultsStand := by
        intro a' d' hd' hno
        rw [State.keep_tables] at hd'
        rw [hkept] at hno
        rw [hheld]
        rintro (hin | ⟨heq, hfault⟩)
        · exact hstand a' d' hd' hno hin
        · cases heq
          cases hd.symm.trans hd'
          exact absurd (hfault.symm.trans hno) (by decide)
      have hsec : (s.keep ⟨.sensorFault, .addr a⟩ (s.sensorFault a d)).seconds = s.seconds := by simp [State.seconds]
      obtain ⟨hf, hm⟩ := ih hstand' (State.keep_fresh hfresh (hstand a d hd))
      refine ⟨hsec ▸ hf, fun j => ?_⟩
      rw [hm, hheld]
      simp [hkept, hd, or_assoc]

/-- SENSOR_FAULT judged: a fault is held raised exactly while it stands, and nothing else changes in what is held. -/
theorem State.judgeSensors_held {s : State} (hstand : s.faultsStand) (hfresh : s.als.Fresh s.seconds) :
    s.judgeSensors.als.Fresh s.seconds ∧ ∀ j, j ∈ s.judgeSensors.als.held ↔
      j ∈ s.als.held ∨ ∃ a d, j = ⟨.sensorFault, .addr a⟩ ∧ s.tables.tank a = some d ∧ s.sensorFaulty a d := by
  obtain ⟨hf, hm⟩ := State.foldl_judgeSensor hstand hfresh s.tables.tankAddrs
  refine ⟨hf, fun j => (hm j).trans (or_congr_right ⟨?_, ?_⟩)⟩
  · rintro ⟨a, -, d, hj, hd, hfault⟩
    exact ⟨a, d, hj, hd, (s.sensorFault_iff a d).1 hfault⟩
  · rintro ⟨a, d, hj, hd, hfault⟩
    exact ⟨a, Tables.mem_tankAddrs hd, d, hj, hd, (s.sensorFault_iff a d).2 hfault⟩

/-! ### The start-up sweep (R137) -/

/-- The channels as a reset leaves them are UNSWEPT: no tank is faulty before the first sweep is done (R120, R129). -/
theorem Tgt.initial_lookup_chan {ch : Nat} {c : Channel} (h : lookup Tgt.initial.chans ch = some c) :
    c = ⟨.unswept, none, none⟩ := by
  obtain ⟨e, he, rfl⟩ := Option.map_eq_some_iff.1 h
  obtain ⟨n, -, rfl⟩ := List.mem_map.1 (List.mem_of_find?_eq_some he)
  rfl

theorem State.not_sensorFaulty {s : State} (hchans : s.tgt.chans = Tgt.initial.chans) (hfirst : s.tgt.firstSweep = false)
    (a : Nat) (d : TankDef) : ¬ s.sensorFaulty a d := by
  rintro (⟨ch, c, -, -, hc, hfault⟩ | ⟨hdone, -⟩)
  · cases Tgt.initial_lookup_chan (hchans ▸ hc)
    cases hfault
  · cases hfirst.symm.trans hdone

/-- What a start-up has judged when it hands over: beyond the conditions of the load and the retention, the tanks that
are faulty, all at one time; and the active set is the sweep's (R123, R129, R137). -/
structure State.Swept (u t : State) : Prop where
  erased : t.startErased = u.startErased
  active : t.tgt.active = u.sweepSet
  fresh : t.als.Fresh t.seconds
  held : ∀ j, j ∈ t.als.held ↔
    j ∈ u.als.held ∨ ∃ a d, j = ⟨.sensorFault, .addr a⟩ ∧ t.tables.tank a = some d ∧ t.sensorFaulty a d

/-- The judgement of the tanks makes it so. -/
theorem State.Swept.of_judge {u x : State} (herased : x.startErased = u.startErased) (hactive : x.tgt.active = u.sweepSet)
    (hheld : ∀ j, j ∈ x.als.held ↔ j ∈ u.als.held) (hfresh : x.als.Fresh x.seconds) (hstand : x.faultsStand) :
    State.Swept u x.judgeSensors := by
  obtain ⟨hfresh', hheld'⟩ := State.judgeSensors_held hstand hfresh
  have hfaulty (a : Nat) (d : TankDef) : x.judgeSensors.sensorFaulty a d ↔ x.sensorFaulty a d :=
    State.sensorFaulty_congr (by simp) (by simp) (by simp) (by simp) (by simp) a d
  refine ⟨x.judgeSensors_startErased.trans herased, by rw [x.judgeSensors_tgt, hactive],
    by rw [x.judgeSensors_seconds]; exact hfresh', fun j => ?_⟩
  simp only [hheld', hheld, hfaulty, x.judgeSensors_tables]

/-- It stays so while the table, the alarms and the sweep's outcome stay. -/
theorem State.Swept.of_same {u x t : State} (h : State.Swept u x) (herased : t.startErased = x.startErased)
    (hals : t.als = x.als) (hsec : t.seconds = x.seconds) (hactive : t.tgt.active = x.tgt.active)
    (hfirst : t.tgt.firstSweep = x.tgt.firstSweep) : State.Swept u t := by
  have htables : t.tables = x.tables := (congrArg State.tables herased :)
  have hfaulty (a : Nat) (d : TankDef) : t.sensorFaulty a d ↔ x.sensorFaulty a d :=
    State.sensorFaulty_congr hactive (congrArg (·.tgt.chans) herased :) hfirst (congrArg (·.ct.tanks) herased :) htables a d
  refine ⟨herased.trans h.erased, hactive.trans h.active, by rw [hals, hsec]; exact h.fresh, fun j => ?_⟩
  simp only [hals, h.held, htables, hfaulty]

/-- A start-up as its retention leaves it (R38, R120, R185): the gauging unit and the evaluator as reset, and no fault of
a tank held raised. -/
structure State.Retained (u : State) : Prop where
  tgt : u.tgt = .initial
  mode : u.hds.mode = .starting
  verdicts : u.hds.verdicts = []
  taken : u.sev.taken = none
  choice : u.sev.state = .idle ∨ u.sev.state = .disabled
  fresh : u.als.Fresh u.seconds
  faults : ∀ a, (⟨.sensorFault, .addr a⟩ : AlarmKey) ∉ u.als.held

/-- The state after the active set of the start-up sweep is fixed and SENSOR_FAULT judged (R123, R137). -/
def State.sweepSetOut (u : State) : State := { u with hds.stage := .sweep, tgt.active := u.sweepSet }.judgeSensors

/-- The start-up sweep ended without a channel, and SENSOR_FAULT judged with it (R137). -/
def State.sweptEmpty (u : State) : State :=
  { u.sweepSetOut with tgt := { u.sweepSetOut.tgt with sweep := .idle, firstSweep := true } }.judgeSensors

section
variable {u : State} (hu : u.Retained)
include hu

theorem State.Retained.startUpSweep_eq : u.startUpSweep =
    if u.sweepSet = [] then
      if u.sev.state = .disabled then
        { u.sweptEmpty with hds.verdicts := u.tables.firstTests.map fun _ => .notRun }.modeEntry
      else State.nextTest u.tables.firstTests u.sweptEmpty
    else u.sweepSetOut.sweepOn u.sweepSet u.settings.resolution := by
  have hactive : u.tgt.active = [] := by rw [hu.tgt]; rfl
  have hset : { u with hds.stage := .sweep }.startSweep = u.sweepSetOut.sweepOn u.sweepSet u.settings.resolution := by
    simp only [State.startSweep, State.setActive, hactive, List.filter_nil, List.foldl_nil]
    rfl
  unfold State.startUpSweep
  rw [hset]
  by_cases h : u.sweepSet = []
  · have hended : u.sweepSetOut.sweepOn [] u.settings.resolution =
        { u.sweepSetOut with tgt := { u.sweepSetOut.tgt with sweep := .idle } } := rfl
    simp only [h, if_pos, hended, State.startUpSwept]
    have hsev : u.sweptEmpty.sev = u.sev := by simp [State.sweptEmpty, State.sweepSetOut]
    have htables : u.sweptEmpty.tables = u.tables := by simp [State.sweptEmpty, State.sweepSetOut, State.tables]
    exact if_congr (by rw [← hsev]; rfl) (by rw [← htables]; rfl) (by rw [← htables]; rfl)
  · rw [if_neg h, if_neg (by simp [h, State.sweepOn])]

theorem State.Retained.sweepSetOut_tgt : u.sweepSetOut.tgt = { Tgt.initial with active := u.sweepSet } := by
  simp [State.sweepSetOut, hu.tgt]

/-- Before the first sweep is done no tank is faulty (R129). -/
theorem State.Retained.not_faulty_sweepSetOut (a : Nat) (d : TankDef) : ¬ u.sweepSetOut.sensorFaulty a d :=
  State.not_sensorFaulty (by rw [hu.sweepSetOut_tgt]) (by rw [hu.sweepSetOut_tgt]; rfl) a d

theorem State.Retained.sweepSetOut_swept : State.Swept u u.sweepSetOut :=
  State.Swept.of_judge rfl rfl (fun _ => .rfl) hu.fresh fun a _ _ _ => hu.faults a

theorem State.Retained.sweepSetOut_held (j : AlarmKey) : j ∈ u.sweepSetOut.als.held ↔ j ∈ u.als.held :=
  (hu.sweepSetOut_swept.held j).trans (or_iff_left fun ⟨a, d, _, _, h⟩ => hu.not_faulty_sweepSetOut a d h)

theorem State.Retained.sweptEmpty_swept : State.Swept u u.sweptEmpty :=
  State.Swept.of_judge hu.sweepSetOut_swept.erased hu.sweepSetOut_swept.active hu.sweepSetOut_held
    hu.sweepSetOut_swept.fresh fun a _ _ _ h => hu.faults a ((hu.sweepSetOut_held _).1 h)

end

end Sys2Proof.Machine
end

section
/-!
The two ways on from the start-up sweep (R48, R180, R185): the hand-over to the evaluator with the test conditions and
the LIVE job, and the mode entry with its timers and START_REPORT.
-/

namespace Sys2Proof.Machine

set_option Elab.async false

/-! ### The hand-over to the evaluator (R48, R186) -/

/-- The hand-over changes the evaluator's job and taken serial, the stage and the verdicts, and nothing else. -/
theorem State.nextTest_keeps {β : Type} (f : State → β)
    (h : ∀ (s : State) (stage : Stage) (verdicts : List Verdict) (state : EvState) (taken : Option Serial),
      f { s with
        hds := { s.hds with stage := stage, verdicts := verdicts }
        sev := { s.sev with state := state, taken := taken } } = f s)
    (todo : List TestCondition) (s : State) : f (State.nextTest todo s) = f s := by
  induction todo generalizing s with
  | nil => exact h s .firstLive s.hds.verdicts (.busy (s.image .live none)) (some s.ct.serial)
  | cons tc rest ih =>
    unfold State.nextTest
    split
    · exact h s (.tests rest) s.hds.verdicts (.busy { s.image .test none with strength := .harbour, test := some tc })
        s.sev.taken
    · rw [ih]
      exact h s s.hds.stage (s.hds.verdicts ++ [.notRun]) s.sev.state s.sev.taken

/-- The conditions that failed their check are passed over as NOT_RUN, and the first that passed is run; after the last
the LIVE job is taken (R48, R186). -/
theorem State.nextTest_handsOver (todo : List TestCondition) (s : State) :
    (State.nextTest todo s).handsOver s.hds.verdicts todo s.sev.taken := by
  induction todo generalizing s with
  | nil => exact ⟨(List.append_nil _).symm, rfl, rfl, rfl⟩
  | cons tc rest ih =>
    unfold State.nextTest
    by_cases hrun : tc.runnable = true
    · rw [if_pos hrun]
      unfold State.handsOver
      rw [List.takeWhile_cons_of_neg (by simp [hrun]), List.dropWhile_cons_of_neg (by simp [hrun])]
      exact ⟨(List.append_nil _).symm, rfl, rfl, rfl⟩
    · rw [if_neg hrun]
      have h := ih { s with hds.verdicts := s.hds.verdicts ++ [.notRun] }
      unfold State.handsOver at h ⊢
      rw [List.takeWhile_cons_of_pos (by simp [hrun]), List.dropWhile_cons_of_pos (by simp [hrun])]
      simpa using h

/-! ### The mode entry (R4, R122, R130, R180, R187) -/

/-- A tank in HELD. -/
def State.isHeld (s : State) (a : Nat) : Bool := (s.tank a).any fun t => t.source == .held

theorem State.holdIfHeld_eq (s : State) (a : Nat) : s.holdIfHeld a = if s.isHeld a = true then s.startHold a else s := by
  unfold State.holdIfHeld State.isHeld
  cases s.tank a <;> simp

/-- The start of the hold timers changes the gauges' timers and nothing else. -/
theorem State.foldl_holdIfHeld_keeps {β : Type} (f : State → β)
    (h : ∀ (s : State) (g : List (Nat × TankGauge)), f { s with tgt.gauges := g } = f s) (l : List Nat) (s : State) :
    f (l.foldl State.holdIfHeld s) = f s := by
  induction l generalizing s with
  | nil => rfl
  | cons a l ih =>
    rw [List.foldl_cons, ih, State.holdIfHeld_eq]
    split
    · unfold State.startHold
      split
      · rfl
      · exact h s _
    · rfl

/-- Past the start-up a tank in HELD has its hold timer started; no release mark changes (R130). -/
theorem State.foldl_holdIfHeld_gauges {s : State} (hmode : s.hds.mode ≠ .starting) (l : List Nat) (a : Nat) :
    lookup (l.foldl State.holdIfHeld s).tgt.gauges a =
      if a ∈ l ∧ s.isHeld a = true then
        (lookup s.tgt.gauges a).map fun g => { g with hold := some (s.now + s.settings.holdLimit * 1000) }
      else lookup s.tgt.gauges a := by
  induction l generalizing s with
  | nil => simp
  | cons b l ih =>
    rw [List.foldl_cons, State.holdIfHeld_eq]
    by_cases hb : s.isHeld b = true
    · have hstart : s.startHold b =
          s.onGauge b fun g => { g with hold := some (s.now + s.settings.holdLimit * 1000) } := if_neg hmode
      have hheld : (s.startHold b).isHeld a = s.isHeld a := by rw [hstart]; rfl
      have hnow : (s.startHold b).now = s.now := by rw [hstart]; rfl
      have hset : (s.startHold b).settings = s.settings := by rw [hstart]; rfl
      have hgauges : lookup (s.startHold b).tgt.gauges a = if a = b then
          (lookup s.tgt.gauges b).map fun g => { g with hold := some (s.now + s.settings.holdLimit * 1000) }
          else lookup s.tgt.gauges a := by
        rw [hstart]
        simp [State.onGauge]
      rw [if_pos hb, ih (by rw [hstart]; exact hmode), hheld, hnow, hset, hgauges]
      by_cases hab : a = b
      · subst hab
        by_cases hal : a ∈ l <;> simp [hb, hal, Function.comp_def]
      · simp [hab]
    · rw [if_neg hb, ih hmode]
      by_cases hab : a = b
      · subst hab
        simp [hb]
      · simp [hab]

/-- A message that is offered is the newest, unless its queue has no free entry (R174). -/
theorem Link.newest_offer (l : Link) (m : OutMsg) :
    (l.offer m).newest = some m ∨ 8 ≤ (l.offer m).queue.length + (l.offer m).reserved := by
  unfold Link.offer
  by_cases h : l.hasRoom = true
  · rw [if_pos h]
    exact .inl (Link.newest_put l m)
  · rw [if_neg h]
    exact .inr (Nat.le_of_not_lt fun hlt => h (decide_eq_true hlt))

/-- The mode by R180, the elapsed-seconds count and the sweep timer at the mode entry (R4, R122). -/
def State.modeSet (s : State) : State :=
  { s with
    hds := { s.hds with mode := s.hds.nextMode, stage := .entered }
    elapsed := some (s.elapsed.getD s.now)
    tgt := { s.tgt with timer := some (s.now + s.settings.sweepPeriod * 100) } }

/-- The mode entry before its START_REPORT. -/
def State.modeHeld (s : State) : State := s.tables.tankAddrs.foldl State.holdIfHeld s.modeSet

theorem Hds.nextMode_ne_starting (h : Hds) : h.nextMode ≠ .starting := by
  unfold Hds.nextMode
  split
  · nofun
  · split <;> nofun

/-- A DISABLED evaluator takes no job at the mode entry (R41, R49). -/
theorem State.modeEntry_of_disabled {s : State} (h : s.sev.state = .disabled) :
    s.modeEntry = s.modeHeld.offer .p (.startReport s.modeHeld.report) := by
  have hsev : s.modeHeld.sev = s.sev := State.foldl_holdIfHeld_keeps State.sev (fun _ _ => rfl) _ s.modeSet
  have hnone : (s.modeHeld.offer .p (.startReport s.modeHeld.report)).takeJob =
      s.modeHeld.offer .p (.startReport s.modeHeld.report) := by
    simp [State.takeJob, hsev, h]
  exact hnone

/-- What neither START_REPORT nor a gauge's timer changes is, after the mode entry, what `modeSet` made it. -/
theorem State.modeEntry_keeps {β : Type} (f : State → β) {s : State} (h : s.sev.state = .disabled)
    (hlink : ∀ (s : State) (m : OutMsg), f (s.offer .p m) = f s)
    (hgauges : ∀ (s : State) (g : List (Nat × TankGauge)), f { s with tgt.gauges := g } = f s) :
    f s.modeEntry = f s.modeSet := by
  rw [State.modeEntry_of_disabled h, hlink]
  exact State.foldl_holdIfHeld_keeps f hgauges _ _

section
variable {s : State} (h : s.sev.state = .disabled)
include h

theorem State.modeEntry_startErased : s.modeEntry.startErased = s.startErased :=
  State.modeEntry_keeps State.startErased h State.offer_startErased fun _ _ => rfl

theorem State.modeEntry_als : s.modeEntry.als = s.als := State.modeEntry_keeps State.als h (fun _ _ => rfl) fun _ _ => rfl

theorem State.modeEntry_sev : s.modeEntry.sev = s.sev := State.modeEntry_keeps State.sev h (fun _ _ => rfl) fun _ _ => rfl

theorem State.modeEntry_ct : s.modeEntry.ct = s.ct := State.modeEntry_keeps State.ct h (fun _ _ => rfl) fun _ _ => rfl

theorem State.modeEntry_now : s.modeEntry.now = s.now := State.modeEntry_keeps State.now h (fun _ _ => rfl) fun _ _ => rfl

theorem State.modeEntry_settings : s.modeEntry.settings = s.settings :=
  State.modeEntry_keeps State.settings h (fun _ _ => rfl) fun _ _ => rfl

theorem State.modeEntry_hds : s.modeEntry.hds = { s.hds with mode := s.hds.nextMode, stage := .entered } :=
  State.modeEntry_keeps State.hds h (fun _ _ => rfl) fun _ _ => rfl

theorem State.modeEntry_elapsed : s.modeEntry.elapsed = some (s.elapsed.getD s.now) :=
  State.modeEntry_keeps State.elapsed h (fun _ _ => rfl) fun _ _ => rfl

theorem State.modeEntry_tgt : s.modeEntry.tgt =
    { s.tgt with timer := some (s.now + s.settings.sweepPeriod * 100), gauges := s.modeEntry.tgt.gauges } := by
  have hkeep := State.modeEntry_keeps (fun t => { t.tgt with gauges := [] }) h (fun _ _ => rfl) fun _ _ => rfl
  obtain ⟨hsweep, hactive, htimer, hchans, hfirst, htransfers⟩ : _ ∧ _ ∧ _ ∧ _ ∧ _ ∧ _ := by simpa using hkeep
  cases ht : s.modeEntry.tgt
  simp_all [State.modeSet]

/-- The count starts from the time of the mode entry or goes on: it reads as before (R4). -/
theorem State.modeEntry_seconds : s.modeEntry.seconds = s.seconds := by
  unfold State.seconds
  rw [State.modeEntry_elapsed h, State.modeEntry_now h]
  cases s.elapsed <;> simp

theorem State.modeEntry_gauges (a : Nat) : lookup s.modeEntry.tgt.gauges a =
    if a ∈ s.tables.tankAddrs ∧ s.isHeld a = true then
      (lookup s.tgt.gauges a).map fun g => { g with hold := some (s.now + s.settings.holdLimit * 1000) }
    else lookup s.tgt.gauges a := by
  rw [State.modeEntry_of_disabled h]
  exact State.foldl_holdIfHeld_gauges (s := s.modeSet) s.hds.nextMode_ne_starting _ a

theorem State.modeEntry_release (a : Nat) : (s.modeEntry.tgt.gauge a).release = (s.tgt.gauge a).release := by
  unfold Tgt.gauge
  rw [State.modeEntry_gauges h]
  split
  · cases lookup s.tgt.gauges a <;> rfl
  · rfl

/-- A tank in HELD has its hold timer started (R130). -/
theorem State.modeEntry_hold {a : Nat} {d : TankDef} {live : TankLive} (hd : s.tables.tank a = some d)
    (hlive : s.tank a = some live) (hheld : live.source = .held) (hsome : (lookup s.modeEntry.tgt.gauges a).isSome = true) :
    (s.modeEntry.tgt.gauge a).hold = some (s.now + s.settings.holdLimit * 1000) := by
  have hcond : a ∈ s.tables.tankAddrs ∧ s.isHeld a = true :=
    ⟨Tables.mem_tankAddrs hd, by simp [State.isHeld, hlive, hheld]⟩
  unfold Tgt.gauge
  rw [State.modeEntry_gauges h, if_pos hcond] at hsome ⊢
  cases hg : lookup s.tgt.gauges a with
  | none => simp [hg] at hsome
  | some g => rfl

/-- START_REPORT is placed as the mode entry's newest message of port P (R187). -/
theorem State.modeEntry_report : (s.modeEntry.link .p).newest = some (.startReport s.modeEntry.report) ∨
    8 ≤ (s.modeEntry.link .p).queue.length + (s.modeEntry.link .p).reserved := by
  have hreport : s.modeEntry.report = s.modeHeld.report := by rw [State.modeEntry_of_disabled h]; rfl
  rw [hreport, State.modeEntry_of_disabled h]
  exact Link.newest_offer _ _

theorem State.modeEntry_entersMode : s.modeEntry.entersMode s.hds.verdicts s.elapsed := by
  have hhds := State.modeEntry_hds h
  refine ⟨by rw [hhds], by rw [hhds], by rw [hhds]; rfl, ?_, ?_, ?_, ?_⟩
  · rw [State.modeEntry_elapsed h, State.modeEntry_now h]
  · rw [State.modeEntry_tgt h, State.modeEntry_now h, State.modeEntry_settings h]
  · intro a d live hd hlive hheld hsome
    rw [State.modeEntry_now h, State.modeEntry_settings h]
    rw [State.modeEntry_ct h] at hlive
    have htables : s.modeEntry.tables = s.tables := by rw [State.tables, hhds]; rfl
    exact State.modeEntry_hold h (htables ▸ hd) hlive hheld hsome
  · have hverdicts : s.hds.verdicts = s.modeEntry.hds.verdicts := by rw [hhds]
    rw [hverdicts]
    exact State.modeEntry_report h

end

end Sys2Proof.Machine
end

section
/-!
What every reset leaves (R184, R185): from the state that the load and the retention hand over, the start-up sweep, the
evaluator's first job or the mode entry come out as `resetBlocks` says, whatever the cause of the reset.
-/

namespace Sys2Proof.Machine

set_option Elab.async false

/-! ### The ways out of the start-up sweep (R137, R185) -/

theorem State.sweptEmpty_sev (u : State) : u.sweptEmpty.sev = u.sev := by simp [State.sweptEmpty, State.sweepSetOut]

theorem State.sweptEmpty_elapsed (u : State) : u.sweptEmpty.elapsed = u.elapsed := by
  simp [State.sweptEmpty, State.sweepSetOut]

theorem State.sweptEmpty_hds (u : State) : u.sweptEmpty.hds = { u.hds with stage := .sweep } := by
  simp [State.sweptEmpty, State.sweepSetOut]

section
variable {u : State} (hu : u.Retained)
include hu

/-- With a channel to convert the start-up waits for its sweep. -/
theorem State.Retained.startUpSweep_of_channels (h : u.sweepSet ≠ []) :
    u.startUpSweep = u.sweepSetOut.sweepOn u.sweepSet u.settings.resolution := by rw [hu.startUpSweep_eq, if_neg h]

/-- With no channel and no usable tables the mode is entered. -/
theorem State.Retained.startUpSweep_of_disabled (h : u.sweepSet = []) (hdis : u.sev.state = .disabled) :
    u.startUpSweep = { u.sweptEmpty with hds.verdicts := u.tables.firstTests.map fun _ => .notRun }.modeEntry := by
  rw [hu.startUpSweep_eq, if_pos h, if_pos hdis]

/-- With no channel the evaluator takes the tests and the LIVE job. -/
theorem State.Retained.startUpSweep_of_usable (h : u.sweepSet = []) (hdis : u.sev.state ≠ .disabled) :
    u.startUpSweep = State.nextTest u.tables.firstTests u.sweptEmpty := by
  rw [hu.startUpSweep_eq, if_pos h, if_neg hdis]

theorem State.Retained.sweptEmpty_tgt :
    u.sweptEmpty.tgt = { Tgt.initial with active := u.sweepSet, firstSweep := true, sweep := .idle } := by
  simp [State.sweptEmpty, hu.sweepSetOut_tgt]

/-- However it goes on, the start-up sweep has judged the tanks. -/
theorem State.Retained.startUpSweep_swept : State.Swept u u.startUpSweep := by
  by_cases h : u.sweepSet = []
  · by_cases hdis : u.sev.state = .disabled
    · rw [hu.startUpSweep_of_disabled h hdis]
      have hdis' : { u.sweptEmpty with hds.verdicts := u.tables.firstTests.map fun _ => .notRun }.sev.state = .disabled := by
        rw [← hdis, ← u.sweptEmpty_sev]
      exact hu.sweptEmpty_swept.of_same (State.modeEntry_startErased hdis') (State.modeEntry_als hdis')
        (State.modeEntry_seconds hdis') (by rw [State.modeEntry_tgt hdis']) (by rw [State.modeEntry_tgt hdis'])
    · rw [hu.startUpSweep_of_usable h hdis]
      exact hu.sweptEmpty_swept.of_same (State.nextTest_keeps State.startErased (fun _ _ _ _ _ => rfl) _ _)
        (State.nextTest_keeps State.als (fun _ _ _ _ _ => rfl) _ _)
        (State.nextTest_keeps State.seconds (fun _ _ _ _ _ => rfl) _ _)
        (State.nextTest_keeps (·.tgt.active) (fun _ _ _ _ _ => rfl) _ _)
        (State.nextTest_keeps (·.tgt.firstSweep) (fun _ _ _ _ _ => rfl) _ _)
  · rw [hu.startUpSweep_of_channels h]
    exact hu.sweepSetOut_swept.of_same rfl rfl rfl rfl rfl

end

/-- How a start-up has gone on from its sweep (R48, R122, R123, R137, R180, R185): the sweep runs, or the evaluator has
its first job, or the mode is entered. -/
structure State.GoneOn (u t : State) : Prop where
  choice : t.hds.mode = .starting ∨ t.sev.state = .disabled
  disabled : t.sev.state = .disabled ↔ u.sev.state = .disabled
  release : ∀ a, (t.tgt.gauge a).release = false
  sweeping : u.sweepSet ≠ [] →
    t.tgt.sweep = .running u.sweepSet u.settings.resolution (t.now + conversionMs u.settings.resolution) ∧
      t.tgt.firstSweep = false ∧ t.hds.mode = .starting ∧ t.hds.stage = .sweep ∧ t.hds.verdicts = [] ∧
      t.sev.taken = none ∧ ∀ img, t.sev.state ≠ .busy img
  swept : u.sweepSet = [] → t.tgt.sweep = .idle ∧ t.tgt.firstSweep = true
  tested : u.sweepSet = [] → u.sev.state ≠ .disabled →
    t.hds.mode = .starting ∧ t.handsOver [] u.tables.firstTests none
  entered : u.sweepSet = [] → u.sev.state = .disabled →
    t.sev.taken = none ∧ t.entersMode (u.tables.firstTests.map fun _ => .notRun) u.elapsed
  waiting : t.hds.mode = .starting → t.elapsed = u.elapsed ∧ t.tgt.timer = none ∧ ∀ a, (t.tgt.gauge a).hold = none

/-- The evaluator that has a job handed over is BUSY. -/
theorem State.handsOver_busy {t : State} {verdicts : List Verdict} {todo : List TestCondition} {taken : Option Serial}
    (h : t.handsOver verdicts todo taken) : t.sev.state ≠ .disabled := by
  obtain ⟨-, hjob⟩ := h
  split at hjob
  · rw [hjob.2.2]
    nofun
  · rw [hjob.2.2]
    nofun

/-- The gauges as a reset leaves them have no release mark and no hold timer (R120). -/
theorem Tgt.gauge_of_initial {g : Tgt} (h : g.gauges = Tgt.initial.gauges) (a : Nat) : g.gauge a = ⟨false, none⟩ := by
  rw [← Tgt.initial_gauge a, Tgt.gauge, h]
  rfl

section
variable {u : State} (hu : u.Retained)
include hu

theorem State.Retained.goneOn_of_disabled (h : u.sweepSet = []) (hdis : u.sev.state = .disabled) :
    State.GoneOn u u.startUpSweep := by
  rw [hu.startUpSweep_of_disabled h hdis]
  generalize hx : { u.sweptEmpty with hds.verdicts := u.tables.firstTests.map fun _ => .notRun } = x
  have hsev : x.sev = u.sev := by rw [← hx, ← u.sweptEmpty_sev]
  have hdis' : x.sev.state = .disabled := by rw [hsev, hdis]
  have htgt : x.tgt = { Tgt.initial with active := u.sweepSet, firstSweep := true, sweep := .idle } := by
    rw [← hx, ← hu.sweptEmpty_tgt]
  have helapsed : x.elapsed = u.elapsed := by rw [← hx, ← u.sweptEmpty_elapsed]
  have hverdicts : x.hds.verdicts = u.tables.firstTests.map fun _ => .notRun := by rw [← hx]
  have hsev' := State.modeEntry_sev hdis'
  have hmode : x.modeEntry.hds.mode ≠ .starting := by
    rw [State.modeEntry_hds hdis']
    exact x.hds.nextMode_ne_starting
  refine ⟨.inr (by rw [hsev', hdis']), by rw [hsev', hsev], fun a => ?_, fun hne => absurd h hne, fun _ => ?_,
    fun _ hne => absurd hdis hne, fun _ _ => ⟨by rw [hsev', hsev, hu.taken], ?_⟩, fun hm => absurd hm hmode⟩
  · rw [State.modeEntry_release hdis', Tgt.gauge_of_initial (by rw [htgt])]
  · rw [State.modeEntry_tgt hdis', htgt]
    exact ⟨rfl, rfl⟩
  · rw [← hverdicts, ← helapsed]
    exact State.modeEntry_entersMode hdis'

theorem State.Retained.goneOn_of_usable (h : u.sweepSet = []) (hdis : u.sev.state ≠ .disabled) :
    State.GoneOn u u.startUpSweep := by
  rw [hu.startUpSweep_of_usable h hdis]
  generalize hx : u.sweptEmpty = x
  have hsev : x.sev = u.sev := by rw [← hx, ← u.sweptEmpty_sev]
  have hhds : x.hds = { u.hds with stage := .sweep } := by rw [← hx, ← u.sweptEmpty_hds]
  have hhands := State.nextTest_handsOver u.tables.firstTests x
  have htgt : (State.nextTest u.tables.firstTests x).tgt =
      { Tgt.initial with active := u.sweepSet, firstSweep := true, sweep := .idle } := by
    rw [State.nextTest_keeps State.tgt (fun _ _ _ _ _ => rfl), ← hx, hu.sweptEmpty_tgt]
  have hmode : (State.nextTest u.tables.firstTests x).hds.mode = .starting := by
    rw [State.nextTest_keeps (·.hds.mode) (fun _ _ _ _ _ => rfl), hhds]
    exact hu.mode
  have helapsed : (State.nextTest u.tables.firstTests x).elapsed = u.elapsed := by
    rw [State.nextTest_keeps State.elapsed (fun _ _ _ _ _ => rfl), ← hx, u.sweptEmpty_elapsed]
  have hfree := Tgt.gauge_of_initial (g := (State.nextTest u.tables.firstTests x).tgt) (by rw [htgt])
  rw [hhds, hsev] at hhands
  refine ⟨.inl hmode, iff_of_false (State.handsOver_busy hhands) hdis, fun a => by rw [hfree], fun hne => absurd h hne,
    fun _ => by rw [htgt]; exact ⟨rfl, rfl⟩, fun _ _ => ⟨hmode, ?_⟩, fun _ hd => absurd hd hdis,
    fun _ => ⟨helapsed, by rw [htgt]; rfl, fun a => by rw [hfree]⟩⟩
  rw [← hu.verdicts, ← hu.taken]
  exact hhands

theorem State.Retained.goneOn_of_channels (h : u.sweepSet ≠ []) : State.GoneOn u u.startUpSweep := by
  rw [hu.startUpSweep_of_channels h]
  generalize hx : u.sweepSetOut = x
  have hsev : x.sev = u.sev := by simp [← hx, State.sweepSetOut]
  have hhds : x.hds = { u.hds with stage := .sweep } := by simp [← hx, State.sweepSetOut]
  have helapsed : x.elapsed = u.elapsed := by simp [← hx, State.sweepSetOut]
  have htgt : (x.sweepOn u.sweepSet u.settings.resolution).tgt = { Tgt.initial with
      active := u.sweepSet
      sweep := .running u.sweepSet u.settings.resolution (x.now + conversionMs u.settings.resolution) } := by
    simp [State.sweepOn, h, ← hx, hu.sweepSetOut_tgt]
  have hfree := Tgt.gauge_of_initial (g := (x.sweepOn u.sweepSet u.settings.resolution).tgt) (by rw [htgt])
  have hmode : (x.sweepOn u.sweepSet u.settings.resolution).hds.mode = .starting := by
    rw [State.sweepOn_hds, hhds]
    exact hu.mode
  refine ⟨.inl hmode, by rw [State.sweepOn_sev, hsev], fun a => by rw [hfree], fun _ => ?_, fun he => absurd he h,
    fun he => absurd he h, fun he => absurd he h,
    fun _ => ⟨helapsed, by rw [htgt]; rfl, fun a => by rw [hfree]⟩⟩
  refine ⟨by rw [htgt]; rfl, by rw [htgt]; rfl, hmode, by rw [State.sweepOn_hds, hhds],
    by rw [State.sweepOn_hds, hhds]; exact hu.verdicts, by rw [State.sweepOn_sev, hsev, hu.taken], fun img => ?_⟩
  rw [State.sweepOn_sev, hsev]
  rcases hu.choice with hc | hc <;> rw [hc] <;> nofun

theorem State.Retained.startUpSweep_goneOn : State.GoneOn u u.startUpSweep := by
  by_cases h : u.sweepSet = []
  · by_cases hdis : u.sev.state = .disabled
    · exact hu.goneOn_of_disabled h hdis
    · exact hu.goneOn_of_usable h hdis
  · exact hu.goneOn_of_channels h

end

end Sys2Proof.Machine
end

section
/-!
`resetBlocks` of a start-up (R184, R185): what the load and the retention hand over, for any cause, gives what every
reset leaves.
-/

namespace Sys2Proof.Machine

set_option Elab.async false

/-! ### The channels of the start-up sweep (R137, R167) -/

/-- The default mask holds the calibrated channels (R137, R167). -/
theorem getLsbD_defaultMask (calib : List (Nat × Calibration)) {ch : Nat} (h : ch < 36) :
    (defaultMask calib).getLsbD ch = (lookup calib ch).isSome := by
  have hbit (n : Nat) : (1#36 <<< n).getLsbD ch = decide (n = ch) := by
    by_cases hn : n = ch
    · simp [hn, h]
    · by_cases hlt : ch < n
      · simp [hlt, hn]
      · have hpos : ch - n ≠ 0 := by omega
        simp [h, hn, hlt, hpos]
  have hfold (m : Mask) : (calib.foldl (fun m e => m ||| (1#36 <<< e.1)) m).getLsbD ch =
      (m.getLsbD ch || (lookup calib ch).isSome) := by
    induction calib generalizing m with
    | nil => simp
    | cons e l ih =>
      rw [List.foldl_cons, ih, lookup_cons, BitVec.getLsbD_or, hbit]
      by_cases he : e.1 = ch <;> simp [he]
  exact (hfold 0).trans (by simp)

/-- The start-up sweep takes every calibrated channel (R137). -/
theorem State.sweepSet_of_defaultMask {s : State} (h : s.settings.mask = defaultMask s.tables.calib) :
    s.sweepSet = (List.range 36).filter fun ch => (lookup s.tables.calib ch).isSome := by
  unfold State.sweepSet
  refine List.filter_congr fun ch hch => ?_
  rw [h, getLsbD_defaultMask _ (List.mem_range.1 hch), Bool.and_self]

/-! ### What the load and the retention hand over (R38, R78, R115, R119, R120, R137, R138, R150, R160, R177, R184 to R186) -/

/-- The state that a reset's start-up sweep begins from. -/
structure State.Restarted (s u : State) (cause : Cause) (comm : Bool) : Prop where
  retained : u.Retained
  phase : u.phase = .running
  line : u.line = false
  recorded : u.hds.cause = cause
  strap : u.hds.strap = comm
  store : u.hds.store = s.hds.storeAfterReset
  tables : u.tables = u.hds.store.load.tables
  fault : u.hds.storeFault = u.hds.store.load.fault
  written : u.hds.written = u.hds.store.load.written
  torn : u.hds.torn = u.hds.store.load.torn
  testFail : u.hds.testFail = false
  buffer : u.hds.buffer = ⟨0, []⟩
  prog : u.hds.prog = none
  disabled : u.sev.state = .disabled ↔ u.tables.usable = false
  live : u.sev.live = none
  last : u.sev.last = none
  trialWanted : u.sev.trialWanted = false
  csv : u.csv = { Csv.initial with settings := { Settings.initial with mask := defaultMask u.tables.calib } }
  lmn : u.lmn = .initial
  elapsed : u.elapsed = if cause = .powerOn then none else s.elapsed
  summary : u.sli.summary = some (u.now + 1000)
  links : ∀ q, (u.link q).state = .silent ∧ (u.link q).bad = 0 ∧ (u.link q).silence = some (u.now + 2000) ∧
    (u.link q).inbound = [] ∧ (u.link q).slot = none ∧ (q ≠ .p → (u.link q).queue = [] ∧ (u.link q).sending = none)
  held : ∀ k : AlarmKey, k ∈ u.als.held ↔
    (k = ⟨.storeFault, .none⟩ ∧ u.hds.storeFault = true) ∨ (k = ⟨.noTestCondition, .none⟩ ∧ u.tables.tests = []) ∨
    (∃ a, k = ⟨.overCapacity, .addr a⟩ ∧ lookup u.ct.spaces a = some .over) ∨
    (∃ c l, k = ⟨.unpermittedLift, .crane c⟩ ∧ u.lift c = .hooked l ∧ l.unpermitted = true) ∨
    (∃ c, k = ⟨.positionUnknown, .crane c⟩ ∧ (u.lift c).holdsLoad = true) ∨
    ∃ c n w, k = ⟨.landedUnfiled, .crane c⟩ ∧ u.lift c = .unfiled n w

/-- A link of the erased state. -/
theorem State.startErased_link (s : State) (q : Port) :
    s.startErased.link q = if q = .p then (s.link .p).quiet else s.link q := by
  simp [State.startErased, State.link, State.setLink]

/-- The alarm list after the start-up's judgements (R18, R78, R119, R129, R150, R154, R180, R186). -/
theorem State.Swept.alarmsAfterReset {s u t : State} {cause : Cause} {comm : Bool} (ht : State.Swept u t)
    (hu : s.Restarted u cause comm) : t.alarmsAfterReset := by
  obtain ⟨hentry, hroom⟩ := ht.fresh
  refine ⟨fun k => ?_, hentry, hroom⟩
  have hfault : u.hds.storeFault = t.hds.storeFault := (congrArg (·.hds.storeFault) ht.erased.symm :)
  have htables : u.tables = t.tables := (congrArg State.tables ht.erased.symm :)
  have hspaces : u.ct.spaces = t.ct.spaces := (congrArg (·.ct.spaces) ht.erased.symm :)
  have hlift (c : Crane) : u.lift c = t.lift c := (congrArg (State.lift · c) ht.erased.symm :)
  rw [ht.held, hu.held]
  simp only [hfault, htables, hspaces, hlift, or_assoc]

/-- The links after the start-up: timers as started, and no frame waiting but port P's notices and report (R174 to
R177, R187). -/
theorem State.Swept.links {s u t : State} {cause : Cause} {comm : Bool} (ht : State.Swept u t)
    (hu : s.Restarted u cause comm) (q : Port) :
    (t.link q).state = .silent ∧ (t.link q).bad = 0 ∧ (t.link q).silence = some (t.now + 2000) ∧
      (t.link q).inbound = [] ∧ (t.link q).slot = none ∧ (q ≠ .p → (t.link q).queue = [] ∧ (t.link q).sending = none) := by
  have hnow : t.now = u.now := (congrArg State.now ht.erased :)
  have hlink : t.startErased.link q = u.startErased.link q := congrArg (State.link · q) ht.erased
  have hq := hu.links q
  rw [State.startErased_link, State.startErased_link] at hlink
  rw [hnow]
  by_cases hp : q = .p
  · subst hp
    obtain ⟨hstate, hbad, hsilence, hinbound, hslot, -⟩ := hq
    rw [if_pos rfl, if_pos rfl] at hlink
    exact ⟨(congrArg Link.state hlink :).trans hstate, (congrArg Link.bad hlink :).trans hbad,
      (congrArg Link.silence hlink :).trans hsilence, (congrArg Link.inbound hlink :).trans hinbound,
      (congrArg Link.slot hlink :).trans hslot, fun h => absurd rfl h⟩
  · rw [if_neg hp, if_neg hp] at hlink
    rw [hlink]
    exact hq

/-- Whatever the cause, a reset leaves the blocks that keep nothing as `resetBlocks` says. -/
theorem State.Restarted.resetBlocks {s u : State} {cause : Cause} {comm : Bool} (hu : s.Restarted u cause comm) :
    s.resetBlocks u.startUpSweep cause comm := by
  have hswept := hu.retained.startUpSweep_swept
  have hgone := hu.retained.startUpSweep_goneOn
  generalize u.startUpSweep = t at hswept hgone
  have he := hswept.erased
  have htables : t.tables = u.tables := (congrArg State.tables he :)
  have hstore : t.hds.store = u.hds.store := (congrArg (·.hds.store) he :)
  have hcsv : t.csv = u.csv := (congrArg State.csv he :)
  have htransfers : t.tgt.transfers = u.tgt.transfers := (congrArg (·.tgt.transfers) he :)
  have hchans : t.tgt.chans = u.tgt.chans := (congrArg (·.tgt.chans) he :)
  have hmask : u.settings.mask = defaultMask u.tables.calib := by rw [State.settings, hu.csv]
  have hres : u.settings.resolution = 14 := by rw [State.settings, hu.csv]; rfl
  have hset := State.sweepSet_of_defaultMask hmask
  have hms : conversionMs 14 = 16 := rfl
  obtain ⟨hchoice, hdisabled, hrelease, hsweeping, hdone, htested, hentered, hwaiting⟩ := hgone
  rw [hset, hres, hms] at hsweeping
  rw [hset] at hdone htested hentered
  unfold State.resetBlocks
  dsimp only
  rw [htables, hstore, State.settings, hcsv]
  refine ⟨(congrArg State.phase he :).trans hu.phase, (congrArg State.line he :).trans hu.line,
    (congrArg (·.hds.cause) he :).trans hu.recorded, (congrArg (·.hds.strap) he :).trans hu.strap, hu.store, hu.tables,
    (congrArg (·.hds.storeFault) he :).trans hu.fault, (congrArg (·.hds.written) he :).trans hu.written,
    (congrArg (·.hds.torn) he :).trans hu.torn, (congrArg (·.hds.testFail) he :).trans hu.testFail,
    (congrArg (·.hds.buffer) he :).trans hu.buffer, (congrArg (·.hds.prog) he :).trans hu.prog, hchoice,
    hdisabled.trans hu.disabled, (congrArg (·.sev.live) he :).trans hu.live, (congrArg (·.sev.last) he :).trans hu.last,
    (congrArg (·.sev.trialWanted) he :).trans hu.trialWanted, by rw [hu.csv]; rfl, by rw [hu.csv]; rfl,
    by rw [hu.csv]; rfl, by rw [hu.csv]; rfl, by rw [hu.csv], ?_, (congrArg State.lmn he :).trans hu.lmn,
    htransfers.trans (by rw [hu.retained.tgt]; rfl), hswept.active.trans hset,
    hchans.trans (by rw [hu.retained.tgt]; rfl), hrelease, hsweeping, hdone, ?_, ?_, ?_,
    hswept.alarmsAfterReset hu, ?_, hswept.links hu⟩
  · intro ch hch
    rw [hu.csv]
    exact getLsbD_defaultMask _ hch
  · intro hnone husable
    exact htested hnone fun hd => absurd (hu.disabled.1 hd) (by simp [husable])
  · intro hnone husable
    rw [← hu.elapsed]
    exact hentered hnone (hu.disabled.2 husable)
  · rw [← hu.elapsed]
    exact hwaiting
  · have hnow : t.now = u.now := (congrArg State.now he :)
    rw [hnow]
    exact (congrArg (·.sli.summary) he :).trans hu.summary

end Sys2Proof.Machine
end

section
/-!
POWER_ON (R4, R35, R78, R115, R184): the load of the tables, and the retention that keeps nothing.
-/

namespace Sys2Proof.Machine

set_option Elab.async false

/-! ### The load (R185, R186) -/

/-- The working tables taken from the pages, before the alarms of the load (R49, R180, R186). -/
def State.tablesTaken (x : State) : State :=
  { x with
    hds := { x.hds with
      tables := x.hds.store.load.tables
      written := x.hds.store.load.written
      torn := x.hds.store.load.torn
      storeFault := x.hds.storeFault || x.hds.store.load.fault }
    csv := { x.csv with settings := { x.csv.settings with mask := defaultMask x.hds.store.load.tables.calib } }
    sev := { x.sev with state := if x.hds.store.load.tables.usable then .idle else .disabled } }

/-- The load is the tables taken with the alarms of the load raised (R180, R186, assumption 27). -/
theorem State.loadTables_eq (x : State) : x.loadTables =
    let y := if x.hds.store.load.fault = true then x.tablesTaken.raise ⟨.storeFault, .none⟩ else x.tablesTaken
    if x.hds.store.load.tables.tests = [] then y.raise ⟨.noTestCondition, .none⟩ else y := by
  by_cases h : x.hds.store.load.fault = true <;> simp [State.loadTables, State.raiseStoreFault, State.tablesTaken, h]

/-- What a raise leaves, the alarms of the load leave. -/
theorem State.loadTables_keeps {β : Type} (f : State → β) (h : ∀ s k, f (s.raise k) = f s) (x : State) :
    f x.loadTables = f x.tablesTaken := by
  rw [State.loadTables_eq]
  dsimp only
  split <;> split <;> simp only [h]

/-- The conditions that the load raises (R180, R186). -/
theorem State.mem_held_loadTables (x : State) (k : AlarmKey) : k ∈ x.loadTables.als.held ↔ k ∈ x.als.held ∨
    (k = ⟨.storeFault, .none⟩ ∧ x.hds.store.load.fault = true) ∨
    (k = ⟨.noTestCondition, .none⟩ ∧ x.hds.store.load.tables.tests = []) := by
  have hals : x.tablesTaken.als = x.als := rfl
  rw [State.loadTables_eq]
  by_cases hfault : x.hds.store.load.fault = true <;> by_cases htests : x.hds.store.load.tables.tests = [] <;>
    simp [hfault, htests, State.mem_held_raise, hals, or_assoc]

theorem State.loadTables_fresh {x : State} (h : x.als.Fresh x.seconds) : x.loadTables.als.Fresh x.loadTables.seconds := by
  have htaken : x.tablesTaken.als.Fresh x.tablesTaken.seconds := h
  rw [State.loadTables_eq]
  dsimp only
  split <;> split
  · exact State.raise_fresh (State.raise_fresh htaken _) _
  · exact State.raise_fresh htaken _
  · exact State.raise_fresh htaken _
  · exact htaken

/-! ### The Condition Table of a POWER_ON reset (R35) -/

theorem Tables.mem_addrs_of_const {t : Tables} {a : Nat} {d : Box × ConstDef} (h : t.const a = some d) :
    a ∈ t.comps.map Prod.fst := by
  refine Tables.mem_addrs ?_
  unfold Tables.const at h
  split at h
  next heq => rw [heq]; rfl
  next => cases h

theorem Tables.mem_addrs_of_cargo {t : Tables} {a : Nat} (h : (t.cargo a).isSome = true) : a ∈ t.comps.map Prod.fst := by
  refine Tables.mem_addrs ?_
  unfold Tables.cargo at h
  split at h
  next heq => rw [heq]; rfl
  next => cases h

/-- A value put under each key of a list. -/
theorem lookup_map_const {α : Type} (l : List Nat) (v : α) (k : Nat) :
    lookup (l.map fun a => (a, v)) k = if k ∈ l then some v else none := by
  induction l with
  | nil => simp
  | cons a l ih =>
    rw [List.map_cons, lookup_cons, ih]
    by_cases h : a = k
    · simp [h]
    · simp [h, Ne.symm h]

/-- A list built from the keys of another: each key has what is built from it. -/
theorem lookup_filterMap_key {α β γ : Type} (g : Nat → Option β) (f : β → γ) (l : List (Nat × α)) (k : Nat) :
    lookup (l.filterMap fun e => (g e.1).map fun d => (e.1, f d)) k =
      if k ∈ l.map Prod.fst then (g k).map f else none := by
  induction l with
  | nil => simp
  | cons e l ih =>
    cases hg : g e.1 with
    | none =>
      rw [List.filterMap_cons_none (by rw [hg]; rfl), ih]
      by_cases h : k = e.1
      · simp [h, hg]
      · simp only [List.map_cons, List.mem_cons, h, false_or]
    | some d =>
      rw [List.filterMap_cons_some (b := (e.1, f d)) (by rw [hg]; rfl), lookup_cons, ih]
      by_cases h : k = e.1
      · simp [h, hg]
      · simp only [List.map_cons, List.mem_cons, h, Ne.symm h, false_or, if_neg, not_false_eq_true]

theorem lookup_spacesWithin (t : Tables) (a : Nat) :
    lookup (spacesWithin t) a = if (t.cargo a).isSome then some .within else none := by
  rw [spacesWithin, lookup_map_const]
  refine if_congr ?_ rfl rfl
  rw [Tables.cargoAddrs, List.mem_filter]
  exact ⟨And.right, fun h => ⟨Tables.mem_addrs_of_cargo h, h⟩⟩

theorem lookup_powerOnTable_tanks {t : Tables} {a : Nat} {d : TankDef} (h : t.tank a = some d) :
    lookup (powerOnTable t).tanks a = some ⟨0, .none, d.density, 0, d.firstZ, 0, 0, false⟩ := by
  rw [powerOnTable, lookup_filterMap_key t.tank, if_pos (Tables.mem_addrs_of_tank h), h]
  rfl

theorem lookup_powerOnTable_consts {t : Tables} {a : Nat} {box : Box} {d : ConstDef} (h : t.const a = some (box, d)) :
    lookup (powerOnTable t).consts a = some ⟨d.weight, d.pos⟩ := by
  rw [powerOnTable, lookup_filterMap_key t.const fun d => (⟨d.2.weight, d.2.pos⟩ : ConstLive),
    if_pos (Tables.mem_addrs_of_const h), h]
  rfl

theorem pedestalStructs_get {t : Tables} {c : Crane} {d : CraneDef} (h : t.crane c = some d) :
    (pedestalStructs t).get c = some ⟨d.px, d.py, d.z⟩ := by
  cases c <;> exact congrArg (Option.map _) h

theorem pedestalHooks_get {t : Tables} {c : Crane} {d : CraneDef} (h : t.crane c = some d) :
    (pedestalHooks t).get c = ⟨d.px, d.py, 0, .reported⟩ := by
  cases c <;> simp [pedestalHooks, PerCrane.get, h]

/-! ### The POWER_ON reset (R4, R35, R78, R115, R184) -/

/-- The state of a POWER_ON reset whose load begins. -/
def State.poweredOn (s : State) (comm : Bool) : State :=
  let x := { s with now := 0, elapsed := none }.blocksReset
  { x with
    phase := .running
    sli := Sli.started 0 .initial
    hds := { x.hds with cause := .powerOn, strap := comm } }

/-- After the load the Condition Table and the lifts are taken anew (R35, R78, R115). -/
def State.emptied (x : State) : State :=
  { x with ct := powerOnTable x.tables, lcu := { Lcu.initial with hooks := pedestalHooks x.tables } }

theorem State.powerOnReset_eq (s : State) (comm : Bool) :
    s.powerOnReset comm = (s.poweredOn comm).loadTables.emptied.startUpSweep := by
  have hcause : (s.poweredOn comm).loadTables.hds.cause = .powerOn := by
    rw [State.loadTables_keeps State.hds State.raise_hds]
    rfl
  have hretain : (s.poweredOn comm).loadTables.retain = (s.poweredOn comm).loadTables.emptied := by
    rw [State.retain, hcause]
    rfl
  rw [← hretain]
  rfl

/-- What neither the load's alarms nor the retention changes is as the tables were taken. -/
theorem State.emptied_keeps {β : Type} (f : State → β) (hraise : ∀ x k, f (State.raise x k) = f x)
    (hemptied : ∀ x, f (State.emptied x) = f x) (s : State) (comm : Bool) :
    f (s.poweredOn comm).loadTables.emptied = f (s.poweredOn comm).tablesTaken :=
  (hemptied _).trans (State.loadTables_keeps f hraise _)

section
variable (s : State) (comm : Bool)

theorem State.emptied_now : (s.poweredOn comm).loadTables.emptied.now = 0 :=
  State.emptied_keeps State.now State.raise_now (fun _ => rfl) s comm

theorem State.emptied_pending : (s.poweredOn comm).loadTables.emptied.pending = s.pending :=
  State.emptied_keeps State.pending State.raise_pending (fun _ => rfl) s comm

theorem State.emptied_sev : (s.poweredOn comm).loadTables.emptied.sev = (s.poweredOn comm).tablesTaken.sev :=
  State.emptied_keeps State.sev State.raise_sev (fun _ => rfl) s comm

theorem State.emptied_hds : (s.poweredOn comm).loadTables.emptied.hds = (s.poweredOn comm).tablesTaken.hds :=
  State.emptied_keeps State.hds State.raise_hds (fun _ => rfl) s comm

theorem State.emptied_tgt : (s.poweredOn comm).loadTables.emptied.tgt = .initial :=
  State.emptied_keeps State.tgt State.raise_tgt (fun _ => rfl) s comm

theorem State.emptied_csv : (s.poweredOn comm).loadTables.emptied.csv = (s.poweredOn comm).tablesTaken.csv :=
  State.emptied_keeps State.csv State.raise_csv (fun _ => rfl) s comm

theorem State.emptied_tables : (s.poweredOn comm).loadTables.emptied.tables = s.hds.storeAfterReset.load.tables := by
  rw [State.tables, State.emptied_hds]
  rfl

theorem State.emptied_lift (c : Crane) : (s.poweredOn comm).loadTables.emptied.lift c = .idle := by cases c <;> rfl

end

/-! ### What it hands to the start-up sweep (R35, R78, R120, R150, R176, R180) -/

/-- A raise places notices on port P alone (R157). -/
theorem State.raise_link_quiet (s : State) (k : AlarmKey) (q : Port) : ((s.raise k).link q).quiet = (s.link q).quiet := by
  by_cases hq : q = .p
  · have hlink : (s.raise k).startErased.link q = s.startErased.link q := by rw [State.raise_startErased]
    simpa [State.startErased_link, hq] using hlink
  · rw [State.raise_link s k q hq]

section
variable (s : State) (comm : Bool)

theorem State.tablesTaken_link (q : Port) :
    (s.poweredOn comm).tablesTaken.link q = { Link.initial with silence := some 2000 } := by cases q <;> rfl

theorem State.emptied_link_quiet (q : Port) :
    ((s.poweredOn comm).loadTables.emptied.link q).quiet = { Link.initial with silence := some 2000 } :=
  (State.emptied_keeps (fun x => (x.link q).quiet) (fun x k => x.raise_link_quiet k q) (fun _ => rfl) s comm).trans
    (by rw [State.tablesTaken_link]; rfl)

theorem State.emptied_link_of_ne {q : Port} (hq : q ≠ .p) :
    (s.poweredOn comm).loadTables.emptied.link q = { Link.initial with silence := some 2000 } :=
  (State.emptied_keeps (State.link · q) (fun x k => x.raise_link k q hq) (fun _ => rfl) s comm).trans
    (State.tablesTaken_link s comm q)

/-- Every silence timer is started, and nothing waits but the notices of the load (R157, R176, R177). -/
theorem State.emptied_links (q : Port) :
    let l := (s.poweredOn comm).loadTables.emptied.link q
    l.state = .silent ∧ l.bad = 0 ∧ l.silence = some 2000 ∧ l.inbound = [] ∧ l.slot = none ∧
      (q ≠ .p → l.queue = [] ∧ l.sending = none) := by
  have h := State.emptied_link_quiet s comm q
  refine ⟨(congrArg Link.state h :), (congrArg Link.bad h :), (congrArg Link.silence h :), (congrArg Link.inbound h :),
    (congrArg Link.slot h :), fun hq => ?_⟩
  rw [State.emptied_link_of_ne s comm hq]
  exact ⟨rfl, rfl⟩

/-- At POWER_ON only the load's conditions are raised (R180, R186). -/
theorem State.emptied_held (k : AlarmKey) : k ∈ (s.poweredOn comm).loadTables.emptied.als.held ↔
    (k = ⟨.storeFault, .none⟩ ∧ s.hds.storeAfterReset.load.fault = true) ∨
      (k = ⟨.noTestCondition, .none⟩ ∧ s.hds.storeAfterReset.load.tables.tests = []) :=
  (State.mem_held_loadTables (s.poweredOn comm) k).trans (or_iff_right nofun)

/-- At POWER_ON no space is OVER (R35). -/
theorem State.emptied_spaces (a : Nat) : lookup (s.poweredOn comm).loadTables.emptied.ct.spaces a ≠ some .over := by
  change lookup (spacesWithin _) a ≠ _
  rw [lookup_spacesWithin]
  split <;> nofun

theorem State.tablesTaken_sev (x : State) :
    x.tablesTaken.sev.state = if x.hds.store.load.tables.usable = true then .idle else .disabled := rfl

/-- The gauging unit, the evaluator and the alarm list of a POWER_ON reset at its start-up sweep (R38, R120, R150). -/
theorem State.emptied_retained : (s.poweredOn comm).loadTables.emptied.Retained where
  tgt := s.emptied_tgt comm
  mode := by rw [State.emptied_hds]; rfl
  verdicts := by rw [State.emptied_hds]; rfl
  taken := by rw [State.emptied_sev]; rfl
  choice := by
    rw [State.emptied_sev, State.tablesTaken_sev]
    split
    · exact .inl rfl
    · exact .inr rfl
  fresh := State.loadTables_fresh (x := s.poweredOn comm) (Als.initial_fresh _)
  faults := by
    intro a hmem
    rcases (s.emptied_held comm _).1 hmem with ⟨h, -⟩ | ⟨h, -⟩ <;> cases h

end

end Sys2Proof.Machine
end

section
/-!
O11: POWER_ON empties the part and starts it up (R4, R35, R78, R115, R184).
-/

namespace Sys2Proof.Machine

set_option Elab.async false

/-- A POWER_ON reset hands over to the start-up sweep as every reset does (R184, R185). -/
theorem State.emptied_restarted {s : State} (comm : Bool) (hline : s.line = false) :
    s.Restarted (s.poweredOn comm).loadTables.emptied .powerOn comm where
  retained := s.emptied_retained comm
  phase := State.emptied_keeps State.phase State.raise_phase (fun _ => rfl) s comm
  line := (State.emptied_keeps State.line State.raise_line (fun _ => rfl) s comm).trans hline
  recorded := by rw [State.emptied_hds]; rfl
  strap := by rw [State.emptied_hds]; rfl
  store := by rw [State.emptied_hds]; rfl
  tables := by rw [State.emptied_tables, State.emptied_hds]; rfl
  fault := by rw [State.emptied_hds]; exact Bool.false_or _
  written := by rw [State.emptied_hds]; rfl
  torn := by rw [State.emptied_hds]; rfl
  testFail := by rw [State.emptied_hds]; rfl
  buffer := by rw [State.emptied_hds]; rfl
  prog := by rw [State.emptied_hds]; rfl
  disabled := by
    rw [State.emptied_sev, State.emptied_tables, State.tablesTaken_sev]
    change (if s.hds.storeAfterReset.load.tables.usable = true then EvState.idle else EvState.disabled) = _ ↔ _
    cases s.hds.storeAfterReset.load.tables.usable <;> simp
  live := by rw [State.emptied_sev]; rfl
  last := by rw [State.emptied_sev]; rfl
  trialWanted := by rw [State.emptied_sev]; rfl
  csv := by rw [State.emptied_csv, State.emptied_tables]; rfl
  lmn := State.emptied_keeps State.lmn State.raise_lmn (fun _ => rfl) s comm
  elapsed := State.emptied_keeps State.elapsed State.raise_elapsed (fun _ => rfl) s comm
  summary := by
    rw [State.emptied_now]
    exact State.emptied_keeps (·.sli.summary) State.raise_summary (fun _ => rfl) s comm
  links := by
    rw [State.emptied_now]
    exact s.emptied_links comm
  held := fun k => by
    have hfault : (s.poweredOn comm).loadTables.emptied.hds.storeFault = s.hds.storeAfterReset.load.fault := by
      rw [State.emptied_hds]
      exact Bool.false_or _
    simp [s.emptied_held comm k, hfault, s.emptied_tables comm, s.emptied_lift comm, s.emptied_spaces comm,
      LiftRec.holdsLoad]

/-! ### What the start-up of a POWER_ON reset keeps of it (R4, R35, R78, R115) -/

section
variable (s : State) (comm : Bool)

theorem State.powerOnReset_startErased :
    (s.powerOnReset comm).startErased = (s.poweredOn comm).loadTables.emptied.startErased := by
  rw [State.powerOnReset_eq]
  exact (s.emptied_retained comm).startUpSweep_swept.erased

/-- What the start-up sweep and what follows it leave is as the retention left it. -/
theorem State.powerOnReset_keeps {β : Type} (f : State → β) (hf : ∀ x, f (State.startErased x) = f x) :
    f (s.powerOnReset comm) = f (s.poweredOn comm).loadTables.emptied := by
  rw [← hf (s.powerOnReset comm), State.powerOnReset_startErased, hf]

theorem State.powerOnReset_now : (s.powerOnReset comm).now = 0 :=
  (s.powerOnReset_keeps comm State.now fun _ => rfl).trans (s.emptied_now comm)

theorem State.powerOnReset_pending : (s.powerOnReset comm).pending = s.pending :=
  (s.powerOnReset_keeps comm State.pending fun _ => rfl).trans (s.emptied_pending comm)

theorem State.powerOnReset_tables :
    (s.powerOnReset comm).tables = (s.poweredOn comm).loadTables.emptied.tables :=
  s.powerOnReset_keeps comm State.tables fun _ => rfl

theorem State.powerOnReset_ct : (s.powerOnReset comm).ct = powerOnTable (s.powerOnReset comm).tables := by
  rw [State.powerOnReset_tables]
  exact s.powerOnReset_keeps comm State.ct fun _ => rfl

theorem State.powerOnReset_lcu :
    (s.powerOnReset comm).lcu = { Lcu.initial with hooks := pedestalHooks (s.powerOnReset comm).tables } := by
  rw [State.powerOnReset_tables]
  exact s.powerOnReset_keeps comm State.lcu fun _ => rfl

theorem State.powerOnReset_kept : (s.powerOnReset comm).hds.kept = 0 :=
  (s.powerOnReset_keeps comm (·.hds.kept) fun _ => rfl).trans (by rw [State.emptied_hds]; rfl)

theorem State.powerOnReset_dropped : (s.powerOnReset comm).hds.dropped = 0 :=
  (s.powerOnReset_keeps comm (·.hds.dropped) fun _ => rfl).trans (by rw [State.emptied_hds]; rfl)

/-- The elapsed-seconds count of a part whose time base is at 0 (R4). -/
theorem State.powerOnReset_seconds : (s.powerOnReset comm).seconds = 0 := by
  unfold State.seconds
  rw [State.powerOnReset_now]
  cases (s.powerOnReset comm).elapsed <;> simp

end

/-- Settles O11: with power good there is no such event, with the line held the part is emptied and stays in reset, and
otherwise the start-up goes on from the emptied table and lifts. -/
theorem powerOnEmptiesThePart : Obligations.PowerOnEmptiesThePart := by
  unfold Obligations.PowerOnEmptiesThePart
  intro s comm
  have hexec : exec (.powerOn comm) s =
      .next (if s.phase = .off then (if s.line then s.poweredUnderReset else s.powerOnReset comm) else s) := rfl
  refine ⟨fun hphase => by rw [hexec, if_neg hphase], fun hphase hline => ?_, fun hphase hline => ?_⟩
  · exact ⟨s.poweredUnderReset, by rw [hexec, if_pos hphase, if_pos hline], rfl, hline, rfl, rfl, rfl, rfl,
      fun c => by cases c <;> rfl, rfl, rfl, rfl, rfl, rfl, rfl, rfl, rfl, rfl, rfl, fun q => by cases q <;> rfl⟩
  · have hreset : s.resetBlocks (s.powerOnReset comm) .powerOn comm :=
      s.powerOnReset_eq comm ▸ (s.emptied_restarted comm hline).resetBlocks
    have hct := s.powerOnReset_ct comm
    have hlcu := s.powerOnReset_lcu comm
    refine ⟨s.powerOnReset comm, by rw [hexec, if_pos hphase, if_neg (by simp [hline])], hreset, s.powerOnReset_now comm,
      s.powerOnReset_seconds comm, s.powerOnReset_pending comm, by rw [hct]; rfl, by rw [hct]; rfl, by rw [hct]; rfl,
      fun a => ?_, fun a d hd => ?_, fun a box d hd => ?_, fun c => ?_, fun c d hd => ⟨?_, ?_⟩, by rw [hlcu]; rfl,
      by rw [hlcu]; rfl, by rw [hlcu]; rfl, by rw [hlcu]; rfl, by rw [hlcu]; rfl, s.powerOnReset_kept comm,
      s.powerOnReset_dropped comm⟩
    · rw [hct]
      exact lookup_spacesWithin _ a
    · rw [hct]
      exact lookup_powerOnTable_tanks hd
    · rw [hct]
      exact lookup_powerOnTable_consts hd
    · rw [State.lift, hlcu]
      cases c <;> rfl
    · rw [State.hook, hlcu]
      exact pedestalHooks_get hd
    · rw [hct]
      exact pedestalStructs_get hd

end Sys2Proof.Machine
end

section
/-!
A frame that is taken and answered, its handling said of the state before the frame was taken (R80, R174); and the
payloads of the data entry frames read back (R179).
-/

namespace Sys2Proof.Machine

set_option Elab.async false

/-- A frame whose handling makes `u` of the state and answers with a message: it makes no difference whether the frame is
taken before or after (R174). -/
theorem serve_answers {s u : State} {q : Port} {k : Byte} {p : List Byte} {m : OutMsg}
    {handle : List Byte → State → State × Reply} (h : s.takes q k p) (hl : lengthOk k p = true)
    (hm : handle p (s.pull q) = (u.pull q, .say m)) : serve q k handle s = u.replied q m := by
  rw [serve_takes h hl, hm]
  exact u.answer_pull q m

@[simp] theorem State.pull_tables (s : State) (q : Port) : (s.pull q).tables = s.tables := rfl

/-- A frame command that only answers what its handling says, the evaluator then choosing. -/
theorem exec_answers {c : Instr} {s u : State} {q : Port} {k : Byte} {p : List Byte} {m : OutMsg}
    {handle : List Byte → State → State × Reply} (hc : exec c s = .next (serve q k handle s).takeJob)
    (h : s.takes q k p) (hl : lengthOk k p = true) (hm : handle p (s.pull q) = (u.pull q, .say m)) :
    exec c s = .next (u.replied q m).takeJob := by
  rw [hc, serve_answers h hl hm]

end Sys2Proof.Machine
end

section
/-!
SET_CONSTANT (R30).
-/

namespace Sys2Proof.Machine

set_option Elab.async false

/-- The payload of a SET_CONSTANT reads back its slot, weight and centroid. -/
theorem setConstant_fields {slot : Nat} {w : Int} {q : Pos} (hslot : slot < 256) (hw : weightOnWire w) (hq : q.onWire) :
    let p := octetsN 1 slot ++ octets 3 w ++ posOctets q
    field p 0 1 = slot ∧ fieldU p 1 3 = w ∧ fieldPos p 4 = q := by
  refine ⟨?_, ?_, ?_⟩
  · rw [List.append_assoc]
    exact field_octetsN_append 1 slot _ hslot
  · rw [List.append_assoc, fieldU_append_right _ _ _ _ (by simp), octetsN_length]
    exact fieldU_octets w _ hw
  · rw [fieldPos_append_right _ _ _ (by simp), List.length_append, octetsN_length, octets_length]
    exact fieldPos_posOctets_end q hq

/-- The write of a constant: the slot's live fields, and the serial when they differ (R30). -/
theorem State.writeConst_eq (s : State) (a : Nat) (v : ConstLive) : s.writeConst a v = { s with
    ct := { s.ct with
      consts := adjust s.ct.consts a fun _ => v
      serial := if lookup s.ct.consts a = some v then s.ct.serial else s.ct.serial + 1 } } := by
  unfold State.writeConst
  split <;> rfl

/-- Settles O26: the three checks in their order, and the write. -/
theorem setConstantWritesTheSlot : Obligations.SetConstantWritesTheSlot := by
  intro s slot w q hslot hw hq ht refused
  obtain ⟨hf0, hf1, hf4⟩ := setConstant_fields hslot hw hq
  have hlen : lengthOk kSetConstant (octetsN 1 slot ++ octets 3 w ++ posOctets q) = true := by
    simp [lengthOk, fixedLength]
  have hexec {u : State} {m : OutMsg} := exec_answers (c := .setConstant) (u := u) (m := m) rfl ht hlen
  have hcheck : (decide (60000 < w) || !q.inFrame || decide (15 < slot)) = true ↔
      60000 < w ∨ q.inFrame = false ∨ 15 < slot := by simp [or_assoc]
  simp only [setConstantReply, hf0, hf1, hf4, hcheck, State.pull_tables] at hexec
  split
  next hbad => exact hexec (if_pos hbad)
  next hok =>
    simp only [if_neg hok] at hexec
    cases hconst : s.tables.const (112 + slot) with
    | none => exact hexec (by rw [hconst]; rfl)
    | some e =>
      obtain ⟨box, d⟩ := e
      simp only [hconst] at hexec ⊢
      cases hbox : box.holds q with
      | false => exact hexec (by simp [hbox, refuse])
      | true => exact hexec (by simp only [hbox, if_true, State.writeConst_eq]; rfl)

end Sys2Proof.Machine
end

section
/-!
SET_DENSITY and RELEASE_MANUAL (R5, R24, R27, R28, R131).
-/

namespace Sys2Proof.Machine

set_option Elab.async false

/-- The two checks of an octet that names a tank (R5, R27). -/
theorem State.tankAt_eq (s : State) {a : Nat} (h : a < 256) : s.tankAt a =
    if 128 ≤ a ∧ a ≠ 254 then .error .badField
    else match s.tables.tank a with
      | none => .error .badSpace
      | some d => .ok d := by
  rw [State.tankAt, notAddress_eq h]
  simp only [decide_eq_true_eq]
  split
  · rfl
  · cases s.tables.tank a <;> rfl

@[simp] theorem State.pull_tank (s : State) (q : Port) (a : Nat) : (s.pull q).tank a = s.tank a := rfl

@[simp] theorem State.pull_tankAt (s : State) (q : Port) (a : Nat) : (s.pull q).tankAt a = s.tankAt a := rfl

/-- What follows from a tank's sounding, source and density, field by field (R24). -/
theorem TankLive.derive_eq (d : TankDef) (t : TankLive) : t.derive d =
    { sounding := if t.source ≠ .none then t.sounding else 0
      source := t.source
      density := t.density
      volume := if t.source ≠ .none then (d.values t.sounding).volume else 0
      liqZ := if t.source ≠ .none then (d.values t.sounding).liqZ else d.firstZ
      inertia := if t.source ≠ .none then (d.values t.sounding).inertia else 0
      weight := if t.source ≠ .none then rdiv ((d.values t.sounding).volume * t.density) 100000 else 0
      inTransfer := t.inTransfer } := by
  unfold TankLive.derive
  by_cases h : t.source = .none
  · simp [h]
  · simp [h, liquidWeight]

/-- The write of a density: the tank's fields, and the serial when the density differs (R27). -/
theorem State.writeDensity_eq {s : State} {a : Nat} {live : TankLive} (h : s.tank a = some live) (d : TankDef) (v : Int) :
    s.writeDensity a d v = { s with
      ct := { s.ct with
        tanks := adjust s.ct.tanks a fun _ => TankLive.derive d { live with density := v }
        serial := if live.density = v then s.ct.serial else s.ct.serial + 1 } } := by
  unfold State.writeDensity
  rw [h]
  dsimp only
  split <;> rfl

/-- Settles O30: the octet names a tank or is refused, and the clamped density is written. -/
theorem setDensityRecomputesTheWeight : Obligations.SetDensityRecomputesTheWeight := by
  intro s a v ha hv ht refused
  have hf0 : field (octetsN 1 a ++ octetsN 2 v) 0 1 = a := field_octetsN_append 1 a _ ha
  have hf1 : fieldU (octetsN 1 a ++ octetsN 2 v) 1 2 = v := by
    rw [fieldU_append_right _ _ _ _ (by simp), octetsN_length]
    exact congrArg Int.ofNat (field_octetsN 2 v hv)
  have hlen : lengthOk kSetDensity (octetsN 1 a ++ octetsN 2 v) = true := by simp [lengthOk, fixedLength]
  have hexec {u : State} {m : OutMsg} := exec_answers (c := .setDensity) (u := u) (m := m) rfl ht hlen
  simp only [setDensityReply, hf0, hf1, State.pull_tankAt, s.tankAt_eq ha] at hexec
  split
  next hbad => exact hexec (by rw [if_pos hbad]; rfl)
  next hok =>
    simp only [if_neg hok] at hexec
    cases hd : s.tables.tank a with
    | none => exact hexec (by rw [hd]; rfl)
    | some d =>
      intro live hlive
      simp only [hd, clamp_eq_max_min (show (6000 : Int) ≤ 20000 by decide)] at hexec
      have hlive' : (s.pull .p).tank a = some live := hlive
      exact hexec (by rw [State.writeDensity_eq hlive', TankLive.derive_eq]; rfl)

/-- A release of a MANUAL tank, field by field (R28, R131). -/
theorem State.releaseManual_eq {s : State} {a : Nat} {live : TankLive} (h : s.tank a = some live)
    (hmode : s.hds.mode ≠ .starting) (d : TankDef) : s.releaseManual a d =
      if live.source = .manual then { s with
        ct := { s.ct with tanks := adjust s.ct.tanks a fun e => { e with source := .held } }
        tgt := { s.tgt with
          chans := (match d.channel with
            | some ch => adjust s.tgt.chans ch fun c => { c with candidate := none }
            | none => s.tgt.chans)
          gauges := adjust s.tgt.gauges a fun _ => ⟨true, some (s.now + s.settings.holdLimit * 1000)⟩ } }
      else s := by
  have hgauges : adjust (adjust s.tgt.gauges a fun g => { g with release := true }) a
      (fun g => { g with hold := some (s.now + s.settings.holdLimit * 1000) }) =
        adjust s.tgt.gauges a fun _ => ⟨true, some (s.now + s.settings.holdLimit * 1000)⟩ := by
    simp only [adjust, List.map_map]
    refine List.map_congr_left fun e _ => ?_
    by_cases he : e.1 = a <;> simp [he]
  unfold State.releaseManual
  rw [h]
  dsimp only
  split
  · rw [← hgauges]
    unfold State.startHold State.dropCandidate
    cases d.channel <;> exact if_neg hmode
  · rfl

/-- Settles O32: the octet names a tank or is refused, and a MANUAL tank is released. -/
theorem releaseManualHoldsTheTank : Obligations.ReleaseManualHoldsTheTank := by
  intro s a ha ht refused reply
  have hf0 : field (octetsN 1 a) 0 1 = a := field_octetsN 1 a ha
  have hlen : lengthOk kReleaseManual (octetsN 1 a) = true := by simp [lengthOk, fixedLength]
  have hexec {u : State} {m : OutMsg} := exec_answers (c := .releaseManual) (u := u) (m := m) rfl ht hlen
  simp only [releaseManualReply, hf0, State.pull_tankAt, s.tankAt_eq ha] at hexec
  split
  next hbad => exact hexec (by rw [if_pos hbad]; rfl)
  next hok =>
    simp only [if_neg hok] at hexec
    cases hd : s.tables.tank a with
    | none => exact hexec (by rw [hd]; rfl)
    | some d =>
      intro live hlive
      have hlive' : (s.pull .p).tank a = some live := hlive
      simp only [hd, State.releaseManual_eq hlive' ht.2.1 d] at hexec
      split
      next hman => exact hexec (by rw [if_pos hman]; rfl)
      next hman => exact hexec (by rw [if_neg hman]; rfl)

end Sys2Proof.Machine
end

section
/-!
The transfer list and the in-transfer flags: TRANSFER_START, TRANSFER_END, TRANSFER_CLEAR (R29, R134, R135).
-/

namespace Sys2Proof.Machine

set_option Elab.async false

/-! ### The list in id order (R134) -/

/-- The list after an entry holds the transfer entered and those of other ids as before. -/
theorem mem_enterTransfer_of_ne {t tr : Transfer} (h : tr.id ≠ t.id) (l : List Transfer) :
    tr ∈ enterTransfer t l ↔ tr ∈ l := by
  have hne : tr ≠ t := fun e => h (e ▸ rfl)
  induction l with
  | nil => simp [enterTransfer, hne]
  | cons e rest ih =>
    unfold enterTransfer
    split
    · simp [hne]
    · split
      next heq =>
        have hne' : tr ≠ e := fun e' => h (e' ▸ heq)
        simp [hne, hne']
      next => simp [ih]

theorem mem_enterTransfer_self (t : Transfer) (l : List Transfer) : t ∈ enterTransfer t l := by
  induction l with
  | nil => simp [enterTransfer]
  | cons e rest ih =>
    unfold enterTransfer
    split
    · simp
    · split
      · simp
      · simp [ih]

/-- A transfer entered into a list in id order keeps the order (R134). -/
theorem enterTransfer_rising (t : Transfer) {l : List Transfer} (h : (l.map Transfer.id).Pairwise (· < ·)) :
    ((enterTransfer t l).map Transfer.id).Pairwise (· < ·) := by
  induction l with
  | nil => simp [enterTransfer]
  | cons e rest ih =>
    rw [List.map_cons, List.pairwise_cons] at h
    obtain ⟨hhead, hrest⟩ := h
    unfold enterTransfer
    split
    next hlt =>
      simp only [List.map_cons, List.pairwise_cons, List.mem_cons]
      refine ⟨?_, hhead, hrest⟩
      rintro j (rfl | hj)
      · exact hlt
      · exact hlt.trans (hhead j hj)
    next hge =>
      split
      next heq =>
        rw [List.map_cons, List.pairwise_cons]
        exact ⟨heq ▸ hhead, hrest⟩
      next hne =>
        rw [List.map_cons, List.pairwise_cons]
        refine ⟨fun j hj => ?_, ih hrest⟩
        obtain ⟨tr, htr, rfl⟩ := List.mem_map.1 hj
        by_cases hid : tr.id = t.id
        · omega
        · exact hhead _ (List.mem_map_of_mem ((mem_enterTransfer_of_ne hid rest).1 htr))

/-- In a list in id order one transfer has an id. -/
theorem eq_of_rising_id {l : List Transfer} (h : (l.map Transfer.id).Pairwise (· < ·)) {t u : Transfer} (ht : t ∈ l)
    (hu : u ∈ l) (hid : t.id = u.id) : t = u :=
  List.inj_on_of_nodup_map (h.imp fun hlt => Nat.ne_of_lt hlt) ht hu hid

/-! ### The flags (R29) -/

/-- The transfer list replaced: the list, the flags of the tanks that it names, and the serial when a flag changed. -/
theorem State.setTransfers_eq (s : State) (list : List Transfer) :
    let named (a : Nat) : Bool := list.any fun tr => tr.src == .tank a || tr.dst == .tank a
    s.setTransfers list = { s with
      tgt := { s.tgt with transfers := list }
      ct := { s.ct with
        tanks := s.ct.tanks.map fun (e : Nat × TankLive) => (e.1, { e.2 with inTransfer := named e.1 })
        serial := if s.ct.tanks.any fun e => e.2.inTransfer != named e.1 then s.ct.serial + 1 else s.ct.serial } } := by
  intro named
  unfold State.setTransfers State.flagTanks
  dsimp only
  split
  next h => rw [if_pos (show (s.ct.tanks.any fun e => e.2.inTransfer != named e.1) = true from h)]; rfl
  next h => rw [if_neg (show ¬(s.ct.tanks.any fun e => e.2.inTransfer != named e.1) = true from h)]; rfl

/-! ### TRANSFER_START (R134) -/

/-- The payload of a TRANSFER_START reads back its id and its two ends. -/
theorem transferStart_fields {id src dst : Nat} (hid : id < 256) (hsrc : src < 256) (hdst : dst < 256) :
    let p := octetsN 1 id ++ octetsN 1 src ++ octetsN 1 dst
    field p 0 1 = id ∧ field p 1 1 = src ∧ field p 2 1 = dst := by
  obtain ⟨h0, h1⟩ := field_two_octets hid hsrc (octetsN 1 dst)
  refine ⟨h0, h1, ?_⟩
  rw [field_append_right _ _ _ _ (by simp)]
  simpa using field_octetsN 1 dst hdst

/-- An octet names SEA or a defined tank (R134). -/
theorem Tables.isTransferEnd_iff (t : Tables) (o : Nat) :
    t.isTransferEnd (transferEndOf o) = true ↔ o = 254 ∨ t.tank o ≠ none := by
  unfold transferEndOf
  by_cases h : o = 254
  · simp [h, Tables.isTransferEnd]
  · simp [h, Tables.isTransferEnd, Option.isSome_iff_ne_none]

/-- The ids that R134 gives a transfer. -/
theorem transferId_eq_false (id : Nat) : transferId id = false ↔ id < 1 ∨ 4 < id := by
  rw [transferId, decide_eq_false_iff_not]
  omega

/-- The checks of TRANSFER_START in their order (R5, R134). -/
theorem State.startCode_eq (s : State) {id src dst : Nat} (hsrc : src < 256) (hdst : dst < 256) :
    s.startCode id src dst =
      if id < 1 ∨ 4 < id ∨ (128 ≤ src ∧ src ≠ 254) ∨ (128 ≤ dst ∧ dst ≠ 254) ∨
          (src = dst ∧ (src = 254 ∨ s.tables.tank src ≠ none)) then some .badField
      else if (src ≠ 254 ∧ s.tables.tank src = none) ∨ (dst ≠ 254 ∧ s.tables.tank dst = none) then some .badSpace
      else none := by
  have hnone (o : Nat) : s.tables.isTransferEnd (transferEndOf o) = false ↔ o ≠ 254 ∧ s.tables.tank o = none := by
    rw [← Bool.not_eq_true, Tables.isTransferEnd_iff, not_or, not_not]
  unfold State.startCode
  simp only [notAddress_eq hsrc, notAddress_eq hdst, decide_eq_true_eq, transferId_eq_false, Tables.isTransferEnd_iff,
    Bool.and_eq_false_iff, hnone, or_assoc]

/-- Settles O50: the checks in their order, and the transfer entered. -/
theorem transferStartEntersTheList : Obligations.TransferStartEntersTheList := by
  intro s id src dst hid hsrc hdst ht refused
  obtain ⟨hf0, hf1, hf2⟩ := transferStart_fields hid hsrc hdst
  have hlen : lengthOk kTransferStart (octetsN 1 id ++ octetsN 1 src ++ octetsN 1 dst) = true := by
    simp [lengthOk, fixedLength]
  have hexec {u : State} {m : OutMsg} := exec_answers (c := .transferStart) (u := u) (m := m) rfl ht hlen
  have hcode : (s.pull .b).startCode id src dst = s.startCode id src dst := rfl
  simp only [transferStartReply, hf0, hf1, hf2, hcode, s.startCode_eq hsrc hdst] at hexec
  split
  next hbad => exact hexec (by rw [if_pos hbad]; rfl)
  next hok =>
    simp only [if_neg hok] at hexec
    split
    next hbad => exact hexec (by rw [if_pos hbad]; rfl)
    next hends =>
      simp only [if_neg hends, State.setTransfers_eq] at hexec
      refine ⟨enterTransfer ⟨id, transferEndOf src, transferEndOf dst⟩ s.tgt.transfers,
        fun tr htr => mem_enterTransfer_of_ne htr _, mem_enterTransfer_self _ _, fun hrising => ?_, hexec rfl⟩
      have hrising' := enterTransfer_rising ⟨id, transferEndOf src, transferEndOf dst⟩ hrising
      exact ⟨hrising', fun tr htr hid' => eq_of_rising_id hrising' htr (mem_enterTransfer_self _ _) hid'⟩

/-! ### TRANSFER_END and TRANSFER_CLEAR (R135) -/

/-- Settles O51: an id in range that is active leaves the list, and CLEAR empties it. -/
theorem transferEndAndClearTakeTransfersOut : Obligations.TransferEndAndClearTakeTransfersOut := by
  intro s without
  have hset (list : List Transfer) : (s.pull .b).setTransfers list = (without list).pull .b := by
    rw [State.setTransfers_eq]
    rfl
  refine ⟨fun id hid ht => ?_, fun ht => ?_⟩
  · have hf0 : field (octetsN 1 id) 0 1 = id := field_octetsN 1 id hid
    have hlen : lengthOk kTransferEnd (octetsN 1 id) = true := by simp [lengthOk, fixedLength]
    have hexec {u : State} {m : OutMsg} := exec_answers (c := .transferEnd) (u := u) (m := m) rfl ht hlen
    have hactive : (s.pull .b).tgt.transfers = s.tgt.transfers := rfl
    simp only [transferEndReply, hf0, hactive, hset] at hexec
    split
    next h => exact hexec (by rw [(transferId_eq_false id).2 h]; rfl)
    next h =>
      have hok : transferId id = true := by rwa [← transferId_eq_false, Bool.not_eq_false] at h
      simp only [hok, if_true] at hexec
      split
      next ha => exact hexec (by rw [if_pos ha]; rfl)
      next ha => exact hexec (by rw [if_neg ha]; rfl)
  · have hexec {u : State} {m : OutMsg} := exec_answers (c := .transferClear) (u := u) (m := m) rfl ht rfl
    have hactive : (s.pull .b).tgt.transfers = s.tgt.transfers := rfl
    simp only [transferClearReply, hactive, hset] at hexec
    split
    next h => exact hexec (by rw [if_pos h, doneTransfer, hactive, h]; rfl)
    next h => exact hexec (by rw [if_neg h]; rfl)

end Sys2Proof.Machine
end

section
/-!
What changes of the alarm list do beside a frame (R157, R174): the notices that found room stand in port P's queue behind
what waited, and nothing else changes but the list; so the state is the one that `noting` describes, whether the frame
was taken before the changes or after.
-/

namespace Sys2Proof.Machine

set_option Elab.async false

/-! ### Messages placed one after another (R174) -/

/-- Messages placed at a link behind what waits, the transmitter then starting; none leave it as it is. -/
def Link.placed (l : Link) (ms : List OutMsg) : Link := if ms = [] then l else { l with queue := l.queue ++ ms }.start

@[simp] theorem Link.placed_nil (l : Link) : l.placed [] = l := rfl

theorem Link.placed_singleton (l : Link) (m : OutMsg) : l.placed [m] = l.put m := rfl

/-- It makes no difference whether the transmitter starts before further messages join the queue. -/
theorem Link.start_append (l : Link) (ms : List OutMsg) :
    { l.start with queue := l.start.queue ++ ms }.start = { l with queue := l.queue ++ ms }.start := by
  obtain ⟨state, bad, silence, inbound, queue, reserved, slot, waiting, sending⟩ := l
  cases sending with
  | some tx => rfl
  | none =>
    cases slot with
    | some o => rfl
    | none => cases queue <;> rfl

theorem Link.placed_placed (l : Link) (ms ns : List OutMsg) : (l.placed ms).placed ns = l.placed (ms ++ ns) := by
  unfold Link.placed
  by_cases hm : ms = []
  · simp [hm]
  · by_cases hn : ns = []
    · simp [hn]
    · rw [if_neg hm, if_neg hn, if_neg (by simp [hm]), Link.start_append, List.append_assoc]

theorem Link.offer_eq_placed (l : Link) (m : OutMsg) : l.offer m = l.placed (if l.hasRoom then [m] else []) := by
  unfold Link.offer
  split <;> rfl

@[simp] theorem Link.placed_inbound (l : Link) (ms : List OutMsg) : (l.placed ms).inbound = l.inbound := by
  unfold Link.placed
  split <;> simp

@[simp] theorem Link.placed_reserved (l : Link) (ms : List OutMsg) : (l.placed ms).reserved = l.reserved := by
  unfold Link.placed
  split <;> simp

/-- Taking a frame and holding an entry for its reply does not touch what is placed. -/
theorem Link.placed_pulled (l : Link) (ms : List OutMsg) (f : List Frame) (n : Nat) :
    { l with inbound := f, reserved := n }.placed ms = { l.placed ms with inbound := f, reserved := n } := by
  unfold Link.placed
  split
  · rfl
  · obtain ⟨state, bad, silence, inbound, queue, reserved, slot, waiting, sending⟩ := l
    unfold Link.start
    dsimp only
    cases sending with
    | some tx => rfl
    | none =>
      cases slot with
      | some o => rfl
      | none => cases queue ++ ms <;> rfl

/-- The messages that are placed are those that joined. -/
theorem Link.joined_placed (l : Link) (ms : List OutMsg) : l.joined (l.placed ms) = ms := by
  obtain ⟨state, bad, silence, inbound, queue, reserved, slot, waiting, sending⟩ := l
  unfold Link.joined Link.placed
  by_cases hm : ms = []
  · cases sending <;> simp [hm]
  · rw [if_neg hm]
    unfold Link.start
    cases sending with
    | some tx => simp
    | none =>
      cases slot with
      | some o => simp
      | none =>
        cases queue with
        | cons m rest => simp
        | nil =>
          cases ms with
          | nil => exact absurd rfl hm
          | cons m rest => simp

/-- The messages that joined are read from the queue and the transmitter alone. -/
theorem Link.joined_congr {l k k' : Link} (hq : k.queue = k'.queue) (hs : k.sending = k'.sending) :
    l.joined k = l.joined k' := by
  unfold Link.joined
  rw [hq, hs]

/-! ### States that differ by changes of the alarm list (R157) -/

/-- Whether a message is an ALARM_NOTICE. -/
def OutMsg.isNotice : OutMsg → Bool
  | .notice _ => true
  | _ => false

theorem noticesOf_eq (ms : List OutMsg) : noticesOf ms = ms.filter OutMsg.isNotice := by
  unfold noticesOf
  refine List.filter_congr fun m _ => ?_
  cases m <;> rfl

theorem State.noting_eq (s t : State) : s.noting t =
    { s.setLink .p ((s.link .p).placed (noticesOf ((s.link .p).joined (t.link .p)))) with als := t.als } := rfl

/-- `t` is `s` after changes of its alarm list: the list, and notices placed at port P. -/
def State.Noted (s t : State) : Prop :=
  ∃ ms : List OutMsg, (∀ m ∈ ms, m.isNotice = true) ∧ t = { s.setLink .p ((s.link .p).placed ms) with als := t.als }

namespace State.Noted

theorem refl (s : State) : s.Noted s := ⟨[], by simp, by simp⟩

theorem trans {s t u : State} (h : s.Noted t) (h' : t.Noted u) : s.Noted u := by
  obtain ⟨ms, hms, ht⟩ := h
  obtain ⟨ns, hns, hu⟩ := h'
  refine ⟨ms ++ ns, fun m hm => (List.mem_append.1 hm).elim (hms m) (hns m), ?_⟩
  have hlink : t.link .p = (s.link .p).placed ms := by
    rw [ht]
    exact (s.link_setLink .p .p _).trans (if_pos rfl)
  rw [hu, hlink, ht, Link.placed_placed]
  simp [State.setLink]

/-- What neither the alarm list nor port P's link is read for stays. -/
theorem keeps {β : Type} (f : State → β) (hf : ∀ (s : State) (l : Link) (a : Als), f { s.setLink .p l with als := a } = f s)
    {s t : State} (h : s.Noted t) : f t = f s := by
  obtain ⟨ms, -, ht⟩ := h
  rw [ht]
  exact hf s _ _

theorem als (s : State) (a : Als) : s.Noted { s with als := a } := ⟨[], by simp, by simp⟩

theorem offer (s : State) (n : Notice) : s.Noted (s.offer .p (.notice n)) := by
  refine ⟨if (s.link .p).hasRoom then [.notice n] else [], ?_, ?_⟩
  · split <;> simp [OutMsg.isNotice]
  · rw [State.offer, Link.offer_eq_placed]

theorem notify (s : State) (l : List Notice) : s.Noted (s.notify l) := by
  induction l generalizing s with
  | nil => exact refl s
  | cons n rest ih => exact (offer s n).trans (ih _)

theorem alarm (s : State) (r : Als × List Notice) : s.Noted (s.alarm r) := (als s r.1).trans (notify _ r.2)

theorem raise (s : State) (k : AlarmKey) : s.Noted (s.raise k) := alarm s _

theorem event (s : State) (k : AlarmKey) : s.Noted (s.event k) := alarm s _

theorem clear (s : State) (k : AlarmKey) : s.Noted (s.clear k) := by
  unfold State.clear
  split
  · exact alarm s _
  · exact refl s

theorem keep (s : State) (k : AlarmKey) (b : Bool) : s.Noted (s.keep k b) := by
  unfold State.keep
  split
  · split
    · exact refl s
    · exact raise s k
  · exact clear s k

theorem judgeSensor (s : State) (a : Nat) : s.Noted (s.judgeSensor a) := by
  unfold State.judgeSensor
  split
  · exact keep s _ _
  · exact refl s

theorem judgeSensors (s : State) : s.Noted s.judgeSensors := by
  have hall (l : List Nat) (u : State) : u.Noted (l.foldl State.judgeSensor u) := by
    induction l generalizing u with
    | nil => exact refl u
    | cons a l ih => exact (judgeSensor u a).trans (ih _)
  exact hall _ s

/-- The frame may be taken before the changes or after them. -/
theorem of_pull {s u : State} {q : Port} (h : (s.pull q).Noted u) : ∃ t, s.Noted t ∧ u = t.pull q := by
  obtain ⟨ms, hms, hu⟩ := h
  refine ⟨{ s.setLink .p ((s.link .p).placed ms) with als := u.als }, ⟨ms, hms, rfl⟩, ?_⟩
  rw [hu]
  dsimp only
  by_cases hq : q = .p
  · subst hq
    simp [State.pull, State.setLink, State.link, Link.placed_pulled]
  · have hlink : (s.pull q).link .p = s.link .p := by simp [State.pull, Ne.symm hq]
    rw [hlink]
    simp [State.pull, State.setLink, State.link, PerPort.set_comm s.sli.links hq, hq]

/-- The changes are the ones that a later state `t` shows, when nothing but them and other messages joined port P's
queue until then. -/
theorem eq_noting {s u t : State} (h : s.Noted u) (hals : t.als = u.als)
    (hjoined : noticesOf ((s.link .p).joined (t.link .p)) = noticesOf ((s.link .p).joined (u.link .p))) :
    u = s.noting t := by
  obtain ⟨ms, hms, hu⟩ := h
  have hlink : u.link .p = (s.link .p).placed ms := by
    rw [hu]
    exact (s.link_setLink .p .p _).trans (if_pos rfl)
  have hnotices : noticesOf ((s.link .p).joined (t.link .p)) = ms := by
    rw [hjoined, hlink, Link.joined_placed, noticesOf_eq, List.filter_eq_self.2 hms]
  rw [State.noting_eq, hnotices, hals]
  exact hu

/-- The state after a frame is taken beside the changes and answered with another message than a notice shows them
(R157, R174). -/
theorem eq_noting_replied {s u t : State} (h : s.Noted u) {q : Port} {m : OutMsg} (hm : m.isNotice = false)
    (hals : t.als = u.als) (hlink : t.link .p = (u.replied q m).link .p) : u = s.noting t := by
  refine h.eq_noting hals ?_
  obtain ⟨ms, hms, hu⟩ := h
  have hlink' : u.link .p = (s.link .p).placed ms := by
    rw [hu]
    exact (s.link_setLink .p .p _).trans (if_pos rfl)
  rw [hlink]
  by_cases hq : q = .p
  · subst hq
    have hreplied : (u.replied .p m).link .p = { u.link .p with inbound := (u.link .p).inbound.tail }.placed [m] := by
      rw [State.replied, State.link_setLink, if_pos rfl]
      rfl
    have hplaced := Link.placed_pulled (u.link .p) [m] (u.link .p).inbound.tail (u.link .p).reserved
    have hjoined : (s.link .p).joined ((u.replied .p m).link .p) = ms ++ [m] := by
      rw [hreplied, ← Link.joined_placed (s.link .p) (ms ++ [m]), ← Link.placed_placed, ← hlink']
      exact Link.joined_congr (congrArg Link.queue hplaced :) (congrArg Link.sending hplaced :)
    rw [hjoined, hlink', Link.joined_placed, noticesOf_eq, noticesOf_eq, List.filter_append]
    simp [hm]
  · rw [State.replied, State.link_setLink, if_neg (Ne.symm hq)]

end State.Noted

/-- A frame command whose handling updates the state to `x`, judges alarms and answers: what becomes of it is `x` with
the changes of the alarm list that the state after it shows, the frame taken and answered, and the evaluator choosing. -/
theorem exec_answers_noted {c : Instr} {s x u : State} {q : Port} {k : Byte} {p : List Byte} {m : OutMsg}
    {handle : List Byte → State → State × Reply} (hc : exec c s = .next (serve q k handle s).takeJob)
    (h : s.takes q k p) (hl : lengthOk k p = true) (hm : handle p (s.pull q) = (u, .say m)) (hu : (x.pull q).Noted u)
    (hnotice : m.isNotice = false) :
    let t := (u.answer q (.say m)).takeJob
    exec c s = .next t ∧ t = ((x.noting t).replied q m).takeJob := by
  intro t
  obtain ⟨y, hy, rfl⟩ := hu.of_pull
  have ht : t = (y.replied q m).takeJob := by rw [← State.answer_pull y q m]
  have hnoting : y = x.noting t := hy.eq_noting_replied (q := q) hnotice (by simp [ht]) (by simp [ht])
  exact ⟨by rw [hc, serve_takes h hl, hm], by rw [← hnoting, ht]⟩

end Sys2Proof.Machine
end

section
/-!
SENSOR_FAULT judged over any alarm list that names each held condition once (R129): it is held exactly while it stands.
-/

namespace Sys2Proof.Machine

set_option Elab.async false

/-! ### The conditions held, each once (R152, assumption 12) -/

theorem State.raise_held_nodup {s : State} (h : s.als.held.Nodup) (k : AlarmKey) : (s.raise k).als.held.Nodup := by
  rw [State.raise_held]
  split
  next => exact h
  next hk => exact List.Nodup.append h (List.nodup_singleton k) (by simpa using hk)

theorem State.clear_held_nodup {s : State} (h : s.als.held.Nodup) (k : AlarmKey) : (s.clear k).als.held.Nodup := by
  rw [State.clear_held]
  exact h.erase k

theorem State.keep_held_nodup {s : State} (h : s.als.held.Nodup) (k : AlarmKey) (b : Bool) :
    (s.keep k b).als.held.Nodup := by
  unfold State.keep
  split
  · split
    · exact h
    · exact State.raise_held_nodup h k
  · exact State.clear_held_nodup h k

/-- A clear leaves every other condition as it was. -/
theorem State.mem_held_clear_of_ne {s : State} {k j : AlarmKey} (h : j ≠ k) : j ∈ (s.clear k).als.held ↔ j ∈ s.als.held := by
  rw [State.clear_held]
  exact List.mem_erase_of_ne h

/-- A condition kept raised while it holds leaves every other one as it was. -/
theorem State.mem_held_keep_of_ne {s : State} {k j : AlarmKey} (h : j ≠ k) (b : Bool) :
    j ∈ (s.keep k b).als.held ↔ j ∈ s.als.held := by
  unfold State.keep
  split
  · split
    · rfl
    · rw [State.mem_held_raise]
      exact or_iff_left h
  · exact State.mem_held_clear_of_ne h

/-- A condition kept raised while it holds is held exactly while it holds. -/
theorem State.mem_held_keep_self {s : State} (h : s.als.held.Nodup) (k : AlarmKey) (b : Bool) :
    k ∈ (s.keep k b).als.held ↔ b = true := by
  unfold State.keep
  cases b with
  | true =>
    by_cases hk : k ∈ s.als.held
    · simp [hk]
    · simp [hk, State.mem_held_raise]
  | false => simp [State.not_mem_held_clear k h]

/-! ### SENSOR_FAULT (R129) -/

theorem State.judgeSensor_held_nodup {s : State} (h : s.als.held.Nodup) (a : Nat) : (s.judgeSensor a).als.held.Nodup := by
  unfold State.judgeSensor
  split
  · exact State.keep_held_nodup h _ _
  · exact h

/-- The judgement of a tank leaves every condition but its own SENSOR_FAULT as it was. -/
theorem State.mem_held_judgeSensor_of_ne {s : State} {a : Nat} {j : AlarmKey} (h : j ≠ ⟨.sensorFault, .addr a⟩) :
    j ∈ (s.judgeSensor a).als.held ↔ j ∈ s.als.held := by
  unfold State.judgeSensor
  split
  · exact State.mem_held_keep_of_ne h _
  · rfl

theorem State.mem_held_judgeSensor_self {s : State} (h : s.als.held.Nodup) {a : Nat} {d : TankDef}
    (hd : s.tables.tank a = some d) :
    (⟨.sensorFault, .addr a⟩ : AlarmKey) ∈ (s.judgeSensor a).als.held ↔ s.sensorFaulty a d := by
  unfold State.judgeSensor
  rw [hd]
  exact (State.mem_held_keep_self h _ _).trans (s.sensorFault_iff a d)

/-- The judgement of a tank changes nothing that the condition of SENSOR_FAULT is read from. -/
theorem State.Noted.sensorFaulty_iff {s t : State} (h : s.Noted t) (a : Nat) (d : TankDef) :
    t.sensorFaulty a d ↔ s.sensorFaulty a d := iff_of_eq (h.keeps (State.sensorFaulty · a d) fun _ _ _ => rfl)

theorem State.Noted.tables_eq {s t : State} (h : s.Noted t) : t.tables = s.tables := h.keeps State.tables fun _ _ _ => rfl

theorem State.Noted.ct_eq {s t : State} (h : s.Noted t) : t.ct = s.ct := h.keeps State.ct fun _ _ _ => rfl

/-- Neither does the answer to a frame, nor the choice of a job. -/
theorem State.sensorFaulty_answered (s : State) (q : Port) (m : OutMsg) (a : Nat) (d : TankDef) :
    (s.answer q (.say m)).takeJob.sensorFaulty a d ↔ s.sensorFaulty a d :=
  State.sensorFaulty_congr (by rw [State.takeJob_tgt]; rfl) (by rw [State.takeJob_tgt]; rfl)
    (by rw [State.takeJob_tgt]; rfl) (by rw [State.takeJob_ct]; rfl) (by rw [State.takeJob_tables]; rfl) a d

theorem State.answered_als (s : State) (q : Port) (m : OutMsg) : (s.answer q (.say m)).takeJob.als = s.als :=
  State.takeJob_als _

/-- SENSOR_FAULT judged for every defined tank (R129). -/
theorem State.mem_held_judgeSensors {s : State} (h : s.als.held.Nodup) {a : Nat} {d : TankDef}
    (hd : s.tables.tank a = some d) :
    (⟨.sensorFault, .addr a⟩ : AlarmKey) ∈ s.judgeSensors.als.held ↔ s.sensorFaulty a d := by
  have hall (l : List Nat) (u : State) (hu : u.als.held.Nodup) (hdu : u.tables.tank a = some d) :
      (⟨.sensorFault, .addr a⟩ : AlarmKey) ∈ (l.foldl State.judgeSensor u).als.held ↔
        if a ∈ l then u.sensorFaulty a d else (⟨.sensorFault, .addr a⟩ : AlarmKey) ∈ u.als.held := by
    induction l generalizing u with
    | nil => simp
    | cons b l ih =>
      have hnoted := State.Noted.judgeSensor u b
      rw [List.foldl_cons, ih _ (State.judgeSensor_held_nodup hu b) (by rw [hnoted.tables_eq]; exact hdu),
        hnoted.sensorFaulty_iff]
      by_cases hal : a ∈ l
      · simp [hal]
      · by_cases hab : a = b
        · subst hab
          simp [hal, State.mem_held_judgeSensor_self hu hdu]
        · have hne : (⟨.sensorFault, .addr a⟩ : AlarmKey) ≠ ⟨.sensorFault, .addr b⟩ := by simpa using hab
          simp [hal, hab, State.mem_held_judgeSensor_of_ne hne]
  exact (hall s.tables.tankAddrs s h hd).trans (by rw [if_pos (Tables.mem_tankAddrs hd)])

end Sys2Proof.Machine
end

section
/-!
The values of a tank table (R25), and SET_MANUAL (R24, R28, R131).
-/

namespace Sys2Proof.Machine

set_option Elab.async false

/-! ### The values of a tank table (R25) -/

/-- The values of a list of table points at a sounding. -/
def tableAt (x : Int) : List TankPoint → TankPoint
  | a :: rest => tankFrom x a rest
  | [] => ⟨0, 0, 0, 0⟩

theorem TankDef.values_eq (d : TankDef) (x : Int) : d.values x = tableAt x d.table := by
  unfold TankDef.values tableAt
  cases d.table <;> rfl

/-- From the second of two rising points on, the first does not count. -/
theorem tableAt_tail {x : Int} {c e : TankPoint} (hce : c.sounding < e.sounding) (hx : e.sounding ≤ x)
    (l : List TankPoint) : tableAt x (c :: e :: l) = tableAt x (e :: l) := by
  show tankFrom x c (e :: l) = tankFrom x e l
  rw [tankFrom, if_neg (by omega), if_neg (by omega)]

/-- From a point of a rising table on, the points below it do not count. -/
theorem tableAt_append {x : Int} {a : TankPoint} {below above : List TankPoint}
    (h : ((below ++ a :: above).map TankPoint.sounding).Pairwise (· < ·)) (hx : a.sounding ≤ x) :
    tableAt x (below ++ a :: above) = tableAt x (a :: above) := by
  induction below with
  | nil => rfl
  | cons c below ih =>
    rw [List.cons_append, List.map_cons, List.pairwise_cons] at h
    obtain ⟨hc, hrest⟩ := h
    refine Eq.trans ?_ (ih hrest)
    cases below with
    | nil => exact tableAt_tail (hc _ (by simp)) hx above
    | cons e below =>
      refine tableAt_tail (hc _ (by simp)) ?_ _
      rw [List.cons_append, List.map_cons, List.pairwise_cons] at hrest
      exact (hrest.1 _ (by simp)).le.trans hx

theorem tableAt_first {x : Int} {a : TankPoint} (hx : x ≤ a.sounding) (above : List TankPoint) :
    tableAt x (a :: above) = a := by
  cases above with
  | nil => rfl
  | cons b above => exact if_pos hx

/-- On a point of a rising table, that point's values (R25). -/
theorem tableAt_point {table : List TankPoint} (h : (table.map TankPoint.sounding).Pairwise (· < ·)) {p : TankPoint}
    (hp : p ∈ table) : tableAt p.sounding table = p := by
  obtain ⟨below, above, rfl⟩ := List.append_of_mem hp
  rw [tableAt_append h le_rfl, tableAt_first le_rfl]

/-- Between two neighbouring points, each value by the rounded proportion (R25). -/
theorem tableAt_between {x : Int} {a b : TankPoint} {below above : List TankPoint}
    (h : ((below ++ a :: b :: above).map TankPoint.sounding).Pairwise (· < ·)) (hax : a.sounding < x)
    (hxb : x < b.sounding) : tableAt x (below ++ a :: b :: above) =
      { sounding := x
        volume := interpolate a.volume b.volume a.sounding b.sounding x
        liqZ := interpolate a.liqZ b.liqZ a.sounding b.sounding x
        inertia := interpolate a.inertia b.inertia a.sounding b.sounding x } := by
  rw [tableAt_append h hax.le]
  show tankFrom x a (b :: above) = _
  rw [tankFrom, if_neg (by omega), if_pos hxb]

/-- The values that a tank table gives, wherever the sounding lies (R25). -/
theorem tankTableValues (d : TankDef) (x : Int) (h : (d.table.map TankPoint.sounding).Pairwise (· < ·)) :
    let gives (volume liqZ inertia : Int) : Prop :=
      (d.values x).volume = volume ∧ (d.values x).liqZ = liqZ ∧ (d.values x).inertia = inertia
    (∀ p ∈ d.table, x = p.sounding → gives p.volume p.liqZ p.inertia) ∧
    (∀ below a b above, d.table = below ++ a :: b :: above → a.sounding < x → x < b.sounding →
      let along (v w : Int) : Int := v + rdiv ((w - v) * (x - a.sounding)) (b.sounding - a.sounding)
      gives (along a.volume b.volume) (along a.liqZ b.liqZ) (along a.inertia b.inertia)) ∧
    (∀ a above, d.table = a :: above → x < a.sounding → gives a.volume a.liqZ a.inertia) ∧
    (∀ below b, d.table = below ++ [b] → b.sounding < x → gives b.volume b.liqZ b.inertia) := by
  intro gives
  have hgives {p : TankPoint} (hp : tableAt x d.table = p) : gives p.volume p.liqZ p.inertia := by
    have hvalues : d.values x = p := (d.values_eq x).trans hp
    exact ⟨congrArg _ hvalues, congrArg _ hvalues, congrArg _ hvalues⟩
  refine ⟨fun p hp hx => hgives (hx ▸ tableAt_point h hp), fun below a b above htable hax hxb => ?_,
    fun a above htable hx => hgives (by rw [htable, tableAt_first hx.le]), fun below b htable hx => hgives ?_⟩
  · rw [htable] at h
    exact hgives ((congrArg (tableAt x) htable).trans (tableAt_between h hax hxb))
  · rw [htable] at h ⊢
    rw [tableAt_append h hx.le]
    rfl

/-! ### SET_MANUAL (R28, R131) -/

/-- The state after a manual sounding is written, before SENSOR_LOST and SENSOR_FAULT are judged: the tank's fields, the
serial, the channel's candidate, the release mark and the hold timer. -/
def State.manualWritten (s : State) (a : Nat) (d : TankDef) (live : TankLive) (v : Int) : State :=
  let p := d.values v
  let w := rdiv (p.volume * live.density) 100000
  { s with
    ct := { s.ct with
      tanks := adjust s.ct.tanks a fun _ =>
        ⟨v, .manual, live.density, p.volume, p.liqZ, p.inertia, w, live.inTransfer⟩
      serial := if live.weight = w ∧ live.liqZ = p.liqZ ∧ live.inertia = p.inertia then s.ct.serial
        else s.ct.serial + 1 }
    tgt := { s.tgt with
      chans := (match d.channel with
        | some ch => adjust s.tgt.chans ch fun c => { c with candidate := none }
        | none => s.tgt.chans)
      gauges := adjust s.tgt.gauges a fun _ => ⟨false, none⟩ } }

/-- A manual sounding is written, then the tank's alarms are judged. -/
theorem State.setManual_eq {s : State} {a : Nat} {live : TankLive} (h : s.tank a = some live) (d : TankDef) (v : Int) :
    s.setManual a d v = ((s.manualWritten a d live v).clear ⟨.sensorLost, .addr a⟩).judgeSensor a := by
  have hdiffers : live.differs (TankLive.derive d { live with sounding := v, source := .manual }) = true ↔
      ¬ (live.weight = rdiv ((d.values v).volume * live.density) 100000 ∧ live.liqZ = (d.values v).liqZ ∧
        live.inertia = (d.values v).inertia) := by
    simp only [TankLive.derive_eq, TankLive.differs, ne_eq, reduceCtorEq, not_false_eq_true, if_true, Bool.or_eq_true,
      bne_iff_ne, not_and_or, or_assoc]
  have hsound : s.sound a d v .manual =
      { s with ct := (s.manualWritten a d live v).ct } := by
    unfold State.sound State.manualWritten
    rw [h]
    simp only [hdiffers]
    split
    next => simp only [TankLive.derive_eq]; rfl
    next heq => simp only [if_pos (not_not.1 heq), TankLive.derive_eq]; rfl
  unfold State.setManual State.endHold
  rw [hsound]
  unfold State.dropCandidate State.manualWritten
  cases d.channel <;> rfl

/-- Settles O31: the values of a tank table; and the octet names a tank or is refused, the sounding is written, and the
tank's alarms are judged. -/
theorem setManualWritesTheSounding : Obligations.SetManualWritesTheSounding := by
  refine ⟨tankTableValues, ?_⟩
  intro s a v ha hv ht refused
  have hf0 : field (octetsN 1 a ++ octets 3 v) 0 1 = a := field_octetsN_append 1 a _ ha
  have hf1 : fieldU (octetsN 1 a ++ octets 3 v) 1 3 = v := by
    rw [fieldU_append_right _ _ _ _ (by simp), octetsN_length]
    exact fieldU_octets_end v hv
  have hlen : lengthOk kSetManual (octetsN 1 a ++ octets 3 v) = true := by simp [lengthOk, fixedLength]
  have hexec {u : State} {m : OutMsg} := exec_answers (c := .setManual) (u := u) (m := m) rfl ht hlen
  simp only [setManualReply, hf0, hf1, State.pull_tankAt, s.tankAt_eq ha] at hexec
  split
  next hbad => exact hexec (by rw [if_pos hbad]; rfl)
  next hok =>
    simp only [if_neg hok] at hexec
    cases hd : s.tables.tank a with
    | none => exact hexec (by rw [hd]; rfl)
    | some d =>
      intro live hlive hdepth stored p w serial
      have hstored : clamp 0 d.depth v = stored := by
        rw [clamp_eq_max_min hdepth]
        have := hv.1
        omega
      have hlive' : (s.pull .p).tank a = some live := hlive
      simp only [hd, hstored, State.setManual_eq hlive'] at hexec
      generalize hx : s.manualWritten a d live stored = x
      have hpull : (s.pull .p).manualWritten a d live stored = x.pull .p := by rw [← hx]; rfl
      generalize hcleared : (x.pull .p).clear ⟨.sensorLost, .addr a⟩ = y
      have hxy : (x.pull .p).Noted y := hcleared ▸ State.Noted.clear _ _
      have hnoted : (x.pull .p).Noted (y.judgeSensor a) := hxy.trans (State.Noted.judgeSensor _ _)
      have hdy : y.tables.tank a = some d := by rw [hxy.tables_eq, ← hd, ← hx]; rfl
      have hheld : (x.pull .p).als.held = s.als.held := by rw [← hx]; rfl
      have hserial : (y.judgeSensor a).ct.serial = serial := by rw [hnoted.ct_eq, ← hx]; rfl
      have hreply : setManualReply (octetsN 1 a ++ octets 3 v) (s.pull .p) =
          (y.judgeSensor a, .say (.done kSetManual (.stored serial stored))) := by
        simp only [setManualReply, hf0, hf1, State.pull_tankAt, s.tankAt_eq ha, if_neg hok, hd, hstored,
          State.setManual_eq hlive', hpull, hcleared, hserial]
        rfl
      obtain ⟨hnext, hnoting⟩ := exec_answers_noted (c := .setManual) rfl ht hlen hreply hnoted rfl
      refine ⟨_, hnext, hnoting.trans (by rw [← hx]; rfl), fun hn => ?_, fun hn => ?_⟩
      · rw [State.answered_als, State.mem_held_judgeSensor_of_ne (by simp), ← hcleared]
        exact State.not_mem_held_clear _ (hheld ▸ hn)
      · have hny : y.als.held.Nodup := by
          rw [← hcleared]
          exact State.clear_held_nodup (hheld ▸ hn) _
        rw [State.answered_als, State.sensorFaulty_answered, (State.Noted.judgeSensor y a).sensorFaulty_iff]
        exact State.mem_held_judgeSensor_self hny hdy

end Sys2Proof.Machine
end

section
/-!
Channels that leave the sweep (R26, R123, R130), and what that brings their tanks.
-/

namespace Sys2Proof.Machine

set_option Elab.async false

/-- A tank whose channel leaves the sweep: SENSOR goes to HELD (R26). -/
def TankLive.left (t : TankLive) : TankLive := if t.source = .sensor then { t with source := .held } else t

/-- The gauge of a tank whose channel leaves the sweep: the release mark clears, and a SENSOR tank's hold timer starts,
but for the start-up (R123, R130, R137). -/
def State.gaugeLeft (s : State) (a : Nat) (g : TankGauge) : TankGauge :=
  ⟨false, if (s.tank a).any (fun t => t.source == .sensor) ∧ s.hds.mode ≠ .starting then
    some (s.now + s.settings.holdLimit * 1000) else g.hold⟩

/-- Whether one of the channels is the one that a tank names. -/
def Tables.leaves (t : Tables) (chans : List Nat) (a : Nat) : Bool :=
  chans.any fun ch => (t.tankOf ch).map Prod.fst == some a

/-- `t` is `s` after channels left the sweep. -/
structure State.LeftSweep (s t : State) (chans : List Nat) : Prop where
  rest : t = { s with
    ct := { s.ct with tanks := t.ct.tanks }
    tgt := { s.tgt with chans := t.tgt.chans, gauges := t.tgt.gauges } }
  chan : ∀ ch, lookup t.tgt.chans ch =
    if ch ∈ chans then (lookup s.tgt.chans ch).map fun _ => ⟨.unswept, none, none⟩ else lookup s.tgt.chans ch
  tank : ∀ a, lookup t.ct.tanks a =
    if s.tables.leaves chans a = true then (lookup s.ct.tanks a).map TankLive.left else lookup s.ct.tanks a
  gauge : ∀ a, lookup t.tgt.gauges a =
    if s.tables.leaves chans a = true then (lookup s.tgt.gauges a).map (s.gaugeLeft a) else lookup s.tgt.gauges a

@[simp] theorem TankLive.left_left (t : TankLive) : t.left.left = t.left := by
  unfold TankLive.left
  by_cases h : t.source = .sensor <;> simp [h]

theorem TankLive.left_source (t : TankLive) : t.left.source ≠ .sensor := by
  unfold TankLive.left
  split
  · nofun
  · assumption

/-! ### The hold of a tank (R26, R126, R130) -/

theorem State.holdTank_rest (s : State) (b : Nat) : s.holdTank b = { s with
    ct := { s.ct with tanks := (s.holdTank b).ct.tanks }
    tgt := { s.tgt with gauges := (s.holdTank b).tgt.gauges } } := by
  unfold State.holdTank State.startHold
  split
  · split
    · split <;> rfl
    · rfl
  · rfl

theorem State.lookup_holdTank_tanks (s : State) (b a : Nat) : lookup (s.holdTank b).ct.tanks a =
    if a = b then (lookup s.ct.tanks b).map TankLive.left else lookup s.ct.tanks a := by
  unfold State.holdTank State.startHold
  by_cases hab : a = b
  · subst hab
    cases h : lookup s.ct.tanks a with
    | none => simp [State.tank, h]
    | some t =>
      by_cases hsensor : t.source = .sensor
      · by_cases hmode : s.hds.mode = .starting <;>
          simp [State.tank, h, hsensor, hmode, State.onTank, State.onGauge, TankLive.left]
      · simp [State.tank, h, hsensor, TankLive.left]
  · split
    · split
      · split <;> simp [State.onTank, State.onGauge, hab]
      · rfl
    · exact (if_neg hab).symm

theorem State.lookup_holdTank_gauges (s : State) (b a : Nat) : lookup (s.holdTank b).tgt.gauges a =
    if a = b then (lookup s.tgt.gauges b).map (fun g => { g with hold := (s.gaugeLeft b g).hold })
    else lookup s.tgt.gauges a := by
  unfold State.holdTank State.startHold
  by_cases hab : a = b
  · subst hab
    cases h : s.tank a with
    | none => cases lookup s.tgt.gauges a <;> simp [State.gaugeLeft, h]
    | some t =>
      by_cases hsensor : t.source = .sensor
      · by_cases hmode : s.hds.mode = .starting
        · cases hg : lookup s.tgt.gauges a <;> simp [State.gaugeLeft, h, hsensor, hmode, State.onTank, hg]
        · cases hg : lookup s.tgt.gauges a <;>
            simp [State.gaugeLeft, h, hsensor, hmode, State.onTank, State.onGauge, State.settings, hg]
      · cases hg : lookup s.tgt.gauges a <;> simp [State.gaugeLeft, h, hsensor, hg]
  · split
    · split
      · split <;> simp [State.onTank, State.onGauge, hab]
      · rfl
    · exact (if_neg hab).symm

/-! ### The channels that leave (R123) -/

theorem Tables.leaves_singleton (t : Tables) (ch a : Nat) :
    t.leaves [ch] a = true ↔ (t.tankOf ch).map Prod.fst = some a := by simp [Tables.leaves]

theorem Tables.leaves_cons (t : Tables) (ch : Nat) (chans : List Nat) (a : Nat) :
    t.leaves (ch :: chans) a = (t.leaves [ch] a || t.leaves chans a) := by simp [Tables.leaves]

/-- One channel leaves the sweep. -/
theorem State.leaveSweep_left (s : State) (ch : Nat) : s.LeftSweep (s.leaveSweep ch) [ch] := by
  unfold State.leaveSweep
  cases htank : s.tables.tankOf ch with
  | none =>
    refine ⟨rfl, fun j => ?_, fun a => ?_, fun a => ?_⟩ <;>
      simp +contextual [State.onChan, htank, Tables.leaves_singleton]
  | some e =>
    obtain ⟨b, d⟩ := e
    have hleaves (a : Nat) : s.tables.leaves [ch] a = true ↔ a = b := by
      rw [Tables.leaves_singleton, htank]
      simp [eq_comm]
    dsimp only
    generalize hx : (s.onChan ch fun _ => ⟨.unswept, none, none⟩).onGauge b (fun g => { g with release := false }) = x
    have htanks : x.ct.tanks = s.ct.tanks := by rw [← hx]; rfl
    have hleft (g : TankGauge) : x.gaugeLeft b g = s.gaugeLeft b g := by rw [← hx]; rfl
    refine ⟨?_, fun j => ?_, fun a => ?_, fun a => ?_⟩
    · rw [State.holdTank_rest, ← hx]
      rfl
    · rw [State.holdTank_rest, ← hx]
      simp +contextual [State.onChan, State.onGauge]
    · rw [State.lookup_holdTank_tanks, htanks]
      by_cases hab : a = b <;> simp [hleaves, hab]
    · rw [State.lookup_holdTank_gauges]
      simp only [hleaves, hleft]
      rw [← hx]
      by_cases hab : a = b
      · cases hg : lookup s.tgt.gauges b <;> simp [hab, State.onGauge, State.onChan, State.gaugeLeft, hg]
      · simp [hab, State.onGauge, State.onChan]

/-- Channels that leave one after another leave together. -/
theorem State.LeftSweep.cons {s u t : State} {ch : Nat} {chans : List Nat} (h : s.LeftSweep u [ch])
    (h' : u.LeftSweep t chans) : s.LeftSweep t (ch :: chans) := by
  obtain ⟨hrest, hchan, htank, hgauge⟩ := h
  obtain ⟨hrest', hchan', htank', hgauge'⟩ := h'
  have htables : u.tables = s.tables := by rw [hrest]; rfl
  have hleft (a : Nat) (h : s.tables.leaves [ch] a = true) (g : TankGauge) :
      u.gaugeLeft a (s.gaugeLeft a g) = s.gaugeLeft a g := by
    have hsource : (u.tank a).any (fun t => t.source == .sensor) = false := by
      rw [State.tank, htank, if_pos h]
      cases lookup s.ct.tanks a with
      | none => rfl
      | some t => simpa using t.left_source
    simp [State.gaugeLeft, hsource]
  have hother (a : Nat) (h : ¬ s.tables.leaves [ch] a = true) (g : TankGauge) : u.gaugeLeft a g = s.gaugeLeft a g := by
    have hlive : u.tank a = s.tank a := (htank a).trans (if_neg h)
    rw [State.gaugeLeft, hlive, hrest]
    rfl
  have hcons (a : Nat) := s.tables.leaves_cons ch chans a
  refine ⟨by rw [hrest', hrest], fun j => ?_, fun a => ?_, fun a => ?_⟩
  · rw [hchan', hchan]
    by_cases h1 : j = ch <;> by_cases h2 : j ∈ chans <;> simp [h1, h2, Function.comp_def]
  · rw [htank', htank, htables, hcons]
    by_cases h1 : s.tables.leaves [ch] a = true <;> by_cases h2 : s.tables.leaves chans a = true <;>
      simp [h1, h2, Function.comp_def]
  · rw [hgauge', hgauge, htables, hcons]
    by_cases h1 : s.tables.leaves [ch] a = true <;> by_cases h2 : s.tables.leaves chans a = true
    · cases lookup s.tgt.gauges a <;> simp [h1, h2, hleft a h1]
    · simp [h1, h2]
    · cases lookup s.tgt.gauges a <;> simp [h1, h2, hother a h1]
    · simp [h1, h2]

/-- Each channel of a list leaves the sweep. -/
theorem State.foldl_leaveSweep_left (s : State) (chans : List Nat) :
    s.LeftSweep (chans.foldl State.leaveSweep s) chans := by
  induction chans generalizing s with
  | nil => exact ⟨rfl, by simp, by simp [Tables.leaves], by simp [Tables.leaves]⟩
  | cons ch chans ih => exact (s.leaveSweep_left ch).cons (ih _)

/-- What it brings that channels leave the active set (R26, R123, R130). -/
theorem State.LeftSweep.leavesSweep {s t : State} {chans : List Nat} (h : s.LeftSweep t chans) :
    s.leavesSweep t (· ∈ chans) s.now := by
  obtain ⟨hrest, hchan, htank, hgauge⟩ := h
  refine ⟨fun ch => ⟨fun hout => ?_, fun hin hsome => ?_⟩, fun a => ?_⟩
  · rw [hchan, if_neg hout]
  · rw [hchan, if_pos hin]
    obtain ⟨c, hc⟩ := Option.isSome_iff_exists.1 hsome
    rw [hc]
    rfl
  · have hleaves : s.tables.leaves chans a = true ↔ ∃ ch d, ch ∈ chans ∧ s.tables.tankOf ch = some (a, d) := by
      simp [Tables.leaves]
    intro leaves
    refine ⟨fun hout => ⟨?_, ?_⟩, fun hin live hlive => ⟨fun hsensor => ⟨?_, fun hsome => ?_⟩, fun hother => ⟨?_, ?_⟩⟩⟩
    · rw [htank, if_neg (hout ∘ hleaves.1)]
    · rw [Tgt.gauge, hgauge, if_neg (hout ∘ hleaves.1), Tgt.gauge]
    · rw [htank, if_pos (hleaves.2 hin), hlive]
      simp [TankLive.left, hsensor]
    · obtain ⟨g, hg⟩ := Option.isSome_iff_exists.1 hsome
      rw [Tgt.gauge, Tgt.gauge, hgauge, if_pos (hleaves.2 hin), hg]
      by_cases hmode : s.hds.mode = .starting <;> simp [State.gaugeLeft, State.tank, hlive, hsensor, hmode]
    · rw [htank, if_pos (hleaves.2 hin), hlive]
      simp [TankLive.left, hother]
    · rw [Tgt.gauge, Tgt.gauge, hgauge, if_pos (hleaves.2 hin)]
      cases lookup s.tgt.gauges a <;> simp [State.gaugeLeft, State.tank, hlive, hother]

end Sys2Proof.Machine
end

section
/-!
SET_SETTING on Console Services' own settings (R34, R124, R167).
-/

namespace Sys2Proof.Machine

set_option Elab.async false

/-! ### Storing one setting (R167) -/

theorem clampNat_eq_max_min {lo hi : Nat} (h : lo ≤ hi) (v : Nat) : clampNat lo hi v = max lo (min hi v) := by
  unfold clampNat
  split
  · omega
  · split <;> omega

/-- The draught limit keeps 0 (R167). -/
theorem clampDraught_eq (v : Nat) : clampDraught v = if v = 0 then 0 else max 1000 (min 20000 v) := by
  unfold clampDraught
  rw [clampNat_eq_max_min (by decide)]

/-- Storing one setting leaves the value of every other: each identifier reads the field that it alone stores. -/
theorem Settings.store_value_of_ne {t u : Settings} {v id : Nat} (h : t.store v id = some u) {j : Nat} (hj : j ≠ id) :
    u.value j = t.value j := by
  unfold Settings.store at h
  split at h
  case h_13 =>
    split at h
    · cases h
      unfold Settings.value
      split <;> trivial
    · split at h
      · cases h
        unfold Settings.value
        split <;> trivial
      · cases h
  case h_15 => cases h
  all_goals
    cases h
    unfold Settings.value
    split <;> trivial

/-- A numeric setting is stored clamped to its range (R167). -/
theorem Settings.store_numeric (t : Settings) {id lo hi : Nat} (h : (id, lo, hi) ∈ numericSettings) (v : Nat) :
    ∃ u, t.store v id = some u ∧ u.value id = some (if id = 12 ∧ v = 0 then 0 else max lo (min hi v)) := by
  have hrange : lo ≤ hi := by
    have hall : ∀ e ∈ numericSettings, e.2.1 ≤ e.2.2 := by decide
    exact hall _ h
  have hvalue : (if id = 12 ∧ v = 0 then 0 else max lo (min hi v)) =
      if id = 12 then clampDraught v else clampNat lo hi v := by
    by_cases hdraught : id = 12
    · subst hdraught
      have hbounds : lo = 1000 ∧ hi = 20000 := by simpa [numericSettings] using h
      simp [hbounds, clampDraught_eq]
    · simp [hdraught, clampNat_eq_max_min hrange]
  rw [hvalue]
  simp only [numericSettings, List.mem_cons, Prod.mk.injEq, List.not_mem_nil, or_false] at h
  rcases h with ⟨rfl, rfl, rfl⟩ | ⟨rfl, rfl, rfl⟩ | ⟨rfl, rfl, rfl⟩ | ⟨rfl, rfl, rfl⟩ | ⟨rfl, rfl, rfl⟩ | ⟨rfl, rfl, rfl⟩ |
    ⟨rfl, rfl, rfl⟩ | ⟨rfl, rfl, rfl⟩ | ⟨rfl, rfl, rfl⟩ | ⟨rfl, rfl, rfl⟩ | ⟨rfl, rfl, rfl⟩ | ⟨rfl, rfl, rfl⟩ <;>
  exact ⟨_, rfl, rfl⟩

/-- The strength set, 0 or 1, is stored (R73, R167). -/
theorem Settings.store_strength (t : Settings) {v : Nat} (h : ¬ 1 < v) :
    ∃ u, t.store v 13 = some u ∧ u.value 13 = some v := by
  obtain rfl | rfl : v = 0 ∨ v = 1 := by omega
  · exact ⟨_, rfl, rfl⟩
  · exact ⟨_, rfl, rfl⟩

theorem Settings.store_strength_refused (t : Settings) {v : Nat} (h : 1 < v) : t.store v 13 = none := by
  show (if v = 0 then some _ else if v = 1 then some _ else none) = none
  rw [if_neg (by omega), if_neg (by omega)]

/-- An identifier that names no setting of Console Services stores nothing (R167). -/
theorem Settings.store_unknown (t : Settings) (v : Nat) {id : Nat} (h : id < 1 ∨ 14 < id) : t.store v id = none := by
  unfold Settings.store
  split
  case h_15 => rfl
  all_goals omega

theorem Settings.value_13 {t u : Settings} : u.value 13 = t.value 13 ↔ u.strength = t.strength := by
  unfold Settings.value
  cases u.strength <;> cases t.strength <;> simp

theorem Settings.value_12 {t u : Settings} : u.value 12 = t.value 12 ↔ u.draughtLimit = t.draughtLimit := Option.some_inj

theorem Settings.value_5 {t u : Settings} : u.value 5 = t.value 5 ↔ u.mask = t.mask :=
  Option.some_inj.trans BitVec.toNat_inj

/-! ### What the storing brings at once (R34, R124) -/

/-- The settings replaced, and the serial for a new strength set or draught limit (R34). -/
def State.withSettings (s : State) (u : Settings) : State := { s with
  csv := { s.csv with settings := u }
  ct := { s.ct with serial :=
    if u.strength = s.settings.strength ∧ u.draughtLimit = s.settings.draughtLimit then s.ct.serial
    else s.ct.serial + 1 } }

theorem State.storeSettings_eq (s : State) (u : Settings) :
    s.storeSettings u = if u.mask = 0 ∧ s.settings.mask ≠ 0 then (s.withSettings u).stopSweep else s.withSettings u := by
  have hserial : (if u.strength = s.settings.strength ∧ u.draughtLimit = s.settings.draughtLimit then
      { s with csv := { s.csv with settings := u } } else { s with csv := { s.csv with settings := u } }.bump) =
      s.withSettings u := by
    unfold State.withSettings
    split <;> rfl
  rw [← hserial]
  rfl

/-- The serial after a setting is stored: it moves on exactly for a new strength set or draught limit (R34). -/
theorem State.withSettings_serial {s : State} {u : Settings} {v id stored : Nat} (h : s.settings.store v id = some u)
    (hvalue : u.value id = some stored) : (s.withSettings u).ct.serial =
      if (id == 12 || id == 13) && s.settings.value id != some stored then s.ct.serial + 1 else s.ct.serial := by
  have hother {j : Nat} (hj : j ≠ id) : u.value j = s.settings.value j := Settings.store_value_of_ne h hj
  have hsame : (u.strength = s.settings.strength ∧ u.draughtLimit = s.settings.draughtLimit) ↔
      ¬ ((id == 12 || id == 13) && s.settings.value id != some stored) = true := by
    rw [← Settings.value_13, ← Settings.value_12, ← hvalue]
    by_cases h12 : id = 12
    · subst h12
      simpa [hother] using (eq_comm (a := u.value 12))
    · by_cases h13 : id = 13
      · subst h13
        simpa [hother] using (eq_comm (a := u.value 13))
      · simp [h12, h13, hother (Ne.symm h12), hother (Ne.symm h13)]
  show (if _ then _ else _) = _
  simp only [hsame, ite_not]

/-! ### The frame (R167) -/

theorem setSetting_fields {id v : Nat} (hid : id < 256) (hv : v < 2 ^ 40) :
    field (octetsN 1 id ++ octetsN 5 v) 0 1 = id ∧ field (octetsN 1 id ++ octetsN 5 v) 1 5 = v := by
  refine ⟨field_octetsN_append 1 id _ hid, ?_⟩
  rw [field_append_right _ _ _ _ (by simp), octetsN_length]
  exact field_octetsN 5 v (by simpa using hv)

/-- An identifier that names no pairing is one of Console Services' own settings (R167). -/
theorem State.applySetting_eq (s : State) {id : Nat} (h15 : id ≠ 15) (h16 : id ≠ 16) (v : Nat) :
    s.applySetting id v = match s.settings.store v id with
      | some u => .ok (s.storeSettings u)
      | none => .error .badField := by
  have hpair : pairOf id = none := by
    unfold pairOf
    split <;> trivial
  cases hstore : s.settings.store v id <;> simp [State.applySetting, hpair, hstore]

theorem State.settingValue_eq (s : State) {id : Nat} (h15 : id ≠ 15) (h16 : id ≠ 16) :
    s.settingValue id = s.settings.value id := by
  unfold State.settingValue
  split <;> trivial

section
variable {s : State} {id v : Nat} (hid : id < 256) (hv : v < 2 ^ 40)
include hid hv

/-- A value that no setting takes is refused BAD_FIELD. -/
theorem execSetSetting_refused (ht : s.takes .p kSetSetting (octetsN 1 id ++ octetsN 5 v)) (h15 : id ≠ 15) (h16 : id ≠ 16)
    (hstore : s.settings.store v id = none) :
    exec .setSetting s = .next (s.replied .p (.refused kSetSetting .badField)).takeJob := by
  obtain ⟨hf0, hf1⟩ := setSetting_fields hid hv
  have hstore' : (s.pull .p).settings.store v id = none := hstore
  refine exec_answers rfl ht (by simp [lengthOk, fixedLength]) ?_
  rw [setSettingReply, hf0, hf1, State.applySetting_eq _ h15 h16, hstore']
  rfl

/-- A value that is stored, and does not stop the sweep: the setting, the serial, and DONE with the stored value. -/
theorem execSetSetting_stored (ht : s.takes .p kSetSetting (octetsN 1 id ++ octetsN 5 v)) (h15 : id ≠ 15) (h16 : id ≠ 16)
    {u : Settings} {stored : Nat} (hstore : s.settings.store v id = some u) (hvalue : u.value id = some stored)
    (hmask : ¬ (u.mask = 0 ∧ s.settings.mask ≠ 0)) :
    exec .setSetting s = .next ((s.withSettings u).replied .p (.done kSetSetting (.setting id stored))).takeJob := by
  obtain ⟨hf0, hf1⟩ := setSetting_fields hid hv
  have hstore' : (s.pull .p).settings.store v id = some u := hstore
  have hmask' : ¬ (u.mask = 0 ∧ (s.pull .p).settings.mask ≠ 0) := hmask
  refine exec_answers rfl ht (by simp [lengthOk, fixedLength]) ?_
  rw [setSettingReply, hf0, hf1, State.applySetting_eq _ h15 h16, hstore']
  dsimp only
  rw [State.storeSettings_eq, if_neg hmask', State.settingValue_eq _ h15 h16, show ((s.pull .p).withSettings u).settings = u from rfl, hvalue]
  rfl

end

/-! ### A mask that becomes empty (R123, R124, R130) -/

/-- The stop of the sweep: every active channel leaves it, and SENSOR_FAULT is judged (R124, R129). -/
theorem State.stopSweep_eq (s : State) : s.stopSweep =
    (s.tgt.active.foldl State.leaveSweep { s with tgt := { s.tgt with sweep := .idle, active := [] } }).judgeSensors := by
  have hall : (s.tgt.active.filter fun ch => ch ∉ ([] : List Nat)) = s.tgt.active := by simp
  unfold State.stopSweep State.setActive
  dsimp only
  rw [hall]

/-- The state in which an empty mask is stored and the sweep stopped, before the channels leave it. -/
def State.maskEmptied (s : State) : State := { s with
  csv := { s.csv with settings := { s.settings with mask := 0 } }
  tgt := { s.tgt with sweep := .idle, active := [] } }

/-- An empty mask in place of another (R124). -/
theorem State.storeSettings_maskEmptied {s : State} (h : s.settings.mask ≠ 0) :
    s.storeSettings { s.settings with mask := 0 } = (s.tgt.active.foldl State.leaveSweep s.maskEmptied).judgeSensors := by
  have hsame : s.withSettings { s.settings with mask := 0 } =
      { s with csv := { s.csv with settings := { s.settings with mask := 0 } } } := by
    unfold State.withSettings
    rw [if_pos ⟨rfl, rfl⟩]
  rw [State.storeSettings_eq, if_pos ⟨rfl, h⟩, hsame, State.stopSweep_eq]
  rfl

/-- SET_SETTING of an empty mask in place of another: the sweep stops, its channels leave it, and SENSOR_FAULT is
judged. -/
theorem execSetSetting_emptyMask {s : State} {v : Nat} (hv : v < 2 ^ 40)
    (ht : s.takes .p kSetSetting (octetsN 1 5 ++ octetsN 5 v)) (hzero : v % 2 ^ 36 = 0) (hmask : s.settings.mask ≠ 0) :
    ∃ t, exec .setSetting s = .next t ∧
      t = ((({ s with
        csv.settings.mask := 0
        ct.tanks := t.ct.tanks
        tgt.chans := t.tgt.chans
        tgt.gauges := t.tgt.gauges
        tgt.sweep := .idle
        tgt.active := [] }.noting t).replied .p (.done kSetSetting (.setting 5 0)))).takeJob ∧
      s.leavesSweep t (fun ch => ch ∈ s.tgt.active) s.now ∧
      (∀ a d, s.tables.tank a = some d → s.faultJudged t a d) := by
  obtain ⟨hf0, hf1⟩ := setSetting_fields (id := 5) (by decide) hv
  have hempty : BitVec.ofNat 36 v = 0 := BitVec.eq_of_toNat_eq (by rw [BitVec.toNat_ofNat, hzero]; rfl)
  have hleft := (s.pull .p).maskEmptied.foldl_leaveSweep_left s.tgt.active
  generalize hz : s.tgt.active.foldl State.leaveSweep (s.pull .p).maskEmptied = z at hleft
  have hreply : setSettingReply (octetsN 1 5 ++ octetsN 5 v) (s.pull .p) =
      (z.judgeSensors, .say (.done kSetSetting (.setting 5 0))) := by
    have hstore : (s.pull .p).settings.store v 5 = some { (s.pull .p).settings with mask := 0 } := by
      rw [← hempty]
      rfl
    have hvalue : z.judgeSensors.settingValue 5 = some 0 := by
      rw [State.settingValue_eq _ (by decide) (by decide), State.settings, State.judgeSensors_csv, hleft.rest]
      rfl
    rw [setSettingReply, hf0, hf1, State.applySetting_eq _ (by decide) (by decide), hstore]
    dsimp only
    rw [State.storeSettings_maskEmptied (s := s.pull .p) hmask, show (s.pull .p).tgt.active = s.tgt.active from rfl, hz,
      hvalue]
    rfl
  have hpulled : State.pull { s with
      csv.settings.mask := 0
      ct.tanks := z.ct.tanks
      tgt.chans := z.tgt.chans
      tgt.gauges := z.tgt.gauges
      tgt.sweep := .idle
      tgt.active := [] } .p = z := by
    rw [hleft.rest]
    rfl
  have hnoted : z.Noted z.judgeSensors := State.Noted.judgeSensors z
  rw [← hpulled] at hnoted
  obtain ⟨hnext, hnoting⟩ := exec_answers_noted (c := .setSetting) rfl ht (by simp [lengthOk, fixedLength])
    (hreply.trans (by rw [hpulled])) hnoted rfl
  rw [hpulled] at hnext hnoting
  have hals := z.judgeSensors.answered_als .p (.done kSetSetting (.setting 5 0))
  have hfaulty := z.judgeSensors.sensorFaulty_answered .p (.done kSetSetting (.setting 5 0))
  generalize ht : (z.judgeSensors.answer .p (.say (.done kSetSetting (.setting 5 0)))).takeJob = t at *
  have hct : t.ct = z.ct := by
    rw [← ht, State.takeJob_ct]
    exact z.judgeSensors_ct
  have htgt : t.tgt = z.tgt := by
    rw [← ht, State.takeJob_tgt]
    exact z.judgeSensors_tgt
  refine ⟨t, hnext, by rw [hct, htgt]; exact hnoting, ?_, fun a d hd hn => ?_⟩
  · have hleaves := hleft.leavesSweep
    unfold State.leavesSweep at hleaves ⊢
    rw [hct, htgt]
    exact hleaves
  · have hdz : z.tables.tank a = some d := by
      rw [hleft.rest]
      exact hd
    have hnz : z.als.held.Nodup := by
      rw [hleft.rest]
      exact hn
    rw [hals, hfaulty, (State.Noted.judgeSensors z).sensorFaulty_iff]
    exact State.mem_held_judgeSensors hnz hdz

/-- Settles O33: each identifier is refused or stored by its kind, and an empty mask stops the sweep. -/
theorem setSettingStoresTheClampedValue : Obligations.SetSettingStoresTheClampedValue := by
  intro s id v hid hv ht refused stores
  have hrefused (h15 : id ≠ 15) (h16 : id ≠ 16) (h : s.settings.store v id = none) : refused .badField :=
    execSetSetting_refused hid hv ht h15 h16 h
  have hstores {u : Settings} {stored : Nat} {moves : Bool} (h15 : id ≠ 15) (h16 : id ≠ 16)
      (hstore : s.settings.store v id = some u) (hvalue : u.value id = some stored)
      (hmask : ¬ (u.mask = 0 ∧ s.settings.mask ≠ 0)) (hmoves : (id == 12 || id == 13) = moves) : stores stored moves := by
    refine ⟨u, hvalue, fun j hj => Settings.store_value_of_ne hstore hj, ?_⟩
    rw [← hmoves, ← State.withSettings_serial hstore hvalue]
    exact execSetSetting_stored hid hv ht h15 h16 hstore hvalue hmask
  have hkept {u : Settings} (hstore : s.settings.store v id = some u) (h5 : id ≠ 5) : ¬ (u.mask = 0 ∧ s.settings.mask ≠ 0) := by
    rw [Settings.value_5.1 (Settings.store_value_of_ne hstore (Ne.symm h5))]
    exact fun h => h.2 h.1
  refine ⟨fun h => ?_, fun lo hi h => ?_, fun h => ?_, fun h hmask => ?_, fun h hzero hmask => ?_⟩
  · exact hrefused (by omega) (by omega) (Settings.store_unknown _ _ (by omega))
  · have hid' : id ≠ 5 ∧ id ≠ 13 ∧ id ≠ 15 ∧ id ≠ 16 := by
      have hall : ∀ e ∈ numericSettings, e.1 ≠ 5 ∧ e.1 ≠ 13 ∧ e.1 ≠ 15 ∧ e.1 ≠ 16 := by decide
      exact hall _ h
    obtain ⟨h5, h13, h15, h16⟩ := hid'
    obtain ⟨u, hstore, hvalue⟩ := s.settings.store_numeric h v
    exact hstores h15 h16 hstore hvalue (hkept hstore h5) (by simp [h13])
  · subst h
    split
    next hbad => exact hrefused (by decide) (by decide) (s.settings.store_strength_refused hbad)
    next hok =>
      obtain ⟨u, hstore, hvalue⟩ := s.settings.store_strength hok
      exact hstores (by decide) (by decide) hstore hvalue (hkept hstore (by decide)) rfl
  · subst h
    refine hstores (by decide) (by decide) (u := { s.settings with mask := BitVec.ofNat 36 v }) rfl ?_ ?_ rfl
    · exact congrArg some (BitVec.toNat_ofNat v 36)
    · rintro ⟨hempty, hne⟩
      have hzero : v % 2 ^ 36 = 0 := by
        rw [← BitVec.toNat_ofNat, show BitVec.ofNat 36 v = 0 from hempty]
        rfl
      exact hmask.elim (absurd hzero) hne
  · subst h
    exact execSetSetting_emptyMask hv ht hzero hmask

end Sys2Proof.Machine
end

section
/-!
Changes of the alarm list beside updates of the Condition Table and the LCU, and beside a frame of a crane port: they may
be made in any order.
-/

namespace Sys2Proof.Machine

set_option Elab.async false

/-! ### Alarms beside the Condition Table and the LCU -/

theorem State.alarm_withCtLcu (s : State) (ct : CondTable) (lcu : Lcu) (r : Als × List Notice) :
    (s.withCtLcu ct lcu).alarm r = (s.alarm r).withCtLcu ct lcu :=
  State.notify_withCtLcu { s with als := r.1 } ct lcu r.2

theorem State.raise_withCtLcu (s : State) (ct : CondTable) (lcu : Lcu) (k : AlarmKey) :
    (s.withCtLcu ct lcu).raise k = (s.raise k).withCtLcu ct lcu := State.alarm_withCtLcu s ct lcu _

theorem State.keep_withCtLcu (s : State) (ct : CondTable) (lcu : Lcu) (k : AlarmKey) (b : Bool) :
    (s.withCtLcu ct lcu).keep k b = (s.keep k b).withCtLcu ct lcu := by
  unfold State.keep
  cases b with
  | true =>
    by_cases hk : k ∈ s.als.held
    · have hk' : k ∈ (s.withCtLcu ct lcu).als.held := hk
      simp only [if_true, if_pos hk, if_pos hk']
    · have hk' : k ∉ (s.withCtLcu ct lcu).als.held := hk
      simp only [if_true, if_neg hk, if_neg hk', State.raise_withCtLcu]
  | false => exact State.clear_withCtLcu s ct lcu k

theorem State.withCtLcu_self (s : State) : s.withCtLcu s.ct s.lcu = s := rfl

theorem State.Noted.withCtLcu {s t : State} (h : s.Noted t) (ct : CondTable) (lcu : Lcu) :
    (s.withCtLcu ct lcu).Noted (t.withCtLcu ct lcu) := by
  obtain ⟨ms, hms, ht⟩ := h
  refine ⟨ms, hms, ?_⟩
  rw [ht]
  rfl

/-! ### Alarms beside a frame of a crane port -/

theorem State.event_pull (s : State) {q : Port} (h : q ≠ .p) (k : AlarmKey) : (s.pull q).event k = (s.event k).pull q := by
  unfold State.pull
  rw [← State.event_link s k q h]
  exact State.alarm_setLink s h _ _

theorem State.keep_pull (s : State) {q : Port} (h : q ≠ .p) (k : AlarmKey) (b : Bool) :
    (s.pull q).keep k b = (s.keep k b).pull q := by
  unfold State.keep
  rw [State.pull_als, State.raise_pull s h, State.clear_pull s h]
  split
  · split <;> rfl
  · rfl

/-! ### The conditions held (R153) -/

@[simp] theorem Als.event_held (a : Als) (k : AlarmKey) (now : Seconds) : (a.event k now).1.held = a.held := by
  unfold Als.event
  split
  · simp
  · rfl

/-- An event holds no condition raised (R153). -/
@[simp] theorem State.event_held (s : State) (k : AlarmKey) : (s.event k).als.held = s.als.held := by simp [State.event]

end Sys2Proof.Machine
end

section
/-!
HOOK_LANDED (R20, R101 to R103, R106, R111, R115): the end of the lift, the hooks, the lot, and the alarms in their
order.
-/

namespace Sys2Proof.Machine

set_option Elab.async false

/-! ### The alarms of a landing (R101, R111, assumption 41) -/

/-- The load alarms of the cranes of a lift cleared (R101, R111). -/
def State.loadAlarmsCleared (s : State) (c : Crane) (l : Load) : State :=
  if l.tandem.isSome = true then (s.clearLoadAlarms c).clearLoadAlarms (mate c) else s.clearLoadAlarms c

/-- The records after a lift ends: a tandem partner's goes to IDLE with it (R101, R111). -/
def Lcu.liftEnded (lcu : Lcu) (c : Crane) (l : Load) (next : LiftRec) : Lcu :=
  { lcu with recs := if l.tandem.isSome = true then (lcu.recs.set c next).set (mate c) .idle else lcu.recs.set c next }

theorem State.clearLoadAlarms_withCtLcu (s : State) (ct : CondTable) (lcu : Lcu) (c : Crane) :
    (s.withCtLcu ct lcu).clearLoadAlarms c = (s.clearLoadAlarms c).withCtLcu ct lcu := by
  unfold State.clearLoadAlarms
  rw [State.clear_withCtLcu, State.clear_withCtLcu]

/-- The end of a lift: the records, and the load alarms. -/
theorem State.endLift_eq (s : State) (c : Crane) (l : Load) (next : LiftRec) :
    s.endLift c l next = (s.loadAlarmsCleared c l).withCtLcu s.ct (s.lcu.liftEnded c l next) := by
  have hone (u : State) (k : Crane) (r : LiftRec) :
      (u.setLift k r).clearLoadAlarms k = (u.clearLoadAlarms k).withCtLcu u.ct { u.lcu with recs := u.lcu.recs.set k r } :=
    State.clearLoadAlarms_withCtLcu u u.ct _ k
  unfold State.endLift State.loadAlarmsCleared Lcu.liftEnded
  dsimp only
  split
  · rw [hone, hone, State.clearLoadAlarms_withCtLcu]
    rfl
  · exact hone s c next

theorem Lcu.liftEnded_get (lcu : Lcu) (c : Crane) (l : Load) (next : LiftRec) (k : Crane) :
    (lcu.liftEnded c l next).recs.get k =
      if k = mate c ∧ l.tandem.isSome = true then .idle else if k = c then next else lcu.recs.get k := by
  unfold Lcu.liftEnded
  by_cases ht : l.tandem.isSome = true
  · by_cases hk : k = mate c <;> simp [ht, hk]
  · simp [ht]

/-! ### The hooks of a landing (R115) -/

/-- A hook settled: a REPORTED one and its structure are kept; an UNKNOWN one is at the point that the definition gives,
with height 0, and the structure moves with it; no other hook and nothing else changes (R115). -/
structure State.HookSettled (s t : State) (k : Crane) (place : CraneDef → Pt) : Prop where
  rest : t = s.withCtLcu { s.ct with structs := t.ct.structs } { s.lcu with hooks := t.lcu.hooks }
  reported : (s.hook k).source = .reported → t.hook k = s.hook k ∧ t.ct.structs.get k = s.ct.structs.get k
  unknown : (s.hook k).source = .unknown → ∀ d, s.tables.crane k = some d →
    t.hook k = ⟨(place d).x, (place d).y, 0, .reported⟩ ∧ t.ct.structs.get k = some (d.centroid (place d))
  other : ∀ j, j ≠ k → t.hook j = s.hook j ∧ t.ct.structs.get j = s.ct.structs.get j

theorem State.HookSettled.of_reported {s : State} {k : Crane} {place : CraneDef → Pt}
    (h : (s.hook k).source = .reported) : s.HookSettled s k place :=
  ⟨rfl, fun _ => ⟨rfl, rfl⟩, fun hu => absurd (h.symm.trans hu) (by decide), fun _ _ => ⟨rfl, rfl⟩⟩

theorem State.putHook_settled {s : State} {k : Crane} {d : CraneDef} (hd : s.tables.crane k = some d) {place : CraneDef → Pt}
    (h : (s.hook k).source = .unknown) : s.HookSettled (s.putHook k (place d) 0) k place := by
  have hput : s.putHook k (place d) 0 = s.withCtLcu
      { s.ct with structs := s.ct.structs.set k (some (d.centroid (place d))) }
      { s.lcu with hooks := s.lcu.hooks.set k ⟨(place d).x, (place d).y, 0, .reported⟩ } := by
    have hd' : (s.setHook k ⟨(place d).x, (place d).y, 0, .reported⟩).tables.crane k = some d := hd
    unfold State.putHook State.moveStructure
    rw [hd']
    rfl
  rw [hput]
  refine ⟨rfl, fun hr => absurd (h.symm.trans hr) (by decide), fun _ d' hd' => ?_, fun j hj => ?_⟩
  · cases hd.symm.trans hd'
    exact ⟨by simp [State.hook, State.withCtLcu], by simp [State.withCtLcu]⟩
  · exact ⟨by simp [State.hook, State.withCtLcu, hj], by simp [State.withCtLcu, hj]⟩

theorem HookSource.reported_or_unknown (x : HookSource) : x = .reported ∨ x = .unknown := by cases x <;> simp

/-- An UNKNOWN hook goes to its pedestal (R115). -/
theorem State.settleHook_settled (s : State) (k : Crane) : s.HookSettled (s.settleHook k) k CraneDef.pedestal := by
  unfold State.settleHook
  rcases (s.hook k).source.reported_or_unknown with h | h
  · rw [if_neg (by rw [h]; decide)]
    exact .of_reported h
  · rw [if_pos h]
    cases hd : s.tables.crane k with
    | some d => exact State.putHook_settled (place := CraneDef.pedestal) hd h
    | none =>
      refine ⟨rfl, fun hr => absurd (h.symm.trans hr) (by decide), fun _ d hd' => ?_, fun j hj => ?_⟩
      · cases hd.symm.trans hd'
      · exact ⟨by simp [hj], rfl⟩

/-- The hooks after a landing at a point: the landing crane's, and a tandem's upper one (R115). -/
structure State.HooksLanded (s t : State) (c : Crane) (l : Load) (q : Pt) : Prop where
  hook : t.hook c = if (s.hook c).source = .reported then s.hook c else ⟨q.x, q.y, 0, .reported⟩
  own : ((s.hook c).source = .reported → t.hook c = s.hook c ∧ t.ct.structs.get c = s.ct.structs.get c) ∧
    ((s.hook c).source = .unknown → ∀ d, s.tables.crane c = some d →
      t.hook c = ⟨q.x, q.y, 0, .reported⟩ ∧ t.ct.structs.get c = some (d.centroid q))
  upper : l.tandem.isSome = true →
    ((s.hook (mate c)).source = .reported →
      t.hook (mate c) = s.hook (mate c) ∧ t.ct.structs.get (mate c) = s.ct.structs.get (mate c)) ∧
    ((s.hook (mate c)).source = .unknown → ∀ d, s.tables.crane (mate c) = some d →
      t.hook (mate c) = ⟨d.px, d.py, 0, .reported⟩ ∧ t.ct.structs.get (mate c) = some (d.centroid ⟨d.px, d.py⟩))
  other : ∀ k, k ≠ c → ¬ (k = mate c ∧ l.tandem.isSome = true) →
    t.hook k = s.hook k ∧ t.ct.structs.get k = s.ct.structs.get k

/-- They are read from the hooks, the structures and the definitions. -/
theorem State.HooksLanded.of_same {s t s' t' : State} {c : Crane} {l : Load} {q : Pt} (h : s.HooksLanded t c l q)
    (hhooks : s'.lcu.hooks = s.lcu.hooks) (hstructs : s'.ct.structs = s.ct.structs) (htables : s'.tables = s.tables)
    (hhooks' : t'.lcu.hooks = t.lcu.hooks) (hstructs' : t'.ct.structs = t.ct.structs) : s'.HooksLanded t' c l q := by
  obtain ⟨h1, h2, h3, h4⟩ := h
  unfold State.hook at h1 h2 h3 h4
  rw [← hhooks, ← hhooks'] at h1
  rw [← hhooks, ← hhooks', ← hstructs, ← hstructs', ← htables] at h2 h3
  rw [← hhooks, ← hhooks', ← hstructs, ← hstructs'] at h4
  exact ⟨h1, h2, h3, h4⟩

theorem mate_ne (c : Crane) : mate c ≠ c := by cases c <;> decide

/-- What a landing does to the hooks: theirs and the structures' values, and nothing else. -/
theorem State.settleLanding_landed {s : State} {c : Crane} (hc : (s.tables.crane c).isSome = true) (l : Load) (q : Pt) :
    s.HooksLanded (s.settleLanding c l q) c l q ∧ s.settleLanding c l q =
      s.withCtLcu { s.ct with structs := (s.settleLanding c l q).ct.structs }
        { s.lcu with hooks := (s.settleLanding c l q).lcu.hooks } := by
  obtain ⟨d, hd⟩ := Option.isSome_iff_exists.1 hc
  have hown : s.HookSettled (if (s.hook c).source = .unknown then s.putHook c q 0 else s) c fun _ => q := by
    rcases (s.hook c).source.reported_or_unknown with h | h
    · rw [if_neg (by rw [h]; decide)]
      exact .of_reported h
    · rw [if_pos h]
      exact State.putHook_settled (place := fun _ => q) hd h
  have hhook {t : State} (h : s.HookSettled t c fun _ => q) :
      t.hook c = if (s.hook c).source = .reported then s.hook c else ⟨q.x, q.y, 0, .reported⟩ := by
    rcases (s.hook c).source.reported_or_unknown with hs | hs
    · rw [if_pos hs, (h.reported hs).1]
    · rw [if_neg (by rw [hs]; decide), (h.unknown hs d hd).1]
  unfold State.settleLanding
  dsimp only
  generalize (if (s.hook c).source = .unknown then s.putHook c q 0 else s) = u at hown
  by_cases ht : l.tandem.isSome = true
  · rw [if_pos ht]
    have hmate := u.settleHook_settled (mate c)
    obtain ⟨hkeep, hkeep'⟩ := hmate.other c (mate_ne c).symm
    obtain ⟨hbefore, hbefore'⟩ := hown.other (mate c) (mate_ne c)
    have htables : u.tables = s.tables := by rw [hown.rest]; rfl
    refine ⟨⟨by rw [hkeep, hhook hown], ?_, fun _ => ?_, fun k hk hk' => ?_⟩, ?_⟩
    · rw [hkeep, hkeep']
      exact ⟨hown.reported, hown.unknown⟩
    · rw [← hbefore, ← hbefore', ← htables]
      exact ⟨hmate.reported, hmate.unknown⟩
    · obtain ⟨h1, h2⟩ := hmate.other k fun he => hk' ⟨he, ht⟩
      obtain ⟨h3, h4⟩ := hown.other k hk
      exact ⟨h1.trans h3, h2.trans h4⟩
    · rw [hmate.rest, hown.rest]
      rfl
  · rw [if_neg ht]
    exact ⟨⟨hhook hown, ⟨hown.reported, hown.unknown⟩, fun h => absurd h ht, fun k hk _ => hown.other k hk⟩, hown.rest⟩

/-! ### The alarms of a landing in their order (assumption 41) -/

theorem State.destinationEvent_eq (s : State) (c : Crane) (l : Load) (dest : LiftEnd) :
    s.destinationEvent c l dest =
      if l.dest.isSome = true ∧ l.dest ≠ some dest then s.event ⟨.destinationChanged, .crane c⟩ else s := by
  unfold State.destinationEvent
  cases l.dest with
  | none => simp
  | some d => simp

/-- The alarm changes of a landing before its space is judged: the events, the clears, and LANDED_UNFILED. -/
def State.landingAlarms (s : State) (c : Crane) (l : Load) (dest : LiftEnd) (clamped filed : Bool) : State :=
  let x := s.destinationEvent c l dest
  let y := (if clamped = true then x.event ⟨.positionClamped, .crane c⟩ else x).loadAlarmsCleared c l
  if filed = true then y else y.raise ⟨.landedUnfiled, .crane c⟩

theorem State.Noted.clearLoadAlarms (s : State) (c : Crane) : s.Noted (s.clearLoadAlarms c) :=
  (State.Noted.clear _ _).trans (State.Noted.clear _ _)

theorem State.Noted.loadAlarmsCleared (s : State) (c : Crane) (l : Load) : s.Noted (s.loadAlarmsCleared c l) := by
  unfold State.loadAlarmsCleared
  split
  · exact (State.Noted.clearLoadAlarms s c).trans (State.Noted.clearLoadAlarms _ _)
  · exact State.Noted.clearLoadAlarms s c

theorem State.Noted.destinationEvent (s : State) (c : Crane) (l : Load) (dest : LiftEnd) :
    s.Noted (s.destinationEvent c l dest) := by
  rw [State.destinationEvent_eq]
  split
  · exact State.Noted.event s _
  · exact State.Noted.refl s

theorem State.Noted.landingAlarms (s : State) (c : Crane) (l : Load) (dest : LiftEnd) (clamped filed : Bool) :
    s.Noted (s.landingAlarms c l dest clamped filed) := by
  have hevents : s.Noted (if clamped = true then (s.destinationEvent c l dest).event ⟨.positionClamped, .crane c⟩
      else s.destinationEvent c l dest) := by
    split
    · exact (State.Noted.destinationEvent s c l dest).trans (State.Noted.event _ _)
    · exact State.Noted.destinationEvent s c l dest
  unfold State.landingAlarms
  dsimp only
  split
  · exact hevents.trans (State.Noted.loadAlarmsCleared _ c l)
  · exact (hevents.trans (State.Noted.loadAlarmsCleared _ c l)).trans (State.Noted.raise _ _)

theorem State.clearLoadAlarms_pull (s : State) {q : Port} (h : q ≠ .p) (c : Crane) :
    (s.pull q).clearLoadAlarms c = (s.clearLoadAlarms c).pull q := by
  unfold State.clearLoadAlarms
  rw [State.clear_pull s h, State.clear_pull _ h]

/-- A frame of a crane port may be taken before the alarms of its landing or after them. -/
theorem State.landingAlarms_pull (s : State) {q : Port} (h : q ≠ .p) (c : Crane) (l : Load) (dest : LiftEnd)
    (clamped filed : Bool) :
    (s.pull q).landingAlarms c l dest clamped filed = (s.landingAlarms c l dest clamped filed).pull q := by
  have hdest : (s.pull q).destinationEvent c l dest = (s.destinationEvent c l dest).pull q := by
    rw [State.destinationEvent_eq, State.destinationEvent_eq, State.event_pull s h]
    split <;> rfl
  have hclears (u : State) : (u.pull q).loadAlarmsCleared c l = (u.loadAlarmsCleared c l).pull q := by
    unfold State.loadAlarmsCleared
    rw [State.clearLoadAlarms_pull u h, State.clearLoadAlarms_pull _ h]
    split <;> rfl
  unfold State.landingAlarms
  dsimp only
  rw [hdest]
  cases clamped <;> cases filed <;> simp [State.event_pull _ h, State.raise_pull _ h, hclears]

/-! ### What the landing leaves (R20, R101 to R103) -/

/-- A load filed at the landing (R20). -/
theorem State.landFiled_eq (s : State) (c : Crane) (l : Load) (a : Nat) (q : Pos) :
    s.landFiled c l a q = (s.loadAlarmsCleared c l).withCtLcu
      { s.ct with lots := s.ct.lots ++ [⟨l.lot, l.weight, q, a, .crane c, s.seconds⟩] } (s.lcu.liftEnded c l .idle) := by
  unfold State.landFiled
  rw [State.endLift_eq]
  rfl

/-- A load sent to the filing list (R20, R103). -/
theorem State.landUnfiled_eq (s : State) (c : Crane) (l : Load) (a : Nat) (q : Pos) :
    s.landUnfiled c l a q = ((s.loadAlarmsCleared c l).raise ⟨.landedUnfiled, .crane c⟩).withCtLcu
      { s.ct with filing := s.ct.filing ++ [⟨c, l.lot, l.weight, q, a, s.seconds⟩] }
      (s.lcu.liftEnded c l (.unfiled l.lot l.weight)) := by
  unfold State.landUnfiled
  rw [State.endLift_eq, ← State.raise_withCtLcu]
  rfl

/-- The judgement of a space in a state whose table has been written (R18). -/
theorem State.judgeSpace_withCtLcu {s : State} {a : Nat} {box : Box} {capacity : Int}
    (h : s.tables.cargo a = some (box, capacity)) (ct : CondTable) (lcu : Lcu) :
    (s.withCtLcu ct lcu).judgeSpace a =
      if lookup ct.spaces a = some (capStateOf (ct.load a) capacity) then s.withCtLcu ct lcu
      else (s.keep ⟨.overCapacity, .addr a⟩ (decide (capStateOf (ct.load a) capacity = .over))).withCtLcu
        { ct with spaces := adjust ct.spaces a fun _ => capStateOf (ct.load a) capacity } lcu := by
  have h' : (s.withCtLcu ct lcu).tables.cargo a = some (box, capacity) := h
  unfold State.judgeSpace
  rw [h', ← State.keep_withCtLcu]
  rfl

/-- The state after a landing: the alarms as `alarms` has them, the records, the hooks and the structures, one serial
step, and of the rest of the table the lots, the filing list and the capacity states. -/
structure State.LiftLanded (s t : State) (c : Crane) (l : Load) (next : LiftRec) (q : Pt) (alarms : State) : Prop where
  rest : t = alarms.withCtLcu t.ct t.lcu
  table : t.ct = { s.ct with
    lots := t.ct.lots
    filing := t.ct.filing
    spaces := t.ct.spaces
    structs := t.ct.structs
    serial := s.ct.serial + 1 }
  unit : t.lcu = { s.lcu with recs := t.lcu.recs, hooks := t.lcu.hooks }
  record : t.lift c = next
  records : ∀ k, k ≠ c → t.lift k = if k = mate c ∧ l.tandem.isSome = true then .idle else s.lift k
  hooks : s.HooksLanded t c l q

/-- The hooks settled after the lift's end, whatever has been written of the rest of the table. -/
theorem State.settleLanding_ended {s e : State} {c : Crane} (he : s.Noted e) (hc : (s.tables.crane c).isSome = true)
    {ct : CondTable} (hct : ct.structs = s.ct.structs) (l : Load) (next : LiftRec) (q : Pt) :
    ∃ structs hooks,
      (e.withCtLcu ct (s.lcu.liftEnded c l next)).settleLanding c l q =
        e.withCtLcu { ct with structs := structs } { s.lcu.liftEnded c l next with hooks := hooks } ∧
      s.HooksLanded (e.withCtLcu { ct with structs := structs } { s.lcu.liftEnded c l next with hooks := hooks }) c l q := by
  have htables : (e.withCtLcu ct (s.lcu.liftEnded c l next)).tables = s.tables := he.tables_eq
  obtain ⟨hlanded, heq⟩ := State.settleLanding_landed (s := e.withCtLcu ct (s.lcu.liftEnded c l next)) (c := c)
    (by rw [htables]; exact hc) l q
  refine ⟨_, _, heq, hlanded.of_same rfl hct.symm htables.symm rfl rfl⟩

/-- The state that the end of a lift makes, with its hooks settled and its serial moved on. -/
theorem State.LiftLanded.of_hooks {s e : State} {c : Crane} {l : Load} {next : LiftRec} {q : Pt} {ct : CondTable}
    (hct : ct = { s.ct with lots := ct.lots, filing := ct.filing, spaces := ct.spaces, structs := ct.structs })
    {hooks : PerCrane Hook}
    (h : s.HooksLanded (e.withCtLcu ct { s.lcu.liftEnded c l next with hooks := hooks }) c l q) :
    s.LiftLanded (e.withCtLcu ct { s.lcu.liftEnded c l next with hooks := hooks }).bump c l next q e where
  rest := rfl
  table := by
    rw [hct]
    rfl
  unit := rfl
  record := by
    have := s.lcu.liftEnded_get c l next c
    rw [if_neg fun hm => mate_ne c hm.1.symm, if_pos rfl] at this
    exact this
  records k hk := by
    have := s.lcu.liftEnded_get c l next k
    rw [if_neg hk] at this
    exact this
  hooks := h.of_same rfl rfl rfl rfl rfl

/-! ### The two places where a load lands (R20, R102, R103) -/

/-- A landing to QUAY (R102). -/
theorem State.landQuay_landed {s : State} {c : Crane} (hc : (s.tables.crane c).isSome = true) (l : Load) (q : Pt) :
    let z := (s.destinationEvent c l .quay).landQuay c l q
    s.LiftLanded z c l .idle q (s.landingAlarms c l .quay false true) ∧
      z.ct.lots = s.ct.lots ∧ z.ct.filing = s.ct.filing ∧ z.ct.spaces = s.ct.spaces := by
  intro z
  have hevent := State.Noted.destinationEvent s c l .quay
  have hlcu : (s.destinationEvent c l .quay).lcu = s.lcu := hevent.keeps State.lcu fun _ _ _ => rfl
  obtain ⟨structs, hooks, heq, hhooks⟩ := State.settleLanding_ended
    (hevent.trans (State.Noted.loadAlarmsCleared _ c l)) hc (ct := s.ct) rfl l .idle q
  have hz : z = (((s.destinationEvent c l .quay).loadAlarmsCleared c l).withCtLcu { s.ct with structs := structs }
      { s.lcu.liftEnded c l .idle with hooks := hooks }).bump := by
    show (((s.destinationEvent c l .quay).endLift c l .idle).settleLanding c l q).bump = _
    rw [State.endLift_eq, hevent.ct_eq, hlcu, heq]
  rw [hz]
  exact ⟨State.LiftLanded.of_hooks rfl hhooks, rfl, rfl, rfl⟩

/-- The table with the load of a landing into a space: filed at once, or waiting at the tail of the filing list. -/
def CondTable.landed (t : CondTable) (c : Crane) (l : Load) (a : Nat) (q : Pos) (at' : Seconds) : CondTable :=
  if t.lots.length < Config.poolSize then { t with lots := t.lots ++ [⟨l.lot, l.weight, q, a, .crane c, at'⟩] }
  else { t with filing := t.filing ++ [⟨c, l.lot, l.weight, q, a, at'⟩] }

@[simp] theorem CondTable.landed_structs (t : CondTable) (c : Crane) (l : Load) (a : Nat) (q : Pos) (at' : Seconds) :
    (t.landed c l a q at').structs = t.structs := by unfold CondTable.landed; split <;> rfl

@[simp] theorem CondTable.landed_spaces (t : CondTable) (c : Crane) (l : Load) (a : Nat) (q : Pos) (at' : Seconds) :
    (t.landed c l a q at').spaces = t.spaces := by unfold CondTable.landed; split <;> rfl

theorem CondTable.landed_eq (t : CondTable) (c : Crane) (l : Load) (a : Nat) (q : Pos) (at' : Seconds) :
    t.landed c l a q at' = { t with lots := (t.landed c l a q at').lots, filing := (t.landed c l a q at').filing } := by
  unfold CondTable.landed
  split <;> rfl

theorem CondTable.landed_lots (t : CondTable) (c : Crane) (l : Load) (a : Nat) (q : Pos) (at' : Seconds) :
    (t.landed c l a q at').lots =
      if t.lots.length < Config.poolSize then t.lots ++ [⟨l.lot, l.weight, q, a, .crane c, at'⟩] else t.lots := by
  unfold CondTable.landed
  split <;> rfl

theorem CondTable.landed_filing (t : CondTable) (c : Crane) (l : Load) (a : Nat) (q : Pos) (at' : Seconds) :
    (t.landed c l a q at').filing =
      if t.lots.length < Config.poolSize then t.filing else t.filing ++ [⟨c, l.lot, l.weight, q, a, at'⟩] := by
  unfold CondTable.landed
  split <;> rfl

/-- The record of a crane whose load has landed in a space (R20, R103). -/
def State.landedRecord (s : State) (l : Load) : LiftRec :=
  if s.ct.lots.length < Config.poolSize then .idle else .unfiled l.lot l.weight

/-- The alarms of a landing into a space, before it is judged. -/
def State.spaceAlarms (s : State) (c : Crane) (l : Load) (a : Nat) (box : Box) (p : Pos) : State :=
  s.landingAlarms c l (.space a) (decide (box.clampPos p ≠ p)) (decide (s.ct.lots.length < Config.poolSize))

/-- A landed load stowed or waiting, its lift ended (R20, R101, R103). -/
theorem State.landed_eq (s : State) (c : Crane) (l : Load) (a : Nat) (box : Box) (p : Pos) :
    let x := s.destinationEvent c l (.space a)
    let q := box.clampPos p
    let y := if q = p then x else x.event ⟨.positionClamped, .crane c⟩
    (if x.poolFree = true then y.landFiled c l a q else y.landUnfiled c l a q) =
      (s.spaceAlarms c l a box p).withCtLcu (s.ct.landed c l a q s.seconds) (s.lcu.liftEnded c l (s.landedRecord l)) := by
  intro x q y
  have hx : s.Noted x := State.Noted.destinationEvent s c l (.space a)
  have hy : s.Noted y := by
    show s.Noted (if q = p then x else x.event ⟨.positionClamped, .crane c⟩)
    split
    · exact hx
    · exact hx.trans (State.Noted.event x _)
  have hy' : y = if decide (q ≠ p) = true then x.event ⟨.positionClamped, .crane c⟩ else x := by
    by_cases hq : q = p <;> simp [y, hq]
  have hlcu : y.lcu = s.lcu := hy.keeps State.lcu fun _ _ _ => rfl
  have hseconds : y.seconds = s.seconds := hy.keeps State.seconds fun _ _ _ => rfl
  have hfree : x.poolFree = decide (s.ct.lots.length < Config.poolSize) := by rw [State.poolFree, hx.ct_eq]
  rw [hfree, State.landFiled_eq, State.landUnfiled_eq, hy.ct_eq, hlcu, hseconds]
  unfold State.spaceAlarms State.landingAlarms CondTable.landed State.landedRecord
  dsimp only
  rw [← hy']
  by_cases hfull : s.ct.lots.length < Config.poolSize <;> simp [hfull]

/-- OVER_CAPACITY raised or cleared when the capacity state of a space changes (R18). -/
def State.capacityAlarm (e : State) (a : Nat) (before : Option CapState) (judged : CapState) : State :=
  if before = some judged then e else e.keep ⟨.overCapacity, .addr a⟩ (decide (judged = .over))

/-- A landing into a space: the load stowed or waiting, the hooks, the space judged last (R18, R20, R103). -/
theorem State.landSpace_landed {s : State} {c : Crane} (hc : (s.tables.crane c).isSome = true) {a : Nat} {box : Box}
    {capacity : Int} (ha : s.tables.cargo a = some (box, capacity)) (l : Load) (p : Pos) :
    let ct := s.ct.landed c l a (box.clampPos p) s.seconds
    let judged := capStateOf (ct.load a) capacity
    let e := s.spaceAlarms c l a box p
    let z := (s.destinationEvent c l (.space a)).landSpace c l a box p
    s.LiftLanded z c l (s.landedRecord l) ⟨p.x, p.y⟩ (e.capacityAlarm a (lookup s.ct.spaces a) judged) ∧
      z.ct.lots = ct.lots ∧ z.ct.filing = ct.filing ∧
      z.ct.spaces = if lookup s.ct.spaces a = some judged then s.ct.spaces else adjust s.ct.spaces a fun _ => judged := by
  intro ct judged e z
  have he : s.Noted e := State.Noted.landingAlarms s c l _ _ _
  have ha' : e.tables.cargo a = some (box, capacity) := by rw [he.tables_eq]; exact ha
  obtain ⟨structs, hooks, heq, hhooks⟩ := State.settleLanding_ended he hc (ct := ct) (by simp [ct]) l
    (s.landedRecord l) ⟨p.x, p.y⟩
  have hz : z = (((e.withCtLcu ct (s.lcu.liftEnded c l (s.landedRecord l))).settleLanding c l ⟨p.x, p.y⟩).judgeSpace
      a).bump := by
    rw [← State.landed_eq]
    rfl
  rw [heq, State.judgeSpace_withCtLcu ha'] at hz
  have hspaces : ct.spaces = s.ct.spaces := by simp [ct]
  have htable : ct = { s.ct with lots := ct.lots, filing := ct.filing } := CondTable.landed_eq _ _ _ _ _ _
  change z = State.bump (if lookup ct.spaces a = some judged then
      e.withCtLcu { ct with structs := structs } { s.lcu.liftEnded c l (s.landedRecord l) with hooks := hooks }
    else (e.keep ⟨.overCapacity, .addr a⟩ (decide (judged = .over))).withCtLcu
      { ct with structs := structs, spaces := adjust ct.spaces a fun _ => judged }
      { s.lcu.liftEnded c l (s.landedRecord l) with hooks := hooks }) at hz
  rw [hspaces] at hz
  clear_value z judged e ct
  subst hz
  unfold State.capacityAlarm
  by_cases h : lookup s.ct.spaces a = some judged
  · rw [if_pos h, if_pos h, if_pos h]
    exact ⟨State.LiftLanded.of_hooks (by rw [htable])
      (hhooks.of_same rfl rfl rfl rfl rfl), rfl, rfl, rfl⟩
  · rw [if_neg h, if_neg h, if_neg h]
    exact ⟨State.LiftLanded.of_hooks (by rw [htable])
      (hhooks.of_same rfl rfl rfl rfl rfl), rfl, rfl, rfl⟩

end Sys2Proof.Machine
end

section
/-!
HOOK_LANDED taken at a crane's port (R101): its payload read, its answer, and the conditions held after it.
-/

namespace Sys2Proof.Machine

set_option Elab.async false

/-! ### The payload (R1, R101) -/

theorem Pos.clampFrame_eq (q : Pos) :
    q.clampFrame = ⟨max 0 (min 250000 q.x), max (-25000) (min 25000 q.y), max 0 (min 80000 q.z)⟩ := by
  rw [Pos.clampFrame, clamp_eq_max_min (by decide), clamp_eq_max_min (by decide), clamp_eq_max_min (by decide)]

theorem Box.clampPos_eq {b : Box} (hx : b.xAft ≤ b.xFwd) (hy : b.yPort ≤ b.yStbd) (hz : b.zLow ≤ b.zHigh) (q : Pos) :
    b.clampPos q =
      ⟨max b.xAft (min b.xFwd q.x), max b.yPort (min b.yStbd q.y), max b.zLow (min b.zHigh q.z)⟩ := by
  rw [Box.clampPos, clamp_eq_max_min hx, clamp_eq_max_min hy, clamp_eq_max_min hz]

theorem hookLanded_fields {dest : Nat} {q : Pos} (hdest : dest < 256) (hq : q.onWire) :
    field (octetsN 1 dest ++ posOctets q) 0 1 = dest ∧ fieldPos (octetsN 1 dest ++ posOctets q) 1 = q := by
  refine ⟨field_octetsN_append 1 dest _ hdest, ?_⟩
  rw [fieldPos_append_right _ _ _ (by simp), octetsN_length]
  exact fieldPos_posOctets_end q hq

/-- What HOOK_LANDED does, its destination octet and its clamped position read. -/
theorem hookLandedReply_eq (s : State) (c : Crane) {dest : Nat} {q : Pos} (hdest : dest < 256) (hq : q.onWire) :
    hookLandedReply c (octetsN 1 dest ++ posOctets q) s =
      if 128 ≤ dest ∧ dest ≠ 254 then (s, refuse kHookLanded .badField)
      else match s.lift c with
        | .hooked l =>
          if dest = 254 then ((s.destinationEvent c l .quay).landQuay c l ⟨q.clampFrame.x, q.clampFrame.y⟩,
            done kHookLanded (.landed .offVessel none))
          else match s.tables.cargo dest with
            | some (box, _) => ((s.destinationEvent c l (.space dest)).landSpace c l dest box q.clampFrame,
                done kHookLanded (s.landedBody box q.clampFrame))
            | none => (s, refuse kHookLanded .badSpace)
        | _ => (s, refuse kHookLanded .noPermit) := by
  obtain ⟨hf0, hf1⟩ := hookLanded_fields hdest hq
  unfold hookLandedReply
  simp only [hf0, hf1, notAddress_eq hdest, decide_eq_true_eq]
  split
  · rfl
  · cases s.lift c with
    | hooked l =>
      by_cases h : dest = 254
      · simp [liftEnd, h]
      · cases hcargo : s.tables.cargo dest <;> simp [liftEnd, h, hcargo]
    | _ => rfl

/-! ### The answer (R80, R106, R174) -/

/-- The handling of a frame that a paired upper port refuses, at a defined crane whose port is not one (R6, R106). -/
theorem liftHandled {s : State} {c : Crane} {k : Byte} {p : List Byte} {r : State × Reply}
    {handle : List Byte → State → State × Reply} (hc : (s.tables.crane c).isSome = true) (hu : s.upperPaired c = false)
    (hm : handle p s = r) :
    (if (s.tables.crane c).isNone = true then (s, refuse k .badSpace)
      else if s.upperPaired c = true then (s, refuse k .portPaired) else handle p s) = r := by
  rw [if_neg (by simpa [Option.isSome_iff_ne_none] using hc), if_neg (by simp [hu]), hm]

/-- A refusal of HOOK_LANDED at a crane whose port is no paired upper one. -/
theorem exec_landing_refused {s : State} {c : Crane} {p : List Byte} (h : s.takesAt c kHookLanded p)
    (hl : lengthOk kHookLanded p = true) (hu : s.upperPaired c = false) {e : Code}
    (hm : hookLandedReply c p (s.pull (portOf c)) = (s.pull (portOf c), refuse kHookLanded e)) :
    exec (.hookLanded c) s = .next (s.replied (portOf c) (.refused kHookLanded e)).takeJob :=
  exec_answers rfl h.1 hl (liftHandled h.2 hu hm)

/-- PORT_PAIRED on a paired upper port (R106). -/
theorem exec_landing_paired {s : State} {c : Crane} {p : List Byte} (h : s.takesAt c kHookLanded p)
    (hl : lengthOk kHookLanded p = true) (hu : s.upperPaired c = true) :
    exec (.hookLanded c) s = .next (s.replied (portOf c) (.refused kHookLanded .portPaired)).takeJob := by
  have hc : ¬ ((s.pull (portOf c)).tables.crane c).isNone = true := by
    simpa [Option.isSome_iff_ne_none] using h.2
  have hu' : (s.pull (portOf c)).upperPaired c = true := hu
  exact exec_answers rfl h.1 hl ((if_neg hc).trans (if_pos hu'))

/-- A frame of a crane port taken before the changes of the alarm list and after them. -/
theorem State.Noted.pull {s t : State} (h : s.Noted t) {q : Port} (hq : q ≠ .p) : (s.pull q).Noted (t.pull q) := by
  obtain ⟨ms, hms, ht⟩ := h
  refine ⟨ms, hms, ?_⟩
  have hlink : (s.pull q).link .p = s.link .p := by simp [State.pull, Ne.symm hq]
  rw [hlink, ht]
  simp [State.pull, State.setLink, State.link, PerPort.set_comm s.sli.links hq, hq]

/-- The state `t` after HOOK_LANDED's handling has made `z` of a state `s`, with the alarm changes of `alarms`, and said
`body`: what it holds, and that nothing else changed but for the evaluator's choice. -/
structure State.LandingAnswered (s t z alarms : State) (q : Port) (body : DoneBody) : Prop where
  table : t.ct = z.ct
  recs : t.lcu.recs = z.lcu.recs
  hooks : t.lcu.hooks = z.lcu.hooks
  list : t.als = alarms.als
  notices : t.link .p = alarms.link .p
  frame : t = (({ s with
    ct.lots := t.ct.lots
    ct.filing := t.ct.filing
    ct.spaces := t.ct.spaces
    ct.structs := t.ct.structs
    ct.serial := s.ct.serial + 1
    lcu.recs := t.lcu.recs
    lcu.hooks := t.lcu.hooks }.noting t).replied q (.done kHookLanded body)).takeJob

/-- A lift ended by HOOK_LANDED. -/
theorem exec_lands {s z alarms : State} {c : Crane} {p : List Byte} {l : Load} {next : LiftRec} {body : DoneBody} {pt : Pt}
    (h : s.takesAt c kHookLanded p) (hl : lengthOk kHookLanded p = true) (hu : s.upperPaired c = false)
    (hm : hookLandedReply c p (s.pull (portOf c)) = (z, done kHookLanded body))
    (hz : (s.pull (portOf c)).LiftLanded z c l next pt (alarms.pull (portOf c))) (hn : s.Noted alarms) :
    ∃ t, exec (.hookLanded c) s = .next t ∧ s.LandingAnswered t z alarms (portOf c) body := by
  have hq := portOf_ne_p c
  have hnoted : ((s.withCtLcu z.ct z.lcu).pull (portOf c)).Noted z := by
    have := (hn.withCtLcu z.ct z.lcu).pull hq
    rw [hz.rest]
    exact this
  obtain ⟨hexec, ht⟩ := exec_answers_noted (c := .hookLanded c) (m := .done kHookLanded body) rfl h.1 hl
    (liftHandled h.2 hu hm) hnoted rfl
  refine ⟨_, hexec, ?_⟩
  generalize hgen : (z.answer (portOf c) (.say (.done kHookLanded body))).takeJob = t at ht ⊢
  have hct : t.ct = z.ct := by rw [← hgen, State.takeJob_ct]; rfl
  have hrecs : t.lcu.recs = z.lcu.recs := by rw [← hgen, State.takeJob_lcu_recs]; rfl
  have hhooks : t.lcu.hooks = z.lcu.hooks := by rw [← hgen, State.takeJob_lcu_hooks]; rfl
  have hals : t.als = alarms.als := by rw [← hgen, State.answered_als, hz.rest]; rfl
  have hlink : t.link .p = alarms.link .p := by
    have hpulled : (alarms.pull (portOf c)).link .p = alarms.link .p := by simp [State.pull, hq.symm]
    have hzlink : z.link .p = alarms.link .p := by
      rw [hz.rest]
      exact hpulled
    rw [← hgen, State.takeJob_link, ← hzlink]
    simp [State.answer, hq.symm]
  refine ⟨hct, hrecs, hhooks, hals, hlink, ?_⟩
  have hx : ({ s with
      ct.lots := t.ct.lots
      ct.filing := t.ct.filing
      ct.spaces := t.ct.spaces
      ct.structs := t.ct.structs
      ct.serial := s.ct.serial + 1
      lcu.recs := t.lcu.recs
      lcu.hooks := t.lcu.hooks } : State) = s.withCtLcu z.ct z.lcu := by
    rw [hct, hrecs, hhooks, hz.table, hz.unit]
    rfl
  rw [hx]
  exact ht

/-! ### The alarms of a landing into a space (R18, R103) -/

theorem State.spaceAlarms_pull (s : State) {q : Port} (h : q ≠ .p) (c : Crane) (l : Load) (a : Nat) (box : Box) (p : Pos) :
    (s.pull q).spaceAlarms c l a box p = (s.spaceAlarms c l a box p).pull q := State.landingAlarms_pull s h c l _ _ _

theorem State.capacityAlarm_pull (e : State) {q : Port} (h : q ≠ .p) (a : Nat) (before : Option CapState)
    (judged : CapState) : (e.pull q).capacityAlarm a before judged = (e.capacityAlarm a before judged).pull q := by
  unfold State.capacityAlarm
  rw [State.keep_pull e h]
  split <;> rfl

theorem State.Noted.capacityAlarm (e : State) (a : Nat) (before : Option CapState) (judged : CapState) :
    e.Noted (e.capacityAlarm a before judged) := by
  unfold State.capacityAlarm
  split
  · exact State.Noted.refl e
  · exact State.Noted.keep e _ _

theorem State.capacityAlarm_eq (e : State) (a : Nat) (before : Option CapState) (load capacity : Int) :
    e.capacityAlarm a before (capStateOf load capacity) =
      if before = some (if capacity < load then .over else .within) then e
      else if load ≤ capacity then e.clear ⟨.overCapacity, .addr a⟩
      else if (⟨.overCapacity, .addr a⟩ : AlarmKey) ∈ e.als.held then e else e.raise ⟨.overCapacity, .addr a⟩ := by
  unfold State.capacityAlarm capStateOf State.keep
  by_cases h : capacity < load
  · simp [h, not_le.2 h]
  · simp [h, not_lt.1 h]

/-- The judgement of a capacity leaves every condition but its own as it was. -/
theorem State.mem_held_capacityAlarm_of_ne {e : State} {a : Nat} {j : AlarmKey} (h : j ≠ ⟨.overCapacity, .addr a⟩)
    (before : Option CapState) (judged : CapState) :
    j ∈ (e.capacityAlarm a before judged).als.held ↔ j ∈ e.als.held := by
  unfold State.capacityAlarm
  split
  · rfl
  · exact State.mem_held_keep_of_ne h _

/-- A capacity state that changes brings its condition with it. -/
theorem State.mem_held_capacityAlarm_self {e : State} (a : Nat) {before judged : CapState}
    (h : before ≠ judged) :
    (judged = .over → (⟨.overCapacity, .addr a⟩ : AlarmKey) ∈ (e.capacityAlarm a (some before) judged).als.held) ∧
      (judged ≠ .over → e.als.held.Nodup →
        (⟨.overCapacity, .addr a⟩ : AlarmKey) ∉ (e.capacityAlarm a (some before) judged).als.held) := by
  unfold State.capacityAlarm
  rw [if_neg (by simpa using h)]
  refine ⟨fun hover => ?_, fun hover hn => ?_⟩
  · rw [hover, show decide (CapState.over = .over) = true from rfl, State.keep, if_pos rfl]
    by_cases hk : (⟨.overCapacity, .addr a⟩ : AlarmKey) ∈ e.als.held
    · rwa [if_pos hk]
    · rw [if_neg hk, State.mem_held_raise]
      exact .inr rfl
  · rw [State.mem_held_keep_self hn]
    simpa using hover

/-- The capacity states after a judgement: the space's own is the judged one, and every other stays (R18). -/
theorem lookup_judged {spaces spaces' : List (Nat × CapState)} {a : Nat} {judged : CapState}
    (h : spaces' = if lookup spaces a = some judged then spaces else adjust spaces a fun _ => judged) :
    ((lookup spaces a).isSome = true → lookup spaces' a = some judged) ∧
      ∀ b, b ≠ a → lookup spaces' b = lookup spaces b := by
  rw [h]
  split
  next hsame => exact ⟨fun _ => hsame, fun _ _ => rfl⟩
  next =>
    refine ⟨fun hsome => ?_, fun b hb => by simp [hb]⟩
    obtain ⟨before, hbefore⟩ := Option.isSome_iff_exists.1 hsome
    simp [hbefore]

/-- A space judged with its condition (R18). -/
theorem State.capacityJudged_of_alarm {s t e : State} {a : Nat} {box : Box} {capacity : Int}
    (ha : s.tables.cargo a = some (box, capacity))
    (hself : (lookup s.ct.spaces a).isSome = true → lookup t.ct.spaces a = some (capStateOf (t.ct.load a) capacity))
    (hlist : t.als = (e.capacityAlarm a (lookup s.ct.spaces a) (capStateOf (t.ct.load a) capacity)).als)
    (hn : s.als.held.Nodup → e.als.held.Nodup) : s.capacityJudged t a := by
  intro box' capacity' before ha' hbefore
  cases ha.symm.trans ha'
  refine ⟨hself (by simp [hbefore]), fun hwithin hover => ?_, fun hover hwithin hnodup => ?_⟩
  · have hst : capStateOf (t.ct.load a) capacity = .over := if_pos hover
    rw [hlist, hbefore, hwithin, hst]
    exact (State.mem_held_capacityAlarm_self a (by decide)).1 rfl
  · have hst : capStateOf (t.ct.load a) capacity = .within := if_neg hwithin
    rw [hlist, hbefore, hover, hst]
    exact (State.mem_held_capacityAlarm_self a (by decide)).2 (by decide) (hn hnodup)

/-! ### The conditions held after the end of a lift -/

theorem State.mem_held_clear_iff {s : State} (h : s.als.held.Nodup) (k j : AlarmKey) :
    j ∈ (s.clear k).als.held ↔ j ≠ k ∧ j ∈ s.als.held := by
  rw [State.clear_held]
  exact h.mem_erase_iff

/-- The load alarms of the cranes of a lift are not held once it has ended (R101, R111). -/
theorem State.not_mem_held_loadAlarmsCleared {s : State} (h : s.als.held.Nodup) {c k : Crane} {l : Load}
    (hk : k = c ∨ (k = mate c ∧ l.tandem.isSome = true)) :
    (⟨.unpermittedLift, .crane k⟩ : AlarmKey) ∉ (s.loadAlarmsCleared c l).als.held ∧
      (⟨.positionUnknown, .crane k⟩ : AlarmKey) ∉ (s.loadAlarmsCleared c l).als.held := by
  have hone {u : State} (hu : u.als.held.Nodup) (c' : Crane) (j : AlarmKey) : j ∈ (u.clearLoadAlarms c').als.held ↔
      j ≠ ⟨.positionUnknown, .crane c'⟩ ∧ j ≠ ⟨.unpermittedLift, .crane c'⟩ ∧ j ∈ u.als.held := by
    rw [State.clearLoadAlarms, State.mem_held_clear_iff (State.clear_held_nodup hu _), State.mem_held_clear_iff hu]
  have hnodup : (s.clearLoadAlarms c).als.held.Nodup := State.clear_held_nodup (State.clear_held_nodup h _) _
  unfold State.loadAlarmsCleared
  by_cases ht : l.tandem.isSome = true
  · rw [if_pos ht, hone hnodup, hone hnodup, hone h, hone h]
    rcases hk with rfl | ⟨rfl, -⟩ <;> simp
  · have hk' : k = c := hk.resolve_right fun h => ht h.2
    rw [if_neg ht, hone h, hone h, hk']
    simp

theorem State.landingAlarms_eq (s : State) (c : Crane) (l : Load) (dest : LiftEnd) (clamped filed : Bool) :
    s.landingAlarms c l dest clamped filed =
      let x := if clamped = true then (s.destinationEvent c l dest).event ⟨.positionClamped, .crane c⟩
        else s.destinationEvent c l dest
      if filed = true then x.loadAlarmsCleared c l else (x.loadAlarmsCleared c l).raise ⟨.landedUnfiled, .crane c⟩ := rfl

/-- The alarm list after the clears of a landing: each condition once, and none of the ones cleared. -/
theorem State.landingAlarms_held {s : State} (h : s.als.held.Nodup) (c : Crane) (l : Load) (dest : LiftEnd)
    (clamped filed : Bool) :
    (s.landingAlarms c l dest clamped filed).als.held.Nodup ∧
      ∀ k, k = c ∨ (k = mate c ∧ l.tandem.isSome = true) →
        (⟨.unpermittedLift, .crane k⟩ : AlarmKey) ∉ (s.landingAlarms c l dest clamped filed).als.held ∧
        (⟨.positionUnknown, .crane k⟩ : AlarmKey) ∉ (s.landingAlarms c l dest clamped filed).als.held := by
  have hdest : (s.destinationEvent c l dest).als.held.Nodup := by
    rw [State.destinationEvent_eq]
    split
    · rwa [State.event_held]
    · exact h
  rw [State.landingAlarms_eq]
  dsimp only
  have hx : (if clamped = true then (s.destinationEvent c l dest).event ⟨.positionClamped, .crane c⟩
      else s.destinationEvent c l dest).als.held.Nodup := by
    split
    · rwa [State.event_held]
    · exact hdest
  generalize (if clamped = true then (s.destinationEvent c l dest).event ⟨.positionClamped, .crane c⟩
      else s.destinationEvent c l dest) = x at hx ⊢
  have hcleared : (x.loadAlarmsCleared c l).als.held.Nodup := by
    unfold State.loadAlarmsCleared State.clearLoadAlarms
    split
    · exact State.clear_held_nodup (State.clear_held_nodup (State.clear_held_nodup (State.clear_held_nodup hx _) _) _) _
    · exact State.clear_held_nodup (State.clear_held_nodup hx _) _
  split
  · exact ⟨hcleared, fun k hk => State.not_mem_held_loadAlarmsCleared hx hk⟩
  · refine ⟨State.raise_held_nodup hcleared _, fun k hk => ?_⟩
    obtain ⟨hlift, hhook⟩ := State.not_mem_held_loadAlarmsCleared hx hk
    simp [State.mem_held_raise, hlift, hhook]

theorem State.spaceAlarms_held {s : State} (h : s.als.held.Nodup) (c : Crane) (l : Load) (a : Nat) (box : Box) (p : Pos) :
    (s.spaceAlarms c l a box p).als.held.Nodup ∧ ∀ k, k = c ∨ (k = mate c ∧ l.tandem.isSome = true) →
      (⟨.unpermittedLift, .crane k⟩ : AlarmKey) ∉ (s.spaceAlarms c l a box p).als.held ∧
      (⟨.positionUnknown, .crane k⟩ : AlarmKey) ∉ (s.spaceAlarms c l a box p).als.held :=
  State.landingAlarms_held h c l _ _ _

/-- With no free record, LANDED_UNFILED is held (R20, R103). -/
theorem State.landedUnfiled_mem_held (s : State) (c : Crane) (l : Load) (dest : LiftEnd) (clamped : Bool) :
    (⟨.landedUnfiled, .crane c⟩ : AlarmKey) ∈ (s.landingAlarms c l dest clamped false).als.held := by
  rw [State.landingAlarms_eq]
  exact (State.mem_held_raise _ _ _).2 (.inr rfl)

/-- A load landed in a space by HOOK_LANDED: where it lies, and the space's capacity state and alarm (R18, R20). -/
theorem exec_lands_space {s : State} {c : Crane} {p : List Byte} {l : Load} {a : Nat} {box : Box} {capacity : Int}
    {q : Pos} {body : DoneBody} (h : s.takesAt c kHookLanded p) (hl : lengthOk kHookLanded p = true)
    (hu : s.upperPaired c = false) (ha : s.tables.cargo a = some (box, capacity))
    (hm : hookLandedReply c p (s.pull (portOf c)) =
      (((s.pull (portOf c)).destinationEvent c l (.space a)).landSpace c l a box q, done kHookLanded body)) :
    ∃ t z, exec (.hookLanded c) s = .next t ∧
      (s.pull (portOf c)).LiftLanded z c l (s.landedRecord l) ⟨q.x, q.y⟩
        (((s.spaceAlarms c l a box q).capacityAlarm a (lookup s.ct.spaces a) (capStateOf (t.ct.load a) capacity)).pull
          (portOf c)) ∧
      s.LandingAnswered t z
        ((s.spaceAlarms c l a box q).capacityAlarm a (lookup s.ct.spaces a) (capStateOf (t.ct.load a) capacity))
        (portOf c) body ∧
      t.ct.lots = (s.ct.landed c l a (box.clampPos q) s.seconds).lots ∧
      t.ct.filing = (s.ct.landed c l a (box.clampPos q) s.seconds).filing ∧
      t.ct.spaces = if lookup s.ct.spaces a = some (capStateOf (t.ct.load a) capacity) then s.ct.spaces
        else adjust s.ct.spaces a fun _ => capStateOf (t.ct.load a) capacity := by
  have hport := portOf_ne_p c
  obtain ⟨hz, hlots, hfiling, hspaces⟩ :=
    State.landSpace_landed (s := s.pull (portOf c)) (c := c) h.2 (a := a) ha l q
  rw [State.spaceAlarms_pull s hport, State.capacityAlarm_pull _ hport] at hz
  obtain ⟨t, hexec, hans⟩ := exec_lands h hl hu hm hz
    ((State.Noted.landingAlarms s c l _ _ _).trans (State.Noted.capacityAlarm _ _ _ _))
  have hlots' : t.ct.lots = (s.ct.landed c l a (box.clampPos q) s.seconds).lots := by rw [hans.table, hlots]; rfl
  have hfiling' : t.ct.filing = (s.ct.landed c l a (box.clampPos q) s.seconds).filing := by
    rw [hans.table, hfiling]
    rfl
  have hload : t.ct.load a = (s.ct.landed c l a (box.clampPos q) s.seconds).load a := by
    unfold CondTable.load CondTable.total CondTable.stow
    rw [hlots', hfiling']
  refine ⟨t, (((s.pull (portOf c)).destinationEvent c l (.space a)).landSpace c l a box q), hexec, ?_⟩
  rw [hload]
  refine ⟨hz, hans, hlots', hfiling', ?_⟩
  rw [hans.table, hspaces]
  rfl

/-- Settles O48: the checks in their order, then the lift ended at QUAY, in a free record, or on the filing list. -/
theorem landingEndsTheLift : Obligations.LandingEndsTheLift := by
  intro s c dest q hdest hq ht refused at' to'
  have hlen : lengthOk kHookLanded (octetsN 1 dest ++ posOctets q) = true := by simp [lengthOk, fixedLength]
  have hclamp : q.clampFrame = at' := Pos.clampFrame_eq q
  have hreply := hookLandedReply_eq (s.pull (portOf c)) c hdest hq
  rw [hclamp] at hreply
  by_cases hpaired : (isUpper c && s.lcu.paired c) = true
  · rw [if_pos hpaired]
    exact exec_landing_paired ht hlen hpaired
  rw [if_neg hpaired]
  have hu : s.upperPaired c = false := Bool.eq_false_iff.2 hpaired
  have hrefused {e : Code} (hm : hookLandedReply c (octetsN 1 dest ++ posOctets q) (s.pull (portOf c)) =
      (s.pull (portOf c), refuse kHookLanded e)) : refused e := exec_landing_refused ht hlen hu hm
  by_cases hfield : 128 ≤ dest ∧ dest ≠ 254
  · rw [if_pos hfield]
    exact hrefused (hreply.trans (if_pos hfield))
  rw [if_neg hfield] at hreply ⊢
  have hlift : (s.pull (portOf c)).lift c = s.lift c := rfl
  rw [hlift] at hreply
  split
  next l hrec =>
    rw [hrec] at hreply
    dsimp only at hreply
    intro settles keeps told changed ended
    have hc : ((s.pull (portOf c)).tables.crane c).isSome = true := ht.2
    have hport := portOf_ne_p c
    have hchanged : s.destinationEvent c l to' = changed := State.destinationEvent_eq s c l to'
    have hended (x : State) : x.loadAlarmsCleared c l = ended x := rfl
    have hkeeps {t z e alarms : State} {next : LiftRec} {body : DoneBody}
        (hz : (s.pull (portOf c)).LiftLanded z c l next ⟨at'.x, at'.y⟩ e)
        (ha : s.LandingAnswered t z alarms (portOf c) body)
        (hheld : s.als.held.Nodup → ∀ k, k = c ∨ (k = mate c ∧ l.tandem.isSome = true) →
          (⟨.unpermittedLift, .crane k⟩ : AlarmKey) ∉ t.als.held ∧
          (⟨.positionUnknown, .crane k⟩ : AlarmKey) ∉ t.als.held) : keeps t next body := by
      have hl := hz.hooks.of_same (s' := s) (t' := t) rfl rfl rfl ha.hooks (by rw [ha.table])
      have hlifts (k : Crane) : t.lift k = z.lift k := congrArg (PerCrane.get · k) ha.recs
      exact ⟨(hlifts c).trans hz.record, fun k hk => (hlifts k).trans (hz.records k hk), hl.hook, hl.own, hl.upper,
        hl.other, hheld, ha.frame⟩
    by_cases hquay : dest = 254
    · rw [if_pos hquay] at hreply ⊢
      have hto : to' = .quay := if_pos hquay
      obtain ⟨hz, hlots, hfiling, hspaces⟩ := State.landQuay_landed hc l ⟨at'.x, at'.y⟩
      rw [State.landingAlarms_pull s hport] at hz
      obtain ⟨t, hexec, ha⟩ := exec_lands ht hlen hu hreply hz (State.Noted.landingAlarms s c l _ _ _)
      have halarms : s.landingAlarms c l .quay false true = ended changed := by
        rw [← hchanged, hto, State.landingAlarms_eq]
        simp [hended]
      refine ⟨t, hexec, hkeeps hz ha (fun hn k hk => ?_), ?_, ?_⟩
      · rw [ha.list]
        exact (State.landingAlarms_held hn c l _ _ _).2 k hk
      · rw [← halarms]
        exact ⟨ha.list, ha.notices⟩
      · rw [ha.table]
        exact ⟨hlots, hfiling, hspaces⟩
    · rw [if_neg hquay] at hreply ⊢
      have hto : to' = .space dest := if_neg hquay
      split
      next hnone =>
        refine hrefused ?_
        rw [hreply, State.pull_tables, hnone]
      next b capacity hcargo =>
        intro p hx hy hh filed clamped landed heavy
        rw [State.pull_tables, hcargo] at hreply
        dsimp only at hreply
        have hp : b.clampPos at' = p := Box.clampPos_eq hx hy hh at'
        obtain ⟨t, z, hexec, hz, ha, hlots, hfiling, hspaces⟩ := exec_lands_space ht hlen hu hcargo hreply
        rw [hp] at hlots hfiling
        have hlanded : s.spaceAlarms c l dest b at' = landed := by
          rw [State.spaceAlarms, State.landingAlarms_eq, ← hto, hchanged, hp]
          by_cases hmoved : p = at' <;> by_cases hfree : s.ct.lots.length < Config.poolSize <;>
            simp [landed, clamped, filed, hmoved, hfree, hended]
        have hheld (hn : s.als.held.Nodup) := State.spaceAlarms_held hn c l dest b at'
        rw [hlanded] at hheld
        rw [hlanded] at ha
        obtain ⟨hself, hothers⟩ := lookup_judged hspaces
        have hbody : (s.pull (portOf c)).landedBody b at' = .landed (if filed then .filed else .unfiled) (some p) := by
          rw [State.landedBody, hp]
          exact congrArg (DoneBody.landed · (some p)) (if_congr decide_eq_true_iff rfl rfl)
        refine ⟨t, hexec, ?_, ?_, ?_, ?_, fun hfull => ?_, hself, ?_, hothers⟩
        · rw [← State.capacityAlarm_eq]
          exact ⟨ha.list, ha.notices⟩
        · rw [← hbody]
          refine hkeeps hz ha fun hn k hk => ?_
          rw [ha.list, State.mem_held_capacityAlarm_of_ne (by simp), State.mem_held_capacityAlarm_of_ne (by simp)]
          exact (hheld hn).2 k hk
        · rw [hlots, CondTable.landed_lots]
        · rw [hfiling, CondTable.landed_filing]
        · rw [ha.list, State.mem_held_capacityAlarm_of_ne (by simp), ← hlanded, State.spaceAlarms, decide_eq_false hfull]
          exact State.landedUnfiled_mem_held _ _ _ _ _
        · exact State.capacityJudged_of_alarm hcargo hself ha.list fun hn => (hheld hn).1
  next hnot =>
    refine hrefused ?_
    rw [hreply]
    cases hrec : s.lift c with
    | hooked l => exact (hnot l hrec).elim
    | _ => rfl

end Sys2Proof.Machine
end

section
/-!
The retention of a LINE or RESTART reset (R36, R78, R115, R119), told apart by what it touches: the Condition Table, the
LCU and two counts, and beside them raises of conditions.
-/

namespace Sys2Proof.Machine

set_option Elab.async false

/-! ### States that differ by a retention (R36, R119, R157) -/

/-- A state with the Condition Table, the LCU and the counts of another. -/
def State.retaining (s t : State) : State :=
  { s with ct := t.ct, lcu := t.lcu, hds := { s.hds with kept := t.hds.kept, dropped := t.hds.dropped } }

/-- `t` is `s` with another Condition Table, LCU and counts, after changes of its alarm list. -/
def State.Carried (s t : State) : Prop := (s.retaining t).Noted t

theorem State.Noted.retaining {s t : State} (h : s.Noted t) (u : State) : (s.retaining u).Noted (t.retaining u) := by
  obtain ⟨ms, hms, ht⟩ := h
  refine ⟨ms, hms, ?_⟩
  rw [ht]
  rfl

namespace State.Carried

theorem of_retaining {s t : State} (h : s.retaining t = t) : s.Carried t := by
  unfold State.Carried
  rw [h]
  exact State.Noted.refl t

theorem refl (s : State) : s.Carried s := of_retaining rfl

theorem of_noted {s t : State} (h : s.Noted t) : s.Carried t := by
  have hsame : s.retaining t = s := by
    unfold State.retaining
    rw [h.ct_eq, h.keeps State.lcu fun _ _ _ => rfl, h.keeps (·.hds.kept) fun _ _ _ => rfl,
      h.keeps (·.hds.dropped) fun _ _ _ => rfl]
  unfold State.Carried
  rwa [hsame]

theorem trans {s t u : State} (h : s.Carried t) (h' : t.Carried u) : s.Carried u := (h.retaining u).trans h'

/-- What is read of none of these stays. -/
theorem keeps {β : Type} (f : State → β)
    (hf : ∀ (s : State) (ct : CondTable) (lcu : Lcu) (kept dropped : Nat) (l : Link) (a : Als),
      f { s.setLink .p l with ct := ct, lcu := lcu, hds := { s.hds with kept := kept, dropped := dropped }, als := a } = f s)
    {s t : State} (h : s.Carried t) : f t = f s := by
  obtain ⟨ms, -, ht⟩ := h
  rw [ht]
  exact hf s t.ct t.lcu t.hds.kept t.hds.dropped _ t.als

theorem tables_eq {s t : State} (h : s.Carried t) : t.tables = s.tables := h.keeps State.tables fun _ _ _ _ _ _ _ => rfl

end State.Carried

/-- `t` is carried from `s`, and the conditions of `new`, and no others, have been raised on the way (R150, R153). -/
structure State.Raised (s t : State) (new : AlarmKey → Prop) : Prop where
  carried : s.Carried t
  fresh : s.als.Fresh s.seconds → t.als.Fresh t.seconds
  held : ∀ k, k ∈ t.als.held ↔ k ∈ s.als.held ∨ new k

namespace State.Raised

theorem of_retaining {s t : State} (h : s.retaining t = t) : s.Raised t fun _ => False := by
  have hals : t.als = s.als := by rw [← h]; rfl
  have hsec : t.seconds = s.seconds := by rw [← h]; rfl
  exact ⟨.of_retaining h, by rw [hals, hsec]; exact id, fun k => by rw [hals, or_false]⟩

theorem refl (s : State) : s.Raised s fun _ => False := of_retaining rfl

theorem raise (s : State) (k : AlarmKey) : s.Raised (s.raise k) (· = k) :=
  ⟨.of_noted (State.Noted.raise s k), fun h => State.raise_fresh h k, State.mem_held_raise s k⟩

theorem trans {s t u : State} {new later : AlarmKey → Prop} (h : s.Raised t new) (h' : t.Raised u later) :
    s.Raised u fun k => new k ∨ later k :=
  ⟨h.carried.trans h'.carried, h'.fresh ∘ h.fresh, fun k => by rw [h'.held, h.held, or_assoc]⟩

theorem congr {s t : State} {new new' : AlarmKey → Prop} (h : s.Raised t new) (hnew : ∀ k, new k ↔ new' k) :
    s.Raised t new' :=
  ⟨h.carried, h.fresh, fun k => by rw [h.held, hnew]⟩

/-- A condition raised exactly when a test holds. -/
theorem raise_if (s : State) (b : Bool) (k : AlarmKey) :
    s.Raised (if b = true then s.raise k else s) fun j => b = true ∧ j = k := by
  cases b with
  | true => exact (raise s k).congr fun j => by simp
  | false => exact (refl s).congr fun j => by simp

end State.Raised

/-! ### The four cranes one after another -/

/-- What holds of no crane, and goes on holding as each new one is taken, holds of the four. -/
theorem foldl_cranes {P : List Crane → State → Prop} {g : State → Crane → State} {s : State} (hnone : P [] s)
    (hstep : ∀ l c x, c ∉ l → P l x → P (l ++ [c]) (g x c)) : P cranes (cranes.foldl g s) :=
  hstep [.k1, .k2, .k3] .k4 _ (by decide) <| hstep [.k1, .k2] .k3 _ (by decide) <|
    hstep [.k1] .k2 _ (by decide) <| hstep [] .k1 _ (by decide) hnone

theorem mem_cranes (c : Crane) : c ∈ cranes := by cases c <;> decide

/-! ### The table's live fields under the new definitions (R36) -/

/-- The lots that definitions allow, each clamped into its space's box. -/
def allowedLots (t : Tables) (l : List Lot) : List Lot :=
  l.filterMap fun l => (t.cargo l.loc).map fun e => { l with pos := e.1.clampPos l.pos }

/-- The filing list entries that definitions allow, each clamped into its destination's box. -/
def allowedFiling (t : Tables) (l : List Filing) : List Filing :=
  l.filterMap fun f => (t.cargo f.dest).map fun e => { f with pos := e.1.clampPos f.pos }

theorem keptTable_lots (t : Tables) (ct : CondTable) : (keptTable t ct).lots = allowedLots t ct.lots := by
  show (ct.lots.filter fun l => (t.cargo l.loc).isSome).map (Lot.refit t) = _
  unfold allowedLots
  induction ct.lots with
  | nil => rfl
  | cons l rest ih =>
    cases h : t.cargo l.loc with
    | none => simpa [h] using ih
    | some e => simpa [h, Lot.refit] using ih

theorem keptTable_filing (t : Tables) (ct : CondTable) : (keptTable t ct).filing = allowedFiling t ct.filing := by
  show (ct.filing.filter fun f => (t.cargo f.dest).isSome).map (Filing.refit t) = _
  unfold allowedFiling
  induction ct.filing with
  | nil => rfl
  | cons f rest ih =>
    cases h : t.cargo f.dest with
    | none => simpa [h] using ih
    | some e => simpa [h, Filing.refit] using ih

/-- A list built from the keys of another, each value from its key. -/
theorem lookup_filterMap_keyed {α β γ : Type} (g : Nat → Option β) (f : Nat → β → γ) (l : List (Nat × α)) (k : Nat) :
    lookup (l.filterMap fun e => (g e.1).map fun d => (e.1, f e.1 d)) k =
      if k ∈ l.map Prod.fst then (g k).map (f k) else none := by
  have h := lookup_filterMap_key (fun n => (g n).map (f n)) id l k
  simpa [Option.map_map, Function.comp_def] using h

/-- A tank that is kept (R36). -/
theorem TankLive.kept_eq (d : TankDef) (live : TankLive) : live.kept d = live.afterReset d := by
  unfold TankLive.kept
  rw [TankLive.derive_eq]
  unfold TankLive.afterReset
  cases h : live.source <;> simp

theorem lookup_keptTable_tanks {t : Tables} {a : Nat} {d : TankDef} (h : t.tank a = some d) (ct : CondTable) :
    lookup (keptTable t ct).tanks a = some (match lookup ct.tanks a with
      | some live => live.afterReset d
      | none => ⟨0, .none, d.density, 0, d.firstZ, 0, 0, false⟩) := by
  refine (lookup_filterMap_keyed t.tank (fun n d => match lookup ct.tanks n with
    | some live => live.kept d
    | none => d.empty) t.comps a).trans ?_
  rw [if_pos (Tables.mem_addrs_of_tank h), h]
  cases lookup ct.tanks a with
  | none => rfl
  | some live => exact congrArg some (live.kept_eq d)

theorem lookup_keptTable_consts {t : Tables} {a : Nat} {box : Box} {d : ConstDef} (h : t.const a = some (box, d))
    (ct : CondTable) : lookup (keptTable t ct).consts a = some (match lookup ct.consts a with
      | some live => if box.holds live.pos then live else ⟨d.weight, d.pos⟩
      | none => ⟨d.weight, d.pos⟩) := by
  refine (lookup_filterMap_keyed t.const (fun n d => ConstLive.kept d.1 d.2 (lookup ct.consts n)) t.comps a).trans ?_
  rw [if_pos (Tables.mem_addrs_of_const h), h]
  cases lookup ct.consts a <;> rfl

end Sys2Proof.Machine
end

section
/-!
The Condition Table's part of a LINE or RESTART retention (R36): the records of dropped waiting loads, the filings into
freed records, and the spaces judged afresh.
-/

namespace Sys2Proof.Machine

set_option Elab.async false

/-! ### The drops (R36, R78) -/

/-- A dropped filing list entry takes its record with it, and no other. -/
theorem State.foldl_dropUnfiled (s : State) (l : List Filing) :
    ∃ recs, l.foldl State.dropUnfiled s = { s with lcu := { s.lcu with recs := recs } } ∧
      ∀ c, recs.get c = if ∃ f ∈ l, f.crane = c ∧ s.tables.cargo f.dest = none then .idle else s.lift c := by
  induction l generalizing s with
  | nil => exact ⟨s.lcu.recs, rfl, fun c => by simp [State.lift]⟩
  | cons f rest ih =>
    obtain ⟨recs, heq, hget⟩ := ih (s.dropUnfiled f)
    have hone : s.dropUnfiled f = { s with lcu := { s.lcu with recs := (s.dropUnfiled f).lcu.recs } } := by
      unfold State.dropUnfiled
      split <;> rfl
    have htables : (s.dropUnfiled f).tables = s.tables := by rw [hone]; rfl
    have hlift (c : Crane) : (s.dropUnfiled f).lift c =
        if f.crane = c ∧ s.tables.cargo f.dest = none then .idle else s.lift c := by
      unfold State.dropUnfiled
      cases s.tables.cargo f.dest with
      | none => simp [State.lift, State.setLift, eq_comm]
      | some e => simp
    refine ⟨recs, by rw [List.foldl_cons, heq, hone], fun c => ?_⟩
    rw [hget, htables, hlift]
    by_cases hf : f.crane = c ∧ s.tables.cargo f.dest = none
    · simp [hf]
    · simp only [hf, List.mem_cons, exists_eq_or_imp, false_or, if_false]

/-! ### The filings into freed records (R23, R36) -/

/-- How many waiting loads the free records take, of at most `n`. -/
def CondTable.filings (t : CondTable) (n : Nat) : Nat := min n (min t.filing.length (Config.poolSize - t.lots.length))

/-- The state with the first `m` waiting loads filed, each as one operation, the lift records being `recs`. -/
def State.filedFirst (s : State) (m : Nat) (recs : PerCrane LiftRec) : State :=
  { s with
    ct := { s.ct with
      lots := s.ct.lots ++ (s.ct.filing.take m).map Filing.lot
      filing := s.ct.filing.drop m
      serial := s.ct.serial + BitVec.ofNat 16 m }
    lcu := { s.lcu with recs := recs } }

theorem State.filedFirst_zero (s : State) : s.filedFirst 0 s.lcu.recs = s := by
  simp [State.filedFirst]

/-- The head of the filing list filed before the first `m` of the rest. -/
theorem State.filedFirst_succ {s t : State} {f : Filing} {rest : List Filing} (h : s.ct.filing = f :: rest)
    (ht : t = { s with
      ct := { s.ct with lots := s.ct.lots ++ [f.lot], filing := rest, serial := s.ct.serial + 1 }
      lcu := { s.lcu with recs := s.lcu.recs.set f.crane .idle } }) (m : Nat) (recs : PerCrane LiftRec) :
    t.filedFirst m recs = s.filedFirst (m + 1) recs := by
  have hserial : s.ct.serial + 1 + BitVec.ofNat 16 m = s.ct.serial + BitVec.ofNat 16 (m + 1) := by
    rw [BitVec.add_assoc, Nat.add_comm m 1, BitVec.ofNat_add]
    rfl
  rw [ht]
  simp only [State.filedFirst, h, List.take_succ_cons, List.drop_succ_cons, List.map_cons, List.append_assoc,
    List.singleton_append, hserial]

/-- Waiting loads are filed from the head of the list while a record is free; with no LANDED_UNFILED held, no alarm
changes. -/
theorem State.fileWaiting_eq (n : Nat) {s : State} (h : ∀ c, (⟨.landedUnfiled, .crane c⟩ : AlarmKey) ∉ s.als.held) :
    ∃ recs, State.fileWaiting n s = s.filedFirst (s.ct.filings n) recs ∧
      ∀ c, recs.get c = if ∃ f ∈ s.ct.filing.take (s.ct.filings n), f.crane = c then .idle else s.lift c := by
  induction n generalizing s with
  | zero =>
    refine ⟨s.lcu.recs, ?_, fun c => by simp [CondTable.filings, State.lift]⟩
    rw [show s.ct.filings 0 = 0 from Nat.zero_min _, State.filedFirst_zero]
    rfl
  | succ n ih =>
    by_cases hnone : s.ct.filings (n + 1) = 0
    · have hhead : s.fileHead = s := by
        unfold State.fileHead
        split
        next f rest hfiling =>
          have hlen : s.ct.filing.length = rest.length + 1 := by rw [hfiling]; rfl
          exact if_neg (by unfold CondTable.filings at hnone; omega)
        next => rfl
      have hnone' : s.ct.filings n = 0 := by unfold CondTable.filings at hnone ⊢; omega
      have hrest := ih h
      rw [hnone'] at hrest
      rwa [hnone, State.fileWaiting, hhead]
    · obtain ⟨f, rest, hfiling⟩ : ∃ f rest, s.ct.filing = f :: rest := by
        refine List.exists_cons_of_ne_nil fun hnil => hnone ?_
        simp [CondTable.filings, hnil]
      have hlen : s.ct.filing.length = rest.length + 1 := by rw [hfiling]; rfl
      have hfree : s.ct.lots.length < Config.poolSize := by unfold CondTable.filings at hnone; omega
      have hhead : s.fileHead = { s with
          ct := { s.ct with lots := s.ct.lots ++ [f.lot], filing := rest, serial := s.ct.serial + 1 }
          lcu := { s.lcu with recs := s.lcu.recs.set f.crane .idle } } := by
        simp only [State.fileHead, hfiling, if_pos hfree]
        exact if_neg (h f.crane)
      have hcount : s.ct.filings (n + 1) = s.fileHead.ct.filings n + 1 := by
        rw [hhead]
        simp only [CondTable.filings, hlen, List.length_append, List.length_singleton]
        omega
      obtain ⟨recs, heq, hget⟩ := ih (s := s.fileHead) (by rw [hhead]; exact h)
      refine ⟨recs, ?_, fun c => ?_⟩
      · rw [State.fileWaiting, heq, State.filedFirst_succ hfiling hhead, hcount]
      · have hlift : s.fileHead.lift c = if c = f.crane then .idle else s.lift c := by
          rw [hhead]
          exact PerCrane.get_set _ _ _ _
        have hrest : s.fileHead.ct.filing = rest := by rw [hhead]
        rw [hget, hcount, hfiling, hrest, hlift, List.take_succ_cons]
        by_cases hc : c = f.crane
        · simp [hc]
        · simp [hc, Ne.symm hc]

/-! ### The spaces judged afresh (R18, R36) -/

/-- A condition kept raised while it holds. -/
theorem State.Raised.keep_true (s : State) (k : AlarmKey) : s.Raised (s.keep k true) (· = k) := by
  unfold State.keep
  rw [if_pos rfl]
  by_cases hk : k ∈ s.als.held
  · rw [if_pos hk]
    exact ⟨.refl s, id, fun j => ⟨.inl, fun h => h.elim id fun hj => hj ▸ hk⟩⟩
  · rw [if_neg hk]
    exact .raise s k

/-- Some spaces judged, the others WITHIN as they were: the capacity states, and OVER_CAPACITY for those that are OVER. -/
structure State.SpacesJudged (s t : State) (judged : List Nat) : Prop where
  raised : s.Raised t fun k => ∃ a, k = ⟨.overCapacity, .addr a⟩ ∧ lookup t.ct.spaces a = some .over
  rest : t.ct = { s.ct with spaces := t.ct.spaces } ∧ t.lcu = s.lcu ∧ t.hds = s.hds
  spaces : ∀ a, lookup t.ct.spaces a = (s.tables.cargo a).map fun e =>
    if a ∈ judged then capStateOf (s.ct.load a) e.2 else .within

theorem State.SpacesJudged.none {s : State} (h : s.ct.spaces = spacesWithin s.tables) : s.SpacesJudged s [] := by
  have hspaces (a : Nat) : lookup s.ct.spaces a = (s.tables.cargo a).map fun _ => .within := by
    rw [h, lookup_spacesWithin]
    cases s.tables.cargo a <;> rfl
  refine ⟨(State.Raised.refl s).congr fun k => ?_, ⟨rfl, rfl, rfl⟩, fun a => by simp [hspaces]⟩
  simp [hspaces]

/-- One more space judged. -/
theorem State.SpacesJudged.judge {s t : State} {l : List Nat} (h : s.SpacesJudged t l) (a : Nat) :
    s.SpacesJudged (t.judgeSpace a) (l ++ [a]) := by
  obtain ⟨hraised, ⟨hct, hlcu, hhds⟩, hspaces⟩ := h
  have htables : t.tables = s.tables := hraised.carried.tables_eq
  have hload (b : Nat) : t.ct.load b = s.ct.load b := by rw [hct]; rfl
  cases hcargo : s.tables.cargo a with
  | none =>
    have hself : t.judgeSpace a = t := by simp [State.judgeSpace, htables, hcargo]
    rw [hself]
    refine ⟨hraised, ⟨hct, hlcu, hhds⟩, fun b => ?_⟩
    rw [hspaces]
    by_cases hb : b = a
    · simp [hb, hcargo]
    · simp [hb]
  | some e =>
    obtain ⟨box, capacity⟩ := e
    have hcargo' : t.tables.cargo a = some (box, capacity) := by rw [htables]; exact hcargo
    have hbefore : lookup t.ct.spaces a = some (if a ∈ l then capStateOf (s.ct.load a) capacity else .within) := by
      rw [hspaces, hcargo]
      rfl
    have hafter (b : Nat) : lookup (t.judgeSpace a).ct.spaces b =
        if b = a then some (capStateOf (s.ct.load a) capacity) else lookup t.ct.spaces b := by
      by_cases hb : b = a
      · rw [if_pos hb, hb, State.judgeSpace_self t a box capacity hcargo' (by rw [hbefore]; rfl), hload]
      · rw [if_neg hb, State.judgeSpace_other t a b hb]
    have hjudge := State.judgeSpace_withCtLcu hcargo' t.ct t.lcu
    rw [State.withCtLcu_self, hload] at hjudge
    refine ⟨?_, ⟨?_, by simp [hlcu], by simp [hhds]⟩, fun b => ?_⟩
    · by_cases hsame : lookup t.ct.spaces a = some (capStateOf (s.ct.load a) capacity)
      · rw [if_pos hsame] at hjudge
        rw [hjudge]
        exact hraised
      · have hfirst : a ∉ l := fun hmem => hsame (by rw [hbefore, if_pos hmem])
        rw [if_neg hfirst] at hbefore
        have hover : capStateOf (s.ct.load a) capacity = .over := by
          rw [hbefore] at hsame
          unfold capStateOf at hsame ⊢
          by_cases hc : capacity < s.ct.load a
          · exact if_pos hc
          · exact absurd (by rw [if_neg hc]) hsame
        rw [if_neg hsame, hover] at hjudge
        rw [hover] at hafter
        have hstep : t.Raised (t.judgeSpace a) (· = ⟨.overCapacity, .addr a⟩) := by
          rw [hjudge]
          refine ((State.Raised.keep_true t ⟨.overCapacity, .addr a⟩).trans (State.Raised.of_retaining ?_)).congr fun k => by simp
          rfl
        refine (hraised.trans hstep).congr fun k => ?_
        simp only [hafter]
        constructor
        · rintro (⟨b, hk, hb⟩ | hk)
          · exact ⟨b, hk, by split <;> simp [hb]⟩
          · exact ⟨a, hk, by rw [if_pos rfl]⟩
        · rintro ⟨b, hk, hb⟩
          by_cases hba : b = a
          · exact .inr (hba ▸ hk)
          · exact .inl ⟨b, hk, by rwa [if_neg hba] at hb⟩
    · calc (t.judgeSpace a).ct = { t.ct with spaces := (t.judgeSpace a).ct.spaces } :=
            congrArg State.ct (t.judgeSpace_eq a)
        _ = { s.ct with spaces := (t.judgeSpace a).ct.spaces } := by rw [hct]
    · rw [hafter, hspaces]
      by_cases hb : b = a
      · simp [hb, hcargo]
      · simp [hb]

/-- The defined spaces judged one after another (R18, R36). -/
theorem State.foldl_judgeSpace {s : State} (h : s.ct.spaces = spacesWithin s.tables) (l : List Nat) :
    s.SpacesJudged (l.foldl State.judgeSpace s) l := by
  induction l using List.reverseRecOn with
  | nil => exact .none h
  | append_singleton l a ih =>
    rw [List.foldl_append]
    exact ih.judge a

theorem Tables.mem_cargoAddrs {t : Tables} {a : Nat} (h : (t.cargo a).isSome = true) : a ∈ t.cargoAddrs :=
  List.mem_filter.2 ⟨Tables.mem_addrs_of_cargo h, h⟩

/-! ### The table's part of the retention (R36) -/

/-- How many waiting loads are filed when a table's entries are held against new definitions (R36). -/
def filedAnew (t : Tables) (ct : CondTable) : Nat :=
  min (allowedFiling t ct.filing).length (Config.poolSize - (allowedLots t ct.lots).length)

/-- How many lots and filing list entries new definitions drop (R36). -/
def tableDrops (t : Tables) (ct : CondTable) : Nat :=
  (ct.lots.length - (allowedLots t ct.lots).length) + (ct.filing.length - (allowedFiling t ct.filing).length)

/-- The retention of the Condition Table: the conditions raised are those of the spaces that are OVER, and of the LCU only
records of waiting loads change. -/
structure State.TableRetained (s t : State) : Prop where
  raised : s.Raised t fun k => ∃ a, k = ⟨.overCapacity, .addr a⟩ ∧ lookup t.ct.spaces a = some .over
  lots : t.ct.lots = allowedLots s.tables s.ct.lots ++
    ((allowedFiling s.tables s.ct.filing).take (filedAnew s.tables s.ct)).map Filing.lot
  filing : t.ct.filing = (allowedFiling s.tables s.ct.filing).drop (filedAnew s.tables s.ct)
  spaces : ∀ a, lookup t.ct.spaces a = (s.tables.cargo a).map fun e => capStateOf (t.ct.load a) e.2
  tanks : t.ct.tanks = (keptTable s.tables s.ct).tanks
  consts : t.ct.consts = (keptTable s.tables s.ct).consts
  structs : t.ct.structs = pedestalStructs s.tables
  serial : t.ct.serial = s.ct.serial + BitVec.ofNat 16 (tableDrops s.tables s.ct + filedAnew s.tables s.ct)
  hds : t.hds = { s.hds with dropped := tableDrops s.tables s.ct }
  unit : t.lcu = { s.lcu with recs := t.lcu.recs }
  lift : ∀ c, t.lift c = if (∃ f ∈ s.ct.filing, f.crane = c ∧ s.tables.cargo f.dest = none) ∨
    ∃ f ∈ (allowedFiling s.tables s.ct.filing).take (filedAnew s.tables s.ct), f.crane = c then .idle else s.lift c

theorem State.retainTable_retained {s : State} (hfiling : s.ct.filing.length ≤ 4)
    (hheld : ∀ c, (⟨.landedUnfiled, .crane c⟩ : AlarmKey) ∉ s.als.held) : s.TableRetained s.retainTable := by
  obtain ⟨recs, hdrop, hrecs⟩ := s.foldl_dropUnfiled s.ct.filing
  have hlots := keptTable_lots s.tables s.ct
  have hwaiting := keptTable_filing s.tables s.ct
  generalize hx : ({ s with
    ct := { keptTable s.tables s.ct with serial := s.ct.serial + BitVec.ofNat 16 (tableDrops s.tables s.ct) }
    lcu := { s.lcu with recs := recs }
    hds := { s.hds with dropped := tableDrops s.tables s.ct } } : State) = x
  have hxtables : x.tables = s.tables := by rw [← hx]; rfl
  have hxlots : x.ct.lots = allowedLots s.tables s.ct.lots := by rw [← hx]; exact hlots
  have hxfiling : x.ct.filing = allowedFiling s.tables s.ct.filing := by rw [← hx]; exact hwaiting
  have hcount : x.ct.filings 4 = filedAnew s.tables s.ct := by
    have hle : (allowedFiling s.tables s.ct.filing).length ≤ 4 := (List.length_filterMap_le _ _).trans hfiling
    unfold CondTable.filings filedAnew
    rw [hxlots, hxfiling]
    omega
  obtain ⟨recs', hfile, hrecs'⟩ := State.fileWaiting_eq 4 (s := x) (by rw [← hx]; exact hheld)
  have hdrops : (s.ct.lots.length - (keptTable s.tables s.ct).lots.length) +
      (s.ct.filing.length - (keptTable s.tables s.ct).filing.length) = tableDrops s.tables s.ct := by
    rw [hlots, hwaiting]
    rfl
  have hstart : ({ s.ct.filing.foldl State.dropUnfiled s with
      ct := keptTable s.tables s.ct
      hds.dropped := tableDrops s.tables s.ct } : State).bumpBy (tableDrops s.tables s.ct) = x := by
    rw [← hx, hdrop]
    rfl
  have hretain : s.retainTable = x.tables.cargoAddrs.foldl State.judgeSpace (x.filedFirst (x.ct.filings 4) recs') :=
    calc s.retainTable = (State.fileWaiting 4 x).tables.cargoAddrs.foldl State.judgeSpace (State.fileWaiting 4 x) := by
          rw [← hstart, ← hdrops]
          rfl
      _ = _ := by
          rw [hfile]
          rfl
  have hjudged := State.foldl_judgeSpace (s := x.filedFirst (x.ct.filings 4) recs') (by rw [← hx]; rfl) x.tables.cargoAddrs
  rw [← hretain, hcount] at hjudged
  obtain ⟨hraised, ⟨hct, hlcu, hhds⟩, hspaces⟩ := hjudged
  have hfield {β : Type} (g : CondTable → β) (hg : ∀ ct spaces, g { ct with spaces := spaces } = g ct) :
      g s.retainTable.ct = g (x.filedFirst (filedAnew s.tables s.ct) recs').ct := by
    rw [hct]
    exact hg _ _
  have hlots' : s.retainTable.ct.lots = allowedLots s.tables s.ct.lots ++
      ((allowedFiling s.tables s.ct.filing).take (filedAnew s.tables s.ct)).map Filing.lot := by
    rw [hfield CondTable.lots fun _ _ => rfl, ← hxlots, ← hxfiling]
    rfl
  have hfiling' : s.retainTable.ct.filing =
      (allowedFiling s.tables s.ct.filing).drop (filedAnew s.tables s.ct) := by
    rw [hfield CondTable.filing fun _ _ => rfl, ← hxfiling]
    rfl
  refine ⟨?_, hlots', hfiling', fun a => ?_, ?_, ?_, ?_, ?_, ?_, ?_, fun c => ?_⟩
  · refine State.Raised.congr ((State.Raised.of_retaining (s := s) (t := x.filedFirst (filedAnew s.tables s.ct) recs')
      ?_).trans hraised) fun k => by simp
    rw [← hx]
    rfl
  · have hload : s.retainTable.ct.load a = (x.filedFirst (filedAnew s.tables s.ct) recs').ct.load a :=
      hfield (CondTable.load · a) fun _ _ => rfl
    have hcargo : (x.filedFirst (filedAnew s.tables s.ct) recs').tables.cargo a = s.tables.cargo a := by rw [← hxtables]; rfl
    rw [hspaces, hload, hcargo]
    cases ha : s.tables.cargo a with
    | none => rfl
    | some e =>
      have hmem : a ∈ x.tables.cargoAddrs := Tables.mem_cargoAddrs (by rw [hxtables, ha]; rfl)
      simp only [if_pos hmem]
  · rw [hfield CondTable.tanks fun _ _ => rfl, ← hx]
    rfl
  · rw [hfield CondTable.consts fun _ _ => rfl, ← hx]
    rfl
  · rw [hfield CondTable.structs fun _ _ => rfl, ← hx]
    rfl
  · rw [hfield CondTable.serial fun _ _ => rfl, ← hx, BitVec.ofNat_add, ← BitVec.add_assoc]
    rfl
  · rw [hhds, ← hx]
    rfl
  · rw [hlcu, ← hx]
    rfl
  · have hlift : x.lift c = if ∃ f ∈ s.ct.filing, f.crane = c ∧ s.tables.cargo f.dest = none then .idle else s.lift c := by
      rw [← hrecs, ← hx]
      rfl
    have hlift' : s.retainTable.lift c = recs'.get c := by rw [State.lift, hlcu]; rfl
    rw [hlift', hrecs', hlift, hcount, hxfiling, ← ite_or]
    exact if_congr or_comm rfl rfl

end Sys2Proof.Machine
end

section
/-!
The worst point of a hook (R116, R117): the side that the evaluator's items give is the sign of the rest moment, and the
structures of the cranes adrift have no part in it.
-/

namespace Sys2Proof.Machine

set_option Elab.async false

/-! ### Sums over items (R117) -/

/-- What an item adds to the moment about the centreline. -/
def Item.moment (it : Item) : Int := it.w * it.pos.y

theorem sumOf_eq_sum (l : List Int) : sumOf l = l.sum := List.sum_eq_foldl.symm

theorem momentY_eq (l : List Item) : momentY l = (l.map Item.moment).sum := sumOf_eq_sum _

theorem momentY_append (l l' : List Item) : momentY (l ++ l') = momentY l + momentY l' := by
  rw [momentY_eq, momentY_eq, momentY_eq, List.map_append, List.sum_append]

theorem momentY_flatMap {α : Type} (l : List α) (f : α → List Item) :
    momentY (l.flatMap f) = (l.map fun a => momentY (f a)).sum := by
  induction l with
  | nil => rfl
  | cons a l ih => rw [List.flatMap_cons, momentY_append, ih, List.map_cons, List.sum_cons]

theorem momentY_map {α : Type} (l : List α) (f : α → Item) : momentY (l.map f) = (l.map fun a => (f a).moment).sum := by
  rw [momentY_eq, List.map_map]
  rfl

theorem momentY_singleton (it : Item) : momentY [it] = it.moment := by simp [momentY_eq]

/-- A sum over the members that pass a test. -/
theorem sum_map_filter {α : Type} (l : List α) (p : α → Bool) (f : α → Int) :
    ((l.filter p).map f).sum = (l.map fun a => if p a = true then f a else 0).sum := by
  induction l with
  | nil => rfl
  | cons a l ih =>
    rw [List.filter_cons]
    split <;> simp_all

/-! ### The items of an image and what they add up to (R52 to R54, R117) -/

theorem carried_eq (recs : PerCrane LiftRec) (c : Crane) : carried recs c = onHook recs c := by
  unfold carried onHook
  cases recs.get c with
  | hooked l => cases ht : l.tandem <;> simp [ht]
  | partner n k => cases recs.get k <;> rfl
  | _ => rfl

theorem adrift_eq (recs : PerCrane LiftRec) (hooks : PerCrane Hook) (c : Crane) :
    adrift recs hooks c = strays recs hooks c := by
  unfold adrift strays
  rw [carried_eq]

theorem Scene.momentY_fixed (sc : Scene) (t : Tables) : momentY (sc.fixed t) = sc.countFixed t Item.moment := by
  have hspread (a : Nat) (w : Int) (q : Pos) : (spreadItem t a w q).moment = w * q.y := rfl
  have htank (e : Nat × TankLive) : momentY (tankItem t e) = match t.tank e.1 with
      | some d => e.2.weight * d.cy
      | none => 0 := by
    unfold tankItem
    cases t.tank e.1 with
    | none => rfl
    | some d => exact momentY_singleton _
  have hlight : momentY (lightship t) = match t.hull with
      | some h => h.weight * h.pos.y
      | none => 0 := by
    unfold lightship
    cases t.hull with
    | none => rfl
    | some h => exact momentY_singleton _
  unfold Scene.fixed Scene.countFixed
  simp only [momentY_append, momentY_map, momentY_flatMap, hlight, htank, sumOf_eq_sum]
  rw [momentY_eq]
  rfl

theorem Scene.momentY_craneItems (sc : Scene) (t : Tables) (recs : PerCrane LiftRec) (hooks : PerCrane Hook)
    (structs : PerCrane (Option Pos)) (c : Crane) :
    momentY (sc.craneItems t recs hooks structs c) = sc.countCrane t recs hooks structs Item.moment c := by
  have hstructure (q : Pos) : momentY (structureItem t c q) = match t.crane c with
      | some d => d.weight * q.y
      | none => 0 := by
    unfold structureItem
    cases t.crane c with
    | none => rfl
    | some d => exact momentY_singleton _
  have hnil : momentY [] = 0 := rfl
  unfold Scene.craneItems Scene.countCrane
  rw [momentY_append, carried_eq]
  congr 1
  · cases onHook recs c with
    | none => rfl
    | some w => exact momentY_singleton _
  · cases hd : t.crane c with
    | none =>
      have hnone (q : Pos) : momentY (structureItem t c q) = 0 := by rw [hstructure, hd]
      cases sc.place.get c <;> cases structs.get c <;> simp [hnone, hnil]
    | some d =>
      have hsome (q : Pos) : momentY (structureItem t c q) = d.weight * q.y := by rw [hstructure, hd]
      cases sc.place.get c with
      | some q => exact hsome _
      | none =>
        cases structs.get c with
        | some q => exact hsome _
        | none => rfl

/-- The side that the evaluator takes is the sign of the rest moment (R117). -/
theorem Scene.sideOf_rest (sc : Scene) (t : Tables) (recs : PerCrane LiftRec) (hooks : PerCrane Hook)
    (structs : PerCrane (Option Pos)) : sideOf (sc.rest t recs hooks structs) = sc.worstSide t recs hooks structs := by
  have hcranes : ((cranes.filter fun c => !adrift recs hooks c).map fun c =>
      momentY (sc.craneItems t recs hooks structs c)).sum =
      sumOf (cranes.map fun c => if strays recs hooks c = true then 0 else sc.countCrane t recs hooks structs Item.moment c) := by
    rw [sum_map_filter, sumOf_eq_sum]
    refine congrArg List.sum (List.map_congr_left fun c _ => ?_)
    rw [adrift_eq, Scene.momentY_craneItems]
    cases strays recs hooks c <;> rfl
  unfold sideOf Scene.rest
  rw [momentY_append, Scene.momentY_fixed, momentY_flatMap, hcranes]
  rfl

/-- The structures of the cranes adrift do not count (R117). -/
theorem Scene.worstSide_congr (sc : Scene) (t : Tables) {recs : PerCrane LiftRec} {hooks : PerCrane Hook}
    {structs structs' : PerCrane (Option Pos)}
    (h : ∀ c, strays recs hooks c = false → structs'.get c = structs.get c) :
    sc.worstSide t recs hooks structs' = sc.worstSide t recs hooks structs := by
  have hcrane (f : Item → Int) (c : Crane) :
      (if strays recs hooks c = true then 0 else sc.countCrane t recs hooks structs' f c) =
        if strays recs hooks c = true then 0 else sc.countCrane t recs hooks structs f c := by
    by_cases hs : strays recs hooks c = true
    · rw [if_pos hs, if_pos hs]
    · rw [if_neg hs, if_neg hs, Scene.countCrane, Scene.countCrane, h c (by simpa using hs)]
  unfold Scene.worstSide
  simp only [hcrane]

/-- The structure at the worst point of its hook (R116, R117). -/
theorem State.centroid_worst (s : State) (d : CraneDef) : d.centroid (s.worst d) = s.worstCentroid s.lcu.hooks d := by
  unfold State.worst State.worstCentroid worstPoint
  rw [Scene.sideOf_rest]
  rfl

end Sys2Proof.Machine
end

section
/-!
The LCU's part of a LINE or RESTART retention (R78, R115, R116, R119): the HOOKED records whose cranes are no longer
defined, the retained ones with their hooks and partners, the alarms, and the structures at the worst point.
-/

namespace Sys2Proof.Machine

set_option Elab.async false

@[simp] theorem mate_mate (c : Crane) : mate (mate c) = c := by cases c <;> rfl

/-! ### The dropped hook loads (R119) -/

/-- Whether a crane's hook load is dropped for want of a definition (R119). -/
def State.dropsHook (s t : State) (c : Crane) : Bool := (s.lift c).hookedLot.isSome && (s.keptLoad t c).isNone

/-- The kept load is read from the record and the definitions. -/
theorem State.keptLoad_congr {s s' t t' : State} {c : Crane} (hlift : s'.lift c = s.lift c) (htables : t'.tables = t.tables) :
    s'.keptLoad t' c = s.keptLoad t c := by
  unfold State.keptLoad
  rw [hlift, htables]

theorem State.keptLoad_hooked {s t : State} {c : Crane} {l : Load} (h : s.keptLoad t c = some l) : s.lift c = .hooked l := by
  unfold State.keptLoad at h
  split at h
  next l' hl =>
    split at h
    · cases h
      exact hl
    · cases h
  next => cases h

theorem State.keptLoad_defined {s t : State} {c : Crane} {l : Load} (h : s.keptLoad t c = some l) :
    (t.tables.crane c).isSome = true ∧ (l.tandem.isSome = true → (t.tables.crane (mate c)).isSome = true) := by
  unfold State.keptLoad at h
  split at h
  next l' hl =>
    split at h
    next hdef =>
      cases h
      rw [Bool.and_eq_true, Bool.or_eq_true] at hdef
      exact ⟨hdef.1, fun ht => hdef.2.resolve_left fun hn => by
        rw [Option.isNone_iff_eq_none.1 hn] at ht
        cases ht⟩
    next => cases h
  next => cases h

theorem State.keptLoad_of_hooked {s : State} {c : Crane} {l : Load} (h : s.lift c = .hooked l) :
    s.keptLoad s c = if s.cranesDefined c l = true then some l else none := by
  have hdef : s.cranesDefined c l =
      ((s.tables.crane c).isSome && (l.tandem.isNone || (s.tables.crane (mate c)).isSome)) := by
    unfold State.cranesDefined
    cases l.tandem <;> rfl
  simp only [State.keptLoad, h, hdef]

theorem State.dropHooked_eq (s : State) (c : Crane) : s.dropHooked c =
    if s.dropsHook s c = true then { s.setLift c .idle with hds.dropped := s.hds.dropped + 1 }.bump else s := by
  unfold State.dropHooked State.dropsHook
  cases hl : s.lift c with
  | hooked l => cases hdef : s.cranesDefined c l <;> simp [State.keptLoad_of_hooked hl, hdef, LiftRec.hookedLot]
  | _ => simp [LiftRec.hookedLot]

/-- Some cranes' undefined hook loads dropped, each as one operation. -/
structure State.HooksDropped (s t : State) (l : List Crane) : Prop where
  rest : t = { s with
    ct := { s.ct with serial := s.ct.serial + BitVec.ofNat 16 (l.countP (s.dropsHook s)) }
    lcu := { s.lcu with recs := t.lcu.recs }
    hds := { s.hds with dropped := s.hds.dropped + l.countP (s.dropsHook s) } }
  lift : ∀ c, t.lift c = if c ∈ l ∧ s.dropsHook s c = true then .idle else s.lift c

theorem State.foldl_dropHooked (s : State) : s.HooksDropped (cranes.foldl State.dropHooked s) cranes := by
  refine foldl_cranes (P := fun l t => s.HooksDropped t l) ⟨by simp, by simp⟩ fun l c t hc h => ?_
  obtain ⟨hrest, hlift⟩ := h
  have htables : t.tables = s.tables := by rw [hrest]; rfl
  have hsame : t.lift c = s.lift c := by rw [hlift, if_neg fun h => hc h.1]
  have hdrops : t.dropsHook t c = s.dropsHook s c := by
    unfold State.dropsHook
    rw [hsame, State.keptLoad_congr hsame htables]
  rw [State.dropHooked_eq, hdrops]
  by_cases hd : s.dropsHook s c = true
  · rw [if_pos hd]
    have hcount : (l ++ [c]).countP (s.dropsHook s) = l.countP (s.dropsHook s) + 1 := by simp [hd]
    refine ⟨?_, fun k => ?_⟩
    · rw [hcount, BitVec.ofNat_add, ← BitVec.add_assoc, hrest]
      rfl
    · show (t.lcu.recs.set c .idle).get k = _
      rw [PerCrane.get_set]
      by_cases hk : k = c
      · simp [hk, hd]
      · rw [if_neg hk]
        exact (hlift k).trans (by simp [hk])
  · rw [if_neg hd]
    have hcount : (l ++ [c]).countP (s.dropsHook s) = l.countP (s.dropsHook s) := by simp [hd]
    refine ⟨by rw [hcount]; exact hrest, fun k => ?_⟩
    rw [hlift]
    by_cases hk : k = c
    · simp [hk, hd]
    · simp [hk]

/-! ### The retained hooks (R116, R119) -/

/-- The load of a HOOKED record. -/
def LiftRec.load : LiftRec → Option Load
  | .hooked l => some l
  | _ => none

theorem LiftRec.load_eq_some {r : LiftRec} {l : Load} : r.load = some l ↔ r = .hooked l := by
  cases r <;> simp [LiftRec.load]

/-- The lot of the tandem lift that a crane shares with the crane of its pair. -/
def State.share (s : State) (c : Crane) : Option Nat :=
  (s.lift (mate c)).load.bind fun l => if l.tandem.isSome then some l.lot else none

theorem State.share_eq_some {s : State} {c : Crane} {n : Nat} :
    s.share c = some n ↔ ∃ l, s.lift (mate c) = .hooked l ∧ l.tandem.isSome = true ∧ l.lot = n := by
  simp [State.share, Option.bind_eq_some_iff, LiftRec.load_eq_some]

/-- The tandem lifts are their lower ports', and the partner's record is not HOOKED (R105, R107). -/
def State.tandemsApart (s : State) : Prop :=
  ∀ c l, s.lift c = .hooked l → l.tandem.isSome = true → isUpper c = false ∧ (s.lift (mate c)).load = none

theorem State.tandemsApart.load_of_share {s : State} (h : s.tandemsApart) {c : Crane} (hs : (s.share c).isSome = true) :
    (s.lift c).load = none := by
  obtain ⟨n, hn⟩ := Option.isSome_iff_exists.1 hs
  obtain ⟨l, hl, ht, -⟩ := State.share_eq_some.1 hn
  have := (h _ l hl ht).2
  rwa [mate_mate] at this

/-- One hook goes UNKNOWN (R116, R119). -/
theorem State.retainHook_raised (s : State) (before : PerCrane Hook) (c : Crane) :
    s.Raised (s.retainHook before c) (· = ⟨.positionUnknown, .crane c⟩) :=
  ((State.Raised.of_retaining (t := s.setHook c { before.get c with source := .unknown }) rfl).trans
    (State.Raised.raise _ _)).congr fun k => by simp

theorem State.retainHook_lcu (s : State) (before : PerCrane Hook) (c : Crane) :
    (s.retainHook before c).lcu =
      { s.lcu with hooks := s.lcu.hooks.set c { before.get c with source := .unknown } } := State.raise_lcu _ _

theorem State.retainHook_ct (s : State) (before : PerCrane Hook) (c : Crane) : (s.retainHook before c).ct = s.ct :=
  State.raise_ct _ _

theorem State.retainHook_hds (s : State) (before : PerCrane Hook) (c : Crane) : (s.retainHook before c).hds = s.hds :=
  State.raise_hds _ _

/-- The conditions that a retained hook load brings (R78, R119). -/
def Load.alarms (l : Load) (c : Crane) (k : AlarmKey) : Prop :=
  (l.unpermitted = true ∧ k = ⟨.unpermittedLift, .crane c⟩) ∨ k = ⟨.positionUnknown, .crane c⟩ ∨
    (l.tandem.isSome = true ∧ k = ⟨.positionUnknown, .crane (mate c)⟩)

/-- The LCU with a hook load retained: the hooks UNKNOWN, a tandem's partner and its pairing (R119). -/
def Lcu.hookRetained (u : Lcu) (before : PerCrane Hook) (c : Crane) (l : Load) : Lcu :=
  let u1 := { u with hooks := u.hooks.set c { before.get c with source := .unknown } }
  if l.tandem.isSome = true then
    { u1.pairOn c with
      recs := u.recs.set (mate c) (.partner l.lot c)
      hooks := u1.hooks.set (mate c) { before.get (mate c) with source := .unknown } }
  else u1

theorem Lcu.hookRetained_recs (u : Lcu) (before : PerCrane Hook) (c : Crane) (l : Load) (k : Crane) :
    (u.hookRetained before c l).recs.get k =
      if k = mate c ∧ l.tandem.isSome = true then .partner l.lot c else u.recs.get k := by
  unfold Lcu.hookRetained
  by_cases ht : l.tandem.isSome = true <;> simp [ht]

theorem Lcu.hookRetained_hooks (u : Lcu) (before : PerCrane Hook) (c : Crane) (l : Load) (k : Crane) :
    (u.hookRetained before c l).hooks.get k =
      if k = c ∨ (k = mate c ∧ l.tandem.isSome = true) then { before.get k with source := .unknown }
      else u.hooks.get k := by
  unfold Lcu.hookRetained
  by_cases ht : l.tandem.isSome = true
  · by_cases hm : k = mate c
    · simp [ht, hm]
    · by_cases hc : k = c
      · simp [ht, hc, (mate_ne c).symm]
      · simp [ht, hm, hc]
  · by_cases hc : k = c <;> simp [ht, hc]

/-- A lower port's tandem turns its pair on; every other part of the LCU stays. -/
theorem Lcu.hookRetained_eq (u : Lcu) (before : PerCrane Hook) {c : Crane} {l : Load}
    (h : l.tandem.isSome = true → isUpper c = false) : u.hookRetained before c l = { u with
      recs := (u.hookRetained before c l).recs
      hooks := (u.hookRetained before c l).hooks
      pairA := u.pairA || (decide (c = .k1) && l.tandem.isSome)
      pairB := u.pairB || (decide (c = .k3) && l.tandem.isSome) } := by
  unfold Lcu.hookRetained
  by_cases ht : l.tandem.isSome = true
  · have hlower := h ht
    cases c <;> simp_all [Lcu.pairOn, isUpper]
  · simp [ht]

theorem State.retainHooked_hooked {s : State} {c : Crane} {l : Load} (h : s.lift c = .hooked l) (before : PerCrane Hook) :
    let t := State.retainHooked before s c
    s.Raised t (l.alarms c) ∧ t.ct = s.ct ∧ t.hds = s.hds ∧ t.lcu = s.lcu.hookRetained before c l := by
  have heq : State.retainHooked before s c =
      let s2 := (if l.unpermitted then s.raise ⟨.unpermittedLift, .crane c⟩ else s).retainHook before c
      if l.tandem.isSome then
        ({ s2 with lcu := s2.lcu.pairOn c }.setLift (mate c) (.partner l.lot c)).retainHook before (mate c)
      else s2 := by simp only [State.retainHooked, h]
  have hpermit := State.Raised.raise_if s l.unpermitted ⟨.unpermittedLift, .crane c⟩
  have hlcu : (if l.unpermitted = true then s.raise ⟨.unpermittedLift, .crane c⟩ else s).lcu = s.lcu := by split <;> simp
  have hct : (if l.unpermitted = true then s.raise ⟨.unpermittedLift, .crane c⟩ else s).ct = s.ct := by split <;> simp
  have hhds : (if l.unpermitted = true then s.raise ⟨.unpermittedLift, .crane c⟩ else s).hds = s.hds := by split <;> simp
  generalize (if l.unpermitted = true then s.raise ⟨.unpermittedLift, .crane c⟩ else s) = x at heq hpermit hlcu hct hhds
  intro t
  have hown := hpermit.trans (x.retainHook_raised before c)
  by_cases ht : l.tandem.isSome = true
  · have ht' : t = ({ x.retainHook before c with lcu := (x.retainHook before c).lcu.pairOn c }.setLift (mate c)
        (.partner l.lot c)).retainHook before (mate c) := heq.trans (if_pos ht)
    refine ⟨?_, ?_, ?_, ?_⟩
    · rw [ht']
      refine ((hown.trans (State.Raised.of_retaining rfl)).trans (State.retainHook_raised _ before (mate c))).congr
        fun k => ?_
      simp [Load.alarms, ht, or_assoc]
    · rw [ht', State.retainHook_ct]
      exact (x.retainHook_ct before c).trans hct
    · rw [ht', State.retainHook_hds]
      exact (x.retainHook_hds before c).trans hhds
    · rw [ht', State.retainHook_lcu, Lcu.hookRetained, if_pos ht, ← hlcu]
      simp only [State.setLift, State.retainHook_lcu]
      cases c <;> rfl
  · have ht' : t = x.retainHook before c := heq.trans (if_neg ht)
    refine ⟨?_, ?_, ?_, ?_⟩
    · rw [ht']
      refine hown.congr fun k => ?_
      simp [Load.alarms, ht]
    · rw [ht', State.retainHook_ct, hct]
    · rw [ht', State.retainHook_hds, hhds]
    · rw [ht', State.retainHook_lcu, Lcu.hookRetained, if_neg ht, hlcu]

theorem State.retainHooked_unhooked {s : State} {c : Crane} (h : (s.lift c).load = none) (before : PerCrane Hook) :
    State.retainHooked before s c = s := by
  unfold State.retainHooked
  split
  next l hl => simp [LiftRec.load, hl] at h
  next => rfl

/-- The retained hook loads of some cranes: their hooks, partners, pairings and conditions. -/
structure State.HooksRetained (s t : State) (before : PerCrane Hook) (l : List Crane) : Prop where
  raised : s.Raised t fun k => ∃ c ∈ l, ∃ ld, s.lift c = .hooked ld ∧ ld.alarms c k
  ct : t.ct = s.ct
  hds : t.hds = s.hds
  unit : t.lcu = { s.lcu with
    recs := t.lcu.recs
    hooks := t.lcu.hooks
    pairA := s.lcu.pairA || (decide (mate .k2 ∈ l) && (s.share .k2).isSome)
    pairB := s.lcu.pairB || (decide (mate .k4 ∈ l) && (s.share .k4).isSome) }
  lift : ∀ k, t.lift k = match (if mate k ∈ l then s.share k else none) with
    | some n => .partner n (mate k)
    | none => s.lift k
  hook : ∀ k, t.hook k = if (k ∈ l ∧ (s.lift k).load.isSome = true) ∨ (mate k ∈ l ∧ (s.share k).isSome = true) then
      { before.get k with source := .unknown }
    else s.hook k

theorem State.foldl_retainHooked {s : State} (h : s.tandemsApart) (before : PerCrane Hook) :
    s.HooksRetained (cranes.foldl (State.retainHooked before) s) before cranes := by
  refine foldl_cranes (P := fun l t => s.HooksRetained t before l) ⟨?_, rfl, rfl, ?_, ?_, ?_⟩ fun l c t hc ht => ?_
  · exact (State.Raised.refl s).congr fun k => by simp
  · simp
  · simp
  · simp
  obtain ⟨hraised, hct, hhds, hunit, hlift, hhook⟩ := ht
  have hmem (k : Crane) (hk : k ≠ c) : k ∈ l ++ [c] ↔ k ∈ l := by simp [hk]
  cases hload : (s.lift c).load with
  | none =>
    have hsame : (t.lift c).load = none := by
      rw [hlift]
      split
      · rfl
      · exact hload
    have hshare (k : Crane) (hk : mate k = c) : s.share k = none := by simp [State.share, hk, hload]
    rw [State.retainHooked_unhooked hsame]
    have hpair (k : Crane) : (decide (mate k ∈ l ++ [c]) && (s.share k).isSome) =
        (decide (mate k ∈ l) && (s.share k).isSome) := by
      by_cases hk : mate k = c
      · simp [hshare k hk]
      · simp [hmem _ hk]
    refine ⟨hraised.congr fun k => ?_, hct, hhds, ?_, fun k => ?_, fun k => ?_⟩
    · have hno (ld : Load) : s.lift c ≠ .hooked ld := fun he => by simp [LiftRec.load_eq_some.2 he] at hload
      simp [or_and_right, exists_or, hno]
    · rw [hpair .k2, hpair .k4]
      exact hunit
    · rw [hlift]
      by_cases hk : mate k = c
      · simp [hshare k hk]
      · simp only [hmem _ hk]
    · rw [hhook]
      refine if_congr (or_congr ?_ ?_) rfl rfl
      · by_cases hk : k = c
        · simp [hk, hload]
        · simp [hmem _ hk]
      · by_cases hk : mate k = c
        · simp [hshare k hk]
        · simp [hmem _ hk]
  | some ld =>
    have hhooked := LiftRec.load_eq_some.1 hload
    have halone : s.share c = none := by
      by_contra hsome
      rw [h.load_of_share (Option.isSome_iff_ne_none.2 hsome)] at hload
      cases hload
    have hnow : t.lift c = .hooked ld := by rw [hlift, halone, ite_self, hhooked]
    have hshare (k : Crane) (hk : mate k = c) :
        s.share k = if ld.tandem.isSome then some ld.lot else none := by simp [State.share, hk, hload]
    have hlower (ht : ld.tandem.isSome = true) : isUpper c = false := (h c ld hhooked ht).1
    have hmate (k : Crane) : k = mate c ↔ mate k = c := ⟨fun hk => by rw [hk, mate_mate], fun hk => by rw [← hk, mate_mate]⟩
    obtain ⟨hraised', hct', hhds', hlcu'⟩ := State.retainHooked_hooked hnow before
    have hpair (k : Crane) : (decide (mate k ∈ l ++ [c]) && (s.share k).isSome) =
        ((decide (mate k ∈ l) && (s.share k).isSome) || (decide (c = mate k) && ld.tandem.isSome)) := by
      by_cases hk : mate k = c
      · cases htan : ld.tandem <;> simp [hshare k hk, hk, htan]
      · simp [hmem _ hk, Ne.symm hk]
    refine ⟨?_, hct'.trans hct, hhds'.trans hhds, ?_, fun k => ?_, fun k => ?_⟩
    · refine (hraised.trans hraised').congr fun k => ?_
      simp only [List.mem_append, List.mem_singleton, or_and_right, exists_or, exists_eq_left, hhooked,
        LiftRec.hooked.injEq, exists_eq_left']
    · rw [hlcu', Lcu.hookRetained_eq _ _ hlower, hunit, hpair .k2, hpair .k4, ← Bool.or_assoc, ← Bool.or_assoc]
      rfl
    · show (State.retainHooked before t c).lcu.recs.get k = _
      rw [hlcu', Lcu.hookRetained_recs]
      have hrest : t.lcu.recs.get k = _ := hlift k
      rw [hrest]
      by_cases hk : mate k = c
      · obtain rfl := (hmate k).2 hk
        cases htan : ld.tandem <;> simp [hshare _ hk, htan, hc]
      · have hother : k ≠ mate c := fun he => hk ((hmate k).1 he)
        simp only [hmem _ hk, hother, false_and, if_false]
    · show (State.retainHooked before t c).lcu.hooks.get k = _
      rw [hlcu', Lcu.hookRetained_hooks]
      have hrest : t.lcu.hooks.get k = _ := hhook k
      rw [hrest, ← ite_or]
      refine if_congr ?_ rfl rfl
      by_cases hk : mate k = c
      · obtain rfl := (hmate k).2 hk
        cases htan : ld.tandem <;> simp [hshare _ hk, htan, hc, mate_ne c]
      · have hother : k ≠ mate c := fun he => hk ((hmate k).1 he)
        by_cases hkc : k = c
        · simp [hkc, hload]
        · simp [hmem _ hk, hmem _ hkc, hother, hkc]

/-! ### LANDED_UNFILED raised again (R78) -/

theorem LiftRec.unfiledLot_eq_some {r : LiftRec} {n : Nat} : r.unfiledLot = some n ↔ ∃ w, r = .unfiled n w := by
  cases r <;> simp [LiftRec.unfiledLot]

theorem State.retainUnfiled_eq (s : State) (c : Crane) : s.retainUnfiled c =
    if (s.lift c).unfiledLot.isSome = true then s.raise ⟨.landedUnfiled, .crane c⟩ else s := by
  unfold State.retainUnfiled
  cases s.lift c <;> rfl

/-- LANDED_UNFILED is raised for the records of waiting loads, and nothing else changes. -/
theorem State.foldl_retainUnfiled (s : State) :
    s.Raised (cranes.foldl State.retainUnfiled s)
        (fun k => ∃ c ∈ cranes, (s.lift c).unfiledLot.isSome = true ∧ k = ⟨.landedUnfiled, .crane c⟩) ∧
      (cranes.foldl State.retainUnfiled s).ct = s.ct ∧ (cranes.foldl State.retainUnfiled s).lcu = s.lcu ∧
      (cranes.foldl State.retainUnfiled s).hds = s.hds := by
  refine foldl_cranes (P := fun l t => s.Raised t
      (fun k => ∃ c ∈ l, (s.lift c).unfiledLot.isSome = true ∧ k = ⟨.landedUnfiled, .crane c⟩) ∧
    t.ct = s.ct ∧ t.lcu = s.lcu ∧ t.hds = s.hds) ⟨(State.Raised.refl s).congr fun k => by simp, rfl, rfl, rfl⟩
    fun l c t _ h => ?_
  obtain ⟨hraised, hct, hlcu, hhds⟩ := h
  have hlift : t.lift c = s.lift c := by rw [State.lift, hlcu]; rfl
  rw [State.retainUnfiled_eq, hlift]
  refine ⟨(hraised.trans (State.Raised.raise_if t _ _)).congr fun k => ?_, ?_, ?_, ?_⟩
  · simp only [List.mem_append, List.mem_singleton, or_and_right, exists_or, exists_eq_left]
  · split
    · rw [State.raise_ct, hct]
    · exact hct
  · split
    · rw [State.raise_lcu, hlcu]
    · exact hlcu
  · split
    · rw [State.raise_hds, hhds]
    · exact hhds

/-! ### The structures at the worst point (R116, R117, R119) -/

/-- The worst point is read from the definitions, the table and the LCU, but not from the structures of cranes adrift. -/
theorem State.worstCentroid_congr {s t : State} (htables : t.tables = s.tables)
    (hct : t.ct = { s.ct with structs := t.ct.structs, serial := t.ct.serial }) (hlcu : t.lcu = s.lcu)
    (hstructs : ∀ c, strays s.lcu.recs s.lcu.hooks c = false → t.ct.structs.get c = s.ct.structs.get c) (d : CraneDef) :
    t.worstCentroid t.lcu.hooks d = s.worstCentroid s.lcu.hooks d := by
  have hscene : t.ct.scene = s.ct.scene := by rw [hct]; rfl
  unfold State.worstCentroid
  rw [hscene, htables, hlcu, Scene.worstSide_congr _ _ hstructs]

/-- Every crane that holds a load is defined and its hook adrift (R116, R119). -/
def State.holdersAdrift (s : State) : Prop :=
  ∀ c, (s.lift c).holdsLoad = true → (s.tables.crane c).isSome = true ∧ strays s.lcu.recs s.lcu.hooks c = true

/-- The structures of some cranes that hold loads moved to the worst point, each as one operation. -/
structure State.StructuresMoved (s t : State) (l : List Crane) : Prop where
  rest : t = { s with ct := { s.ct with
    structs := t.ct.structs
    serial := s.ct.serial + BitVec.ofNat 16 (l.countP fun c => (s.lift c).holdsLoad) } }
  structs : ∀ k, t.ct.structs.get k = if k ∈ l ∧ (s.lift k).holdsLoad = true then
      (s.tables.crane k).map (s.worstCentroid s.lcu.hooks)
    else s.ct.structs.get k

/-- The worst point stays as it is while structures are moved to it. -/
theorem State.StructuresMoved.worstCentroid_eq {s t : State} {l : List Crane} (h : s.StructuresMoved t l)
    (hs : s.holdersAdrift) (d : CraneDef) : t.worstCentroid t.lcu.hooks d = s.worstCentroid s.lcu.hooks d := by
  obtain ⟨hrest, hstructs⟩ := h
  refine State.worstCentroid_congr (by rw [hrest]; rfl) (by rw [hrest]) (by rw [hrest]) (fun c hc => ?_) d
  rw [hstructs, if_neg]
  rintro ⟨-, hholds⟩
  rw [(hs c hholds).2] at hc
  cases hc

theorem State.foldl_retainStructure {s : State} (hs : s.holdersAdrift) :
    s.StructuresMoved (cranes.foldl State.retainStructure s) cranes := by
  refine foldl_cranes (P := fun l t => s.StructuresMoved t l) ⟨by simp, by simp⟩ fun l c t hc h => ?_
  have hworst := h.worstCentroid_eq hs
  obtain ⟨hrest, hstructs⟩ := h
  have hlift : t.lift c = s.lift c := by rw [hrest]; rfl
  unfold State.retainStructure
  rw [hlift]
  by_cases hholds : (s.lift c).holdsLoad = true
  · obtain ⟨d, hd⟩ := Option.isSome_iff_exists.1 (hs c hholds).1
    have hd' : t.tables.crane c = some d := by rw [hrest]; exact hd
    have hmove : t.structureToWorst c =
        { t with ct.structs := t.ct.structs.set c (some (s.worstCentroid s.lcu.hooks d)) } := by
      unfold State.structureToWorst State.moveStructure
      rw [hd', ← hworst d, ← State.centroid_worst]
    have hcount : (l ++ [c]).countP (fun c => (s.lift c).holdsLoad) = l.countP (fun c => (s.lift c).holdsLoad) + 1 := by
      simp [hholds]
    rw [if_pos hholds, hmove]
    refine ⟨?_, fun k => ?_⟩
    · rw [hcount, BitVec.ofNat_add, ← BitVec.add_assoc, hrest]
      rfl
    · show (t.ct.structs.set c (some (s.worstCentroid s.lcu.hooks d))).get k = _
      rw [PerCrane.get_set, hstructs]
      by_cases hk : k = c
      · simp [hk, hholds, hd]
      · simp [hk]
  · rw [if_neg hholds]
    have hcount : (l ++ [c]).countP (fun c => (s.lift c).holdsLoad) = l.countP (fun c => (s.lift c).holdsLoad) := by
      simp [hholds]
    refine ⟨by rw [hcount]; exact hrest, fun k => ?_⟩
    rw [hstructs]
    by_cases hk : k = c
    · simp [hk, hholds]
    · simp [hk]

end Sys2Proof.Machine
end

section
/-!
The LCU's part of a LINE or RESTART retention as a whole (R78, R115, R119): what it leaves of records, hooks, structures,
pairings and counts, and the conditions that it raises.
-/

namespace Sys2Proof.Machine

set_option Elab.async false

/-- A crane's record after the reset: its own hook load, its share of a tandem lift, or what is left (R78, R119). -/
def State.recordKept (s : State) (c : Crane) : LiftRec :=
  match s.keptLoad s c, s.keptPartner s c with
  | some l, _ => .hooked l
  | none, some n => .partner n (mate c)
  | none, none => if (s.lift c).load.isSome = true then .idle else s.lift c

/-- What the retention of the lifts leaves, in the words of the statements about resets. -/
structure State.LiftsRetained (s t : State) : Prop where
  raised : s.Raised t fun k => (∃ c l, k = ⟨.unpermittedLift, .crane c⟩ ∧ t.lift c = .hooked l ∧ l.unpermitted = true) ∨
    (∃ c, k = ⟨.positionUnknown, .crane c⟩ ∧ (t.lift c).holdsLoad = true) ∨
    ∃ c n w, k = ⟨.landedUnfiled, .crane c⟩ ∧ t.lift c = .unfiled n w
  ct : t.ct = { s.ct with
    structs := t.ct.structs
    serial := s.ct.serial +
      BitVec.ofNat 16 (cranes.countP (s.dropsHook s) + cranes.countP fun c => s.keptHolds s c) }
  hds : t.hds = { s.hds with dropped := s.hds.dropped + cranes.countP (s.dropsHook s) }
  unit : t.lcu = { s.lcu with
    recs := t.lcu.recs
    hooks := t.lcu.hooks
    pairA := s.lcu.pairA || (s.keptPartner s .k2).isSome
    pairB := s.lcu.pairB || (s.keptPartner s .k4).isSome }
  lift : ∀ c, t.lift c = s.recordKept c
  hook : ∀ c, t.hook c = if s.keptHolds s c = true then { s.hook c with source := .unknown }
    else (pedestalHooks s.tables).get c
  structs : ∀ c, t.ct.structs.get c = if s.keptHolds s c = true then
      (s.tables.crane c).map (t.worstCentroid t.lcu.hooks)
    else s.ct.structs.get c

/-! ### After the drops -/

/-- A record that is not dropped keeps its load, and a dropped one has none. -/
theorem State.load_dropped {s t : State} (ht : s.HooksDropped t cranes) (c : Crane) :
    (t.lift c).load = s.keptLoad s c := by
  rw [ht.lift]
  cases hl : s.lift c with
  | hooked l =>
    have hkept := State.keptLoad_of_hooked hl
    by_cases hdef : s.cranesDefined c l = true
    · rw [if_pos hdef] at hkept
      simp [State.dropsHook, hkept, LiftRec.load]
    · rw [if_neg hdef] at hkept
      simp [State.dropsHook, hkept, hl, LiftRec.hookedLot, LiftRec.load, mem_cranes]
  | _ => simp [State.dropsHook, State.keptLoad, hl, LiftRec.hookedLot, LiftRec.load]

theorem State.share_dropped {s t : State} (ht : s.HooksDropped t cranes) (c : Crane) : t.share c = s.keptPartner s c := by
  unfold State.share State.keptPartner
  rw [State.load_dropped ht]

theorem State.tandemsApart.dropped {s t : State} (h : s.tandemsApart) (ht : s.HooksDropped t cranes) : t.tandemsApart := by
  intro c l hl htan
  have hkept : s.keptLoad s c = some l := by rw [← State.load_dropped ht, hl]; rfl
  obtain ⟨hlower, hmate⟩ := h c l (State.keptLoad_hooked hkept) htan
  refine ⟨hlower, ?_⟩
  rw [State.load_dropped ht]
  cases hk : s.keptLoad s (mate c) with
  | none => rfl
  | some l' =>
    rw [State.keptLoad_hooked hk] at hmate
    cases hmate

/-! ### After the hooks are retained -/

theorem State.keptPartner_eq_some {s t : State} {c : Crane} {n : Nat} (h : s.keptPartner t c = some n) :
    ∃ l, s.keptLoad t (mate c) = some l ∧ l.tandem.isSome = true ∧ l.lot = n := by
  unfold State.keptPartner at h
  obtain ⟨l, hl, hn⟩ := Option.bind_eq_some_iff.1 h
  by_cases htan : l.tandem.isSome = true
  · rw [if_pos htan] at hn
    exact ⟨l, hl, htan, Option.some.inj hn⟩
  · rw [if_neg htan] at hn
    cases hn

/-- A crane that shares a tandem lift has no load of its own. -/
theorem State.tandemsApart.keptLoad_of_partner {s : State} (h : s.tandemsApart) {c : Crane} {n : Nat}
    (hp : s.keptPartner s c = some n) : s.keptLoad s c = none := by
  obtain ⟨l, hl, htan, -⟩ := State.keptPartner_eq_some hp
  have hmate := (h _ l (State.keptLoad_hooked hl) htan).2
  rw [mate_mate] at hmate
  cases hk : s.keptLoad s c with
  | none => rfl
  | some l' =>
    rw [State.keptLoad_hooked hk] at hmate
    cases hmate

theorem State.recordKept_hooked {s : State} {c : Crane} {l : Load} : s.recordKept c = .hooked l ↔ s.keptLoad s c = some l := by
  unfold State.recordKept
  cases hk : s.keptLoad s c with
  | some l' => simp
  | none =>
    cases s.keptPartner s c with
    | some n => simp
    | none =>
      cases hl : s.lift c <;> simp [LiftRec.load]

/-- The records hold loads exactly where loads and shares are kept, when none was a partner's before. -/
theorem State.recordKept_holdsLoad {s : State} {c : Crane} (h : (s.lift c).afterReset = s.lift c) :
    (s.recordKept c).holdsLoad = s.keptHolds s c := by
  unfold State.recordKept State.keptHolds
  cases s.keptLoad s c with
  | some l => rfl
  | none =>
    cases s.keptPartner s c with
    | some n => rfl
    | none =>
      cases hl : s.lift c with
      | partner n k =>
        rw [hl] at h
        cases h
      | _ => rfl

theorem State.recordKept_of_retained {s x t : State} {before : PerCrane Hook} (hapart : s.tandemsApart)
    (hx : s.HooksDropped x cranes) (ht : x.HooksRetained t before cranes) (c : Crane) : t.lift c = s.recordKept c := by
  have hpartner {n : Nat} := hapart.keptLoad_of_partner (c := c) (n := n)
  rw [ht.lift, if_pos (mem_cranes _), State.share_dropped hx, State.recordKept]
  cases hp : s.keptPartner s c with
  | some n => rw [hpartner hp]
  | none =>
    have hload := State.load_dropped hx c
    dsimp only
    cases hk : s.keptLoad s c with
    | some l => exact LiftRec.load_eq_some.1 (hload.trans hk)
    | none =>
      dsimp only
      rw [hx.lift]
      refine if_congr ?_ rfl rfl
      cases hl : s.lift c <;> simp [State.dropsHook, hk, hl, mem_cranes, LiftRec.hookedLot, LiftRec.load]

/-- Every crane that holds a load afterwards is defined, and its hook is adrift. -/
theorem State.holdersAdrift_of_retained {s x t : State} {before : PerCrane Hook} (hapart : s.tandemsApart)
    (hreset : ∀ c, (s.lift c).afterReset = s.lift c) (hx : s.HooksDropped x cranes)
    (ht : x.HooksRetained t before cranes) : t.holdersAdrift := by
  have hlift := State.recordKept_of_retained hapart hx ht
  have htables : t.tables = s.tables := by
    rw [State.tables, ht.hds, hx.rest]
    rfl
  intro c hholds
  rw [hlift, State.recordKept_holdsLoad (hreset c)] at hholds
  have hsource : (t.hook c).source = .unknown := by
    rw [ht.hook, State.load_dropped hx, State.share_dropped hx, if_pos]
    simpa [State.keptHolds, mem_cranes] using hholds
  have hkept : (s.tables.crane c).isSome = true ∧ (onHook t.lcu.recs c).isSome = true := by
    cases hk : s.keptLoad s c with
    | some l =>
      have hrec : t.lcu.recs.get c = .hooked l := (hlift c).trans (State.recordKept_hooked.2 hk)
      refine ⟨(State.keptLoad_defined hk).1, ?_⟩
      simp only [onHook, hrec]
      rfl
    | none =>
      obtain ⟨n, hn⟩ : ∃ n, s.keptPartner s c = some n := by
        rw [State.keptHolds, hk] at hholds
        exact Option.isSome_iff_exists.1 hholds
      obtain ⟨l, hl, htan, -⟩ := State.keptPartner_eq_some hn
      have hrec : t.lcu.recs.get c = .partner n (mate c) := (hlift c).trans (by rw [State.recordKept, hk, hn])
      have hrec' : t.lcu.recs.get (mate c) = .hooked l := (hlift _).trans (State.recordKept_hooked.2 hl)
      have hdef := (State.keptLoad_defined hl).2 htan
      rw [mate_mate] at hdef
      refine ⟨hdef, ?_⟩
      simpa only [onHook, hrec, hrec', Option.isSome_map] using htan
  refine ⟨htables ▸ hkept.1, ?_⟩
  have hsource' : (t.lcu.hooks.get c).source = .unknown := hsource
  rw [strays, hkept.2, hsource']
  rfl

/-! ### The whole -/

theorem State.keptPartner_isSome {s t : State} {c : Crane} : (s.keptPartner t c).isSome = true ↔
    ∃ l, s.keptLoad t (mate c) = some l ∧ l.tandem.isSome = true := by
  rw [Option.isSome_iff_exists]
  constructor
  · rintro ⟨n, hn⟩
    obtain ⟨l, hl, htan, -⟩ := State.keptPartner_eq_some hn
    exact ⟨l, hl, htan⟩
  · rintro ⟨l, hl, htan⟩
    exact ⟨l.lot, by rw [State.keptPartner, hl, Option.bind_some, if_pos htan]⟩

/-- The conditions of the retained hook loads, told by the records (R78, R119). -/
theorem State.keptLoad_alarms {s : State} (hreset : ∀ c, (s.lift c).afterReset = s.lift c) (k : AlarmKey) :
    (∃ c l, s.keptLoad s c = some l ∧ l.alarms c k) ↔
      (∃ c l, k = ⟨.unpermittedLift, .crane c⟩ ∧ s.recordKept c = .hooked l ∧ l.unpermitted = true) ∨
        ∃ c, k = ⟨.positionUnknown, .crane c⟩ ∧ (s.recordKept c).holdsLoad = true := by
  have hholds (c : Crane) : (s.recordKept c).holdsLoad = true ↔
      (∃ l, s.keptLoad s c = some l) ∨ ∃ l, s.keptLoad s (mate c) = some l ∧ l.tandem.isSome = true := by
    rw [State.recordKept_holdsLoad (hreset c), State.keptHolds, Bool.or_eq_true, State.keptPartner_isSome,
      Option.isSome_iff_exists]
  simp only [State.recordKept_hooked, hholds]
  constructor
  · rintro ⟨c, l, hl, ⟨hunpermitted, hk⟩ | hk | ⟨htan, hk⟩⟩
    · exact .inl ⟨c, l, hk, hl, hunpermitted⟩
    · exact .inr ⟨c, hk, .inl ⟨l, hl⟩⟩
    · exact .inr ⟨mate c, hk, .inr ⟨l, by rwa [mate_mate], htan⟩⟩
  · rintro (⟨c, l, hk, hl, hunpermitted⟩ | ⟨c, hk, ⟨l, hl⟩ | ⟨l, hl, htan⟩⟩)
    · exact ⟨c, l, hl, .inl ⟨hunpermitted, hk⟩⟩
    · exact ⟨c, l, hl, .inr (.inl hk)⟩
    · exact ⟨mate c, l, hl, .inr (.inr ⟨htan, by rwa [mate_mate]⟩)⟩

/-- The hooks at their pedestals (R115). -/
def State.hooksPlaced (s : State) : State := { s with lcu := { s.lcu with hooks := pedestalHooks s.tables } }

theorem State.retainLifts_retained {s : State} (hapart : s.tandemsApart)
    (hreset : ∀ c, (s.lift c).afterReset = s.lift c) : s.LiftsRetained s.retainLifts := by
  have hapart' : s.hooksPlaced.tandemsApart := hapart
  have hreset' : ∀ c, (s.hooksPlaced.lift c).afterReset = s.hooksPlaced.lift c := hreset
  have hx := s.hooksPlaced.foldl_dropHooked
  generalize hgx : cranes.foldl State.dropHooked s.hooksPlaced = x at hx
  have hw := State.foldl_retainHooked (hapart'.dropped hx) s.lcu.hooks
  generalize hgw : cranes.foldl (State.retainHooked s.lcu.hooks) x = w at hw
  obtain ⟨hvraised, hvct, hvlcu, hvhds⟩ := w.foldl_retainUnfiled
  generalize hgv : cranes.foldl State.retainUnfiled w = v at hvraised hvct hvlcu hvhds
  have hlift (c : Crane) : w.lift c = s.recordKept c := State.recordKept_of_retained hapart' hx hw c
  have hvtables : v.tables = w.tables := hvraised.carried.tables_eq
  have hadrift : v.holdersAdrift := by
    have := State.holdersAdrift_of_retained hapart' hreset' hx hw
    intro c hc
    rw [State.lift, hvlcu] at hc
    rw [hvtables, hvlcu]
    exact this c hc
  have ht := State.foldl_retainStructure hadrift
  have hgt : s.retainLifts = cranes.foldl State.retainStructure v := by
    rw [← hgv, ← hgw, ← hgx]
    rfl
  rw [← hgt] at ht
  have hworst : s.retainLifts.worstCentroid s.retainLifts.lcu.hooks = v.worstCentroid v.lcu.hooks :=
    funext (ht.worstCentroid_eq hadrift)
  obtain ⟨hrest, hstructs⟩ := ht
  have htlcu : s.retainLifts.lcu = w.lcu := by
    rw [hrest]
    exact hvlcu
  have htlift (c : Crane) : s.retainLifts.lift c = s.recordKept c := by
    rw [State.lift, htlcu]
    exact hlift c
  have hholds (c : Crane) : (v.lift c).holdsLoad = s.keptHolds s c := by
    rw [State.lift, hvlcu, ← State.recordKept_holdsLoad (hreset c), ← hlift]
    rfl
  simp only [hholds] at hrest hstructs
  have hxload (c : Crane) (l : Load) : x.lift c = .hooked l ↔ s.keptLoad s c = some l := by
    rw [← LiftRec.load_eq_some, State.load_dropped hx]
    rfl
  have hvstructs : v.ct.structs = s.ct.structs := by rw [hvct, hw.ct, hx.rest]; rfl
  have htables : v.tables = s.tables := by
    rw [hvtables, State.tables, hw.hds, hx.rest]
    rfl
  refine ⟨?_, ?_, ?_, ?_, htlift, fun c => ?_, fun c => ?_⟩
  · have hxs : s.Raised x fun _ => False := .of_retaining (by rw [hx.rest]; rfl)
    have hvt : v.Raised s.retainLifts fun _ => False := .of_retaining (by rw [hrest]; rfl)
    refine (((hxs.trans hw.raised).trans hvraised).trans hvt).congr fun k => ?_
    simp only [htlift, ← or_assoc, ← State.keptLoad_alarms hreset, hxload, mem_cranes, true_and, false_or, or_false, hlift]
    refine or_congr Iff.rfl (exists_congr fun c => ?_)
    rw [Option.isSome_iff_exists]
    simp only [LiftRec.unfiledLot_eq_some]
    constructor
    · rintro ⟨⟨n, w, hl⟩, hk⟩
      exact ⟨n, w, hk, hl⟩
    · rintro ⟨n, w, hk, hl⟩
      exact ⟨⟨n, w, hl⟩, hk⟩
  · calc s.retainLifts.ct = { v.ct with
          structs := s.retainLifts.ct.structs
          serial := v.ct.serial + BitVec.ofNat 16 (cranes.countP fun c => s.keptHolds s c) } := congrArg State.ct hrest
      _ = _ := by
        rw [hvct, hw.ct, hx.rest, BitVec.ofNat_add, ← BitVec.add_assoc]
        rfl
  · rw [hrest]
    exact hvhds.trans (hw.hds.trans (by rw [hx.rest]; rfl))
  · rw [htlcu]
    refine hw.unit.trans ?_
    rw [State.share_dropped hx, State.share_dropped hx, hx.rest]
    rfl
  · rw [State.hook, htlcu]
    refine (hw.hook c).trans ?_
    rw [State.load_dropped hx, State.share_dropped hx, hx.rest]
    refine if_congr ?_ rfl rfl
    rw [State.keptHolds, Bool.or_eq_true]
    simp only [mem_cranes, true_and]
    rfl
  · rw [hstructs, hvstructs, htables, hworst]
    simp only [mem_cranes, true_and]

end Sys2Proof.Machine
end

section
/-!
The filing list and the lift records at a LINE or RESTART reset (R23, R36, R78): which waiting loads are dropped, filed,
or kept waiting, and what becomes of their records; the tandem lifts that a reset finds (R105, R107, R109).
-/

namespace Sys2Proof.Machine

set_option Elab.async false

/-! ### The waiting loads (R23, R36) -/

theorem mem_allowedFiling {t : Tables} {l : List Filing} {f : Filing} : f ∈ allowedFiling t l ↔
    ∃ g ∈ l, ∃ e, t.cargo g.dest = some e ∧ { g with pos := e.1.clampPos g.pos } = f := by
  simp [allowedFiling, List.mem_filterMap]

/-- The cranes of the entries that are allowed are among those of the list, in its order. -/
theorem allowedFiling_cranes (t : Tables) (l : List Filing) :
    ((allowedFiling t l).map Filing.crane).Sublist (l.map Filing.crane) := by
  unfold allowedFiling
  induction l with
  | nil => exact List.Sublist.refl _
  | cons f rest ih =>
    cases h : t.cargo f.dest with
    | none => simpa [h] using ih.cons f.crane
    | some e => simpa [h] using ih.cons_cons f.crane

/-- A crane's waiting load is either dropped or filed, or it goes on waiting. -/
theorem waiting_iff_not_gone (t : Tables) {l : List Filing} (hn : (l.map Filing.crane).Nodup) {c : Crane}
    (hc : ∃ f ∈ l, f.crane = c) (m : Nat) :
    (∃ f ∈ (allowedFiling t l).drop m, f.crane = c) ↔
      ¬ ((∃ f ∈ l, f.crane = c ∧ t.cargo f.dest = none) ∨ ∃ f ∈ (allowedFiling t l).take m, f.crane = c) := by
  have hallowed := (allowedFiling_cranes t l).nodup hn
  have hinj {f g : Filing} (hf : f ∈ l) (hg : g ∈ l) (h : f.crane = g.crane) : f = g := List.inj_on_of_nodup_map hn hf hg h
  constructor
  · rintro ⟨f, hf, rfl⟩ (⟨g, hg, hcrane, hnone⟩ | ⟨g, hg, hcrane⟩)
    · obtain ⟨f', hf', e, he, hfe⟩ := mem_allowedFiling.1 (List.mem_of_mem_drop hf)
      have hsame : f' = g := hinj hf' hg (by rw [hcrane, ← hfe])
      rw [hsame, hnone] at he
      cases he
    · rw [← List.take_append_drop m (allowedFiling t l), List.map_append, List.nodup_append] at hallowed
      exact hallowed.2.2 _ (List.mem_map_of_mem hg) _ (List.mem_map_of_mem hf) hcrane
  · intro hgone
    obtain ⟨f, hf, hfc⟩ := hc
    cases he : t.cargo f.dest with
    | none => exact absurd (.inl ⟨f, hf, hfc, he⟩) hgone
    | some e =>
      have hmem : ({ f with pos := e.1.clampPos f.pos } : Filing) ∈ allowedFiling t l :=
        mem_allowedFiling.2 ⟨f, hf, e, he, rfl⟩
      rw [← List.take_append_drop m (allowedFiling t l), List.mem_append] at hmem
      exact hmem.elim (fun h => absurd (.inr ⟨_, h, hfc⟩) hgone) fun h => ⟨_, h, hfc⟩

/-- At most one waiting load for each crane (R23). -/
theorem State.filing_length_le {s : State} (h : s.filingWf) : s.ct.filing.length ≤ 4 := by
  have hle := (List.subperm_of_subset h.1 fun c _ => mem_cranes c).length_le
  rwa [List.length_map] at hle

/-- A crane has a waiting load exactly when its record is LANDED_UNFILED (R23). -/
theorem State.waits_iff_unfiled {s : State} (h : s.filingWf) (c : Crane) :
    (∃ f ∈ s.ct.filing, f.crane = c) ↔ (s.lift c).unfiledLot.isSome = true := by
  rw [h.2 c (mem_cranes c), Option.isSome_map, List.find?_isSome]
  simp

/-! ### The records that a reset finds (R78, R105, R107, R109) -/

theorem keepLifts_get (r : PerCrane LiftRec) (c : Crane) : (keepLifts r).get c = (r.get c).afterReset := by cases c <;> rfl

@[simp] theorem LiftRec.afterReset_afterReset (r : LiftRec) : r.afterReset.afterReset = r.afterReset := by
  cases r <;> rfl

@[simp] theorem LiftRec.load_afterReset (r : LiftRec) : r.afterReset.load = r.load := by cases r <;> rfl

/-- A tandem lift is the lower port's, and nothing of its partner's record is kept by itself. -/
theorem State.tandem_mate_of_recordsWf {s : State} (h : s.recordsWf) {c : Crane} {l : Load} (hl : s.lift c = .hooked l)
    (htan : l.tandem.isSome = true) : isUpper c = false ∧ (s.lift (mate c)).afterReset = .idle := by
  have hnone : l.tandem.isNone = false := by rw [Option.isNone_eq_false_iff, htan]
  have hc := h c (mem_cranes c)
  split at hc
  · simp only [State.tandemOk, hl, hnone, Bool.false_or, Bool.and_eq_true, decide_eq_true_eq, Bool.not_eq_true'] at hc
    obtain ⟨-, ⟨-, hlower⟩, hmate⟩ := hc
    exact ⟨hlower, by rw [hmate]; rfl⟩
  · simp only [State.resetOk, hl, hnone, Bool.false_or, Bool.and_eq_true, decide_eq_true_eq, Bool.not_eq_true'] at hc
    exact ⟨hc.1, by rw [hc.2]; rfl⟩

theorem State.tandemsApart_of_recordsWf {s : State} (h : s.recordsWf) : s.tandemsApart := by
  intro c l hl htan
  obtain ⟨hlower, hmate⟩ := State.tandem_mate_of_recordsWf h hl htan
  exact ⟨hlower, by rw [← LiftRec.load_afterReset, hmate]; rfl⟩

end Sys2Proof.Machine
end

section
/-!
The retention as a whole (R36, R78, R115, R119): from a state that the load has left, the table, the lifts and the counts
are as the statements about LINE and RESTART resets say.
-/

namespace Sys2Proof.Machine

set_option Elab.async false

/-- The state `x` when the load of a LINE or RESTART reset of `s` has been done: the table as it was, the LCU as reset,
and no waiting load's condition held. -/
structure State.ResetLoaded (s x : State) : Prop where
  ct : x.ct = s.ct
  lcu : x.lcu = s.lcu.resetState
  held : ∀ c, (⟨.landedUnfiled, .crane c⟩ : AlarmKey) ∉ x.als.held

section
variable {s x : State} (hx : s.ResetLoaded x) (h : s.liftsWf)
include hx h

theorem State.ResetLoaded.retainTable_retained : x.TableRetained x.retainTable := by
  obtain ⟨-, -, -, hfiling, -⟩ := h
  exact State.retainTable_retained (by rw [hx.ct]; exact State.filing_length_le hfiling) hx.held

/-- A crane's record after the table's part: a waiting load's record goes with it (R36, R78). -/
theorem State.ResetLoaded.retainTable_lift (c : Crane) : x.retainTable.lift c =
    if (s.lift c).unfiledLot.isSome = true ∧ ¬ ∃ f ∈ x.retainTable.ct.filing, f.crane = c then .idle
    else (s.lift c).afterReset := by
  have ht := hx.retainTable_retained h
  obtain ⟨-, -, -, hfiling, -⟩ := h
  have hwaits := State.waits_iff_unfiled hfiling c
  have hsplit := waiting_iff_not_gone x.tables hfiling.1 (c := c)
  have hlift : x.lift c = (s.lift c).afterReset := by
    rw [State.lift, hx.lcu]
    exact keepLifts_get _ c
  rw [ht.lift, ht.filing, hx.ct, hlift]
  refine if_congr ?_ rfl rfl
  by_cases hc : ∃ f ∈ s.ct.filing, f.crane = c
  · rw [hsplit hc, not_not]
    exact (and_iff_right (hwaits.1 hc)).symm
  · refine iff_of_false ?_ fun hu => hc (hwaits.2 hu.1)
    rintro (⟨f, hf, hfc, -⟩ | ⟨f, hf, hfc⟩)
    · exact hc ⟨f, hf, hfc⟩
    · obtain ⟨g, hg, e, -, hgf⟩ := mem_allowedFiling.1 (List.mem_of_mem_take hf)
      exact hc ⟨g, hg, by rw [← hfc, ← hgf]⟩

theorem State.ResetLoaded.retainTable_load (c : Crane) : (x.retainTable.lift c).load = (s.lift c).load := by
  rw [hx.retainTable_lift h]
  cases hl : s.lift c with
  | unfiled n w => split <;> rfl
  | _ => simp [LiftRec.unfiledLot]

theorem State.ResetLoaded.retainTable_afterReset (c : Crane) :
    (x.retainTable.lift c).afterReset = x.retainTable.lift c := by
  rw [hx.retainTable_lift h]
  split
  · rfl
  · simp

theorem State.ResetLoaded.retainTable_tandemsApart : x.retainTable.tandemsApart := by
  have hload := hx.retainTable_load h
  obtain ⟨-, -, -, -, hrecords⟩ := h
  intro c l hl htan
  have hs : s.lift c = .hooked l := by rw [← LiftRec.load_eq_some, ← hload, hl]; rfl
  rw [hload]
  exact State.tandemsApart_of_recordsWf hrecords c l hs htan

end

/-- The kept load is read from the load of the record. -/
theorem State.keptLoad_eq_of_load {s s' t t' : State} {c : Crane} (hload : (s'.lift c).load = (s.lift c).load)
    (htables : t'.tables = t.tables) : s'.keptLoad t' c = s.keptLoad t c := by
  unfold State.keptLoad
  rw [htables]
  cases hl : s.lift c <;> cases hl' : s'.lift c <;> simp_all [LiftRec.load]

/-- The retention of a LINE or RESTART reset is the table's, the lifts', and the count of what was kept (R187). -/
theorem State.retain_eq {x : State} (h : x.hds.cause ≠ .powerOn) : x.retain =
    { x.retainTable.retainLifts with hds.kept :=
        x.retainTable.retainLifts.ct.lots.length + x.retainTable.retainLifts.ct.filing.length } := by
  unfold State.retain
  cases hc : x.hds.cause with
  | powerOn => exact absurd hc h
  | _ => rfl

/-- The lift records, hooks, structures and pairings of `keepsLifts`, without its alarms. -/
def State.liftsKept (s t : State) : Prop :=
  (∀ c, t.lift c = (match s.keptLoad t c, s.keptPartner t c, s.lift c with
    | some l, _, _ => .hooked l
    | none, some n, _ => .partner n (mate c)
    | none, none, .unfiled n w => if t.ct.filing.any fun f => f.crane == c then .unfiled n w else .idle
    | none, none, _ => .idle)) ∧
    (∀ c d, t.tables.crane c = some d →
      (t.hook c = if s.keptHolds t c then { s.hook c with source := .unknown } else ⟨d.px, d.py, 0, .reported⟩) ∧
      (s.keptHolds t c = false → t.ct.structs.get c = some ⟨d.px, d.py, d.z⟩) ∧
      (s.keptHolds t c = true → t.ct.structs.get c = some (t.worstCentroid t.lcu.hooks d))) ∧
    t.lcu.queue = [] ∧ t.lcu.inHand = none ∧ t.lcu.counter = 1 ∧
    t.lcu.pairA = (s.keptPartner t .k2).isSome ∧ t.lcu.pairB = (s.keptPartner t .k4).isSome

section
variable {s x : State} (hx : s.ResetLoaded x) (h : s.liftsWf) (hcause : x.hds.cause ≠ .powerOn)
include hx h

theorem State.ResetLoaded.retainLifts_retained : x.retainTable.LiftsRetained x.retainTable.retainLifts :=
  State.retainLifts_retained (hx.retainTable_tandemsApart h) (hx.retainTable_afterReset h)

include hcause

/-- The conditions raised by the retention, told by what it leaves (R18, R78, R119). -/
theorem State.ResetLoaded.retain_raised : x.Raised x.retain fun k =>
    (∃ a, k = ⟨.overCapacity, .addr a⟩ ∧ lookup x.retain.ct.spaces a = some .over) ∨
    (∃ c l, k = ⟨.unpermittedLift, .crane c⟩ ∧ x.retain.lift c = .hooked l ∧ l.unpermitted = true) ∨
    (∃ c, k = ⟨.positionUnknown, .crane c⟩ ∧ (x.retain.lift c).holdsLoad = true) ∨
    ∃ c n w, k = ⟨.landedUnfiled, .crane c⟩ ∧ x.retain.lift c = .unfiled n w := by
  have hy := hx.retainTable_retained h
  have hz := hx.retainLifts_retained h
  have hspaces : x.retainTable.retainLifts.ct.spaces = x.retainTable.ct.spaces := by rw [hz.ct]
  rw [State.retain_eq hcause]
  refine (((hy.raised.trans hz.raised).trans (State.Raised.of_retaining rfl)).congr fun k => ?_)
  simp only [or_false, hspaces]
  rfl

theorem State.ResetLoaded.retain_tables : x.retain.tables = x.tables :=
  (hx.retain_raised h hcause).carried.tables_eq

theorem State.ResetLoaded.retain_keepsTable : s.keepsTable x.retain := by
  have hy := hx.retainTable_retained h
  have hz := hx.retainLifts_retained h
  have htables := hx.retain_tables h hcause
  have hct : x.retain.ct = x.retainTable.retainLifts.ct := by rw [State.retain_eq hcause]
  have hlots : x.retain.ct.lots = x.retainTable.ct.lots := by rw [hct, hz.ct]
  have hfiling : x.retain.ct.filing = x.retainTable.ct.filing := by rw [hct, hz.ct]
  have hspaces : x.retain.ct.spaces = x.retainTable.ct.spaces := by rw [hct, hz.ct]
  have hload (a : Nat) : x.retain.ct.load a = x.retainTable.ct.load a := by
    unfold CondTable.load CondTable.total CondTable.stow
    rw [hlots, hfiling]
  have hfiled : s.filedAtReset x.retain = filedAnew x.tables x.ct := by
    rw [← htables, hx.ct]
    rfl
  unfold State.keepsTable
  rw [hfiled]
  refine ⟨?_, ?_, fun a box capacity ha => ?_, fun a d hd => ?_, fun a box d hd => ?_⟩
  · rw [hlots, hy.lots, hx.ct, ← htables]
    rfl
  · rw [hfiling, hy.filing, hx.ct, ← htables]
    rfl
  · rw [htables] at ha
    rw [hspaces, hy.spaces, ha, hload]
    rfl
  · rw [htables] at hd
    rw [hct, hz.ct, hy.tanks, ← hx.ct]
    exact lookup_keptTable_tanks hd x.ct
  · rw [htables] at hd
    rw [hct, hz.ct, hy.consts, ← hx.ct]
    exact lookup_keptTable_consts hd x.ct

theorem State.ResetLoaded.retain_keptLoad (c : Crane) :
    x.retainTable.keptLoad x.retainTable c = s.keptLoad x.retain c := by
  refine State.keptLoad_eq_of_load (hx.retainTable_load h c) ?_
  rw [hx.retain_tables h hcause, (hx.retainTable_retained h).raised.carried.tables_eq]

theorem State.ResetLoaded.retain_keptPartner (c : Crane) :
    x.retainTable.keptPartner x.retainTable c = s.keptPartner x.retain c := by
  unfold State.keptPartner
  rw [hx.retain_keptLoad h hcause]

theorem State.ResetLoaded.retain_keptHolds (c : Crane) :
    x.retainTable.keptHolds x.retainTable c = s.keptHolds x.retain c := by
  unfold State.keptHolds
  rw [hx.retain_keptLoad h hcause, hx.retain_keptPartner h hcause]

theorem State.ResetLoaded.retain_lift (c : Crane) :
    x.retain.lift c = match s.keptLoad x.retain c, s.keptPartner x.retain c, s.lift c with
      | some l, _, _ => .hooked l
      | none, some n, _ => .partner n (mate c)
      | none, none, .unfiled n w => if x.retain.ct.filing.any fun f => f.crane == c then .unfiled n w else .idle
      | none, none, _ => .idle := by
  have hz := hx.retainLifts_retained h
  have hlift : x.retain.lift c = x.retainTable.recordKept c := by
    rw [State.retain_eq hcause]
    exact hz.lift c
  have hfiling : x.retain.ct.filing = x.retainTable.ct.filing := by
    rw [State.retain_eq hcause]
    exact (congrArg CondTable.filing hz.ct :)
  rw [hlift, State.recordKept, hx.retain_keptLoad h hcause, hx.retain_keptPartner h hcause, hx.retainTable_load h,
    hx.retainTable_lift h, hfiling]
  cases s.keptLoad x.retain c with
  | some l => rfl
  | none =>
    cases s.keptPartner x.retain c with
    | some n => rfl
    | none =>
      cases hl : s.lift c with
      | unfiled n w =>
        have hany : (x.retainTable.ct.filing.any fun f => f.crane == c) = true ↔
            ∃ f ∈ x.retainTable.ct.filing, f.crane = c := by simp
        by_cases hw : ∃ f ∈ x.retainTable.ct.filing, f.crane = c
        · simp only [if_pos (hany.2 hw), hw, not_true, and_false, if_false]
          rfl
        · simp only [if_neg fun ha => hw (hany.1 ha), hw, not_false_eq_true, and_true]
          rfl
      | _ => rfl

theorem State.ResetLoaded.retain_liftsKept : s.liftsKept x.retain := by
  have hy := hx.retainTable_retained h
  have hz := hx.retainLifts_retained h
  have htables := hx.retain_tables h hcause
  have hct : x.retain.ct = x.retainTable.retainLifts.ct := by rw [State.retain_eq hcause]
  have hlcu : x.retain.lcu = x.retainTable.retainLifts.lcu := by rw [State.retain_eq hcause]
  have htables' : x.retainTable.tables = x.tables := hy.raised.carried.tables_eq
  have hunit : x.retain.lcu = { s.lcu.resetState with
      recs := x.retain.lcu.recs
      hooks := x.retain.lcu.hooks
      pairA := (s.keptPartner x.retain .k2).isSome
      pairB := (s.keptPartner x.retain .k4).isSome } := by
    rw [hlcu, hz.unit, hx.retain_keptPartner h hcause, hx.retain_keptPartner h hcause, hy.unit, hx.lcu]
    rfl
  refine ⟨hx.retain_lift h hcause, fun c d hd => ⟨?_, fun hno => ?_, fun hholds => ?_⟩, ?_, ?_, ?_, ?_, ?_⟩
  · rw [htables] at hd
    have hbefore : x.retainTable.hook c = s.hook c := by rw [State.hook, hy.unit, hx.lcu]; rfl
    rw [State.hook, hlcu]
    refine (hz.hook c).trans ?_
    rw [hx.retain_keptHolds h hcause, hbefore, htables', pedestalHooks_get hd]
  · rw [htables] at hd
    rw [hct, hz.structs, hx.retain_keptHolds h hcause, if_neg (by simp [hno]), hy.structs, pedestalStructs_get hd]
  · rw [htables] at hd
    have hworst : x.retainTable.retainLifts.worstCentroid x.retainTable.retainLifts.lcu.hooks d =
        x.retain.worstCentroid x.retain.lcu.hooks d := by
      rw [State.retain_eq hcause]
      rfl
    rw [hct, hz.structs, hx.retain_keptHolds h hcause, if_pos hholds, htables', hd, ← hworst]
    rfl
  · rw [hunit]; rfl
  · rw [hunit]; rfl
  · rw [hunit]; rfl
  · rw [hunit]
  · rw [hunit]

theorem State.ResetLoaded.retain_keepsCounts : s.keepsCounts x.retain := by
  have hy := hx.retainTable_retained h
  have hz := hx.retainLifts_retained h
  have htables := hx.retain_tables h hcause
  have hdrops : x.retainTable.dropsHook x.retainTable =
      fun c => (s.lift c).hookedLot.isSome && (s.keptLoad x.retain c).isNone := by
    funext c
    have hload : (x.retainTable.lift c).hookedLot.isSome = (s.lift c).hookedLot.isSome := by
      have hone (r : LiftRec) : r.hookedLot.isSome = r.load.isSome := by cases r <;> rfl
      rw [hone, hone, hx.retainTable_load h]
    rw [State.dropsHook, hload, hx.retain_keptLoad h hcause]
  have hholds : (fun c => x.retainTable.keptHolds x.retainTable c) = fun c => s.keptHolds x.retain c :=
    funext (hx.retain_keptHolds h hcause)
  have htable : tableDrops x.tables x.ct =
      (s.ct.lots.length - (s.keptLots x.retain).length) + (s.ct.filing.length - (s.keptFiling x.retain).length) := by
    rw [← htables, hx.ct]
    rfl
  have hfiled : filedAnew x.tables x.ct = s.filedAtReset x.retain := by
    rw [← htables, hx.ct]
    rfl
  have hserial : x.retain.ct.serial = x.retainTable.retainLifts.ct.serial := by rw [State.retain_eq hcause]
  have hdropped : x.retain.hds.dropped = x.retainTable.retainLifts.hds.dropped := by rw [State.retain_eq hcause]
  refine ⟨?_, ?_, ?_⟩
  · rw [hserial, hz.ct, hdrops, hholds]
    dsimp only
    rw [hy.serial, htable, hfiled, hx.ct, BitVec.add_assoc, ← BitVec.ofNat_add]
    refine congrArg (fun n => s.ct.serial + BitVec.ofNat 16 n) ?_
    omega
  · rw [hdropped, hz.hds, hdrops]
    dsimp only
    rw [hy.hds]
    dsimp only
    rw [htable]
  · rw [State.retain_eq hcause]

end

end Sys2Proof.Machine
end

section
/-!
LINE_RESET (R36, R78, R115, R119, R184): the reset begins, the pages are loaded, the condition is retained, and the
start-up goes on from there.
-/

namespace Sys2Proof.Machine

set_option Elab.async false

/-! ### The load of a LINE or RESTART reset (R184 to R186) -/

/-- The state of a reset whose load begins (R184). -/
def State.resetBegun (s : State) (cause : Cause) (comm : Bool) : State :=
  let x := s.blocksReset
  { x with
    phase := .running
    sli := Sli.started s.now .initial
    hds := { x.hds with cause := cause, strap := comm } }

theorem State.startUp_eq (s : State) (cause : Cause) (comm : Bool) :
    s.startUp cause comm = (s.resetBegun cause comm).loadTables.retain.startUpSweep := rfl

/-- The notices of alarm changes are the only messages that a link has more (R157). -/
theorem State.Noted.link_quiet {s t : State} (h : s.Noted t) (q : Port) : (t.link q).quiet = (s.link q).quiet := by
  obtain ⟨ms, -, ht⟩ := h
  have hlink : t.link q = if q = .p then (s.link .p).placed ms else s.link q := by
    rw [ht]
    exact s.link_setLink .p q _
  rw [hlink]
  split
  next hq =>
    rw [hq, Link.placed]
    split
    · rfl
    · exact Link.start_quiet _
  next => rfl

section
variable (s : State) (cause : Cause) (comm : Bool)

/-- What the alarms of the load do not change. -/
theorem State.Noted.loaded : (s.resetBegun cause comm).tablesTaken.Noted (s.resetBegun cause comm).loadTables := by
  rw [State.loadTables_eq]
  dsimp only
  split <;> split
  · exact (State.Noted.raise _ _).trans (State.Noted.raise _ _)
  · exact State.Noted.raise _ _
  · exact State.Noted.raise _ _
  · exact State.Noted.refl _

theorem State.loaded_held (k : AlarmKey) : k ∈ (s.resetBegun cause comm).loadTables.als.held ↔
    (k = ⟨.storeFault, .none⟩ ∧ s.hds.storeAfterReset.load.fault = true) ∨
      (k = ⟨.noTestCondition, .none⟩ ∧ s.hds.storeAfterReset.load.tables.tests = []) :=
  (State.mem_held_loadTables (s.resetBegun cause comm) k).trans (or_iff_right nofun)

theorem State.resetLoaded : s.ResetLoaded (s.resetBegun cause comm).loadTables where
  ct := (State.Noted.loaded s cause comm).ct_eq
  lcu := (State.Noted.loaded s cause comm).keeps State.lcu fun _ _ _ => rfl
  held c hmem := by
    rcases (s.loaded_held cause comm _).1 hmem with ⟨hk, -⟩ | ⟨hk, -⟩ <;> cases hk

end

/-! ### What it hands to the start-up sweep (R35, R38, R78, R120, R150, R176, R180) -/

theorem State.loaded_cause (s : State) {cause : Cause} (comm : Bool) (hcause : cause ≠ .powerOn) :
    (s.resetBegun cause comm).loadTables.hds.cause ≠ .powerOn := by
  rw [(State.Noted.loaded s cause comm).keeps (·.hds.cause) fun _ _ _ => rfl]
  exact hcause

section
variable {s : State} {cause : Cause} (comm : Bool) (h : s.liftsWf) (hcause : cause ≠ .powerOn)
include h hcause

theorem State.retained_carried : (s.resetBegun cause comm).tablesTaken.Carried (s.resetBegun cause comm).loadTables.retain :=
  (State.Carried.of_noted (State.Noted.loaded s cause comm)).trans
    ((s.resetLoaded cause comm).retain_raised h (s.loaded_cause comm hcause)).carried

/-- What neither alarms nor the retention changes is as the tables were taken. -/
theorem State.retained_keeps {β : Type} (f : State → β)
    (hf : ∀ (s : State) (ct : CondTable) (lcu : Lcu) (kept dropped : Nat) (l : Link) (a : Als),
      f { s.setLink .p l with ct := ct, lcu := lcu, hds := { s.hds with kept := kept, dropped := dropped }, als := a } = f s) :
    f (s.resetBegun cause comm).loadTables.retain = f (s.resetBegun cause comm).tablesTaken :=
  (State.retained_carried comm h hcause).keeps f hf

/-- Every silence timer is started, and nothing waits but the notices of the reset (R157, R176, R177). -/
theorem State.retained_links (q : Port) :
    let l := (s.resetBegun cause comm).loadTables.retain.link q
    l.state = .silent ∧ l.bad = 0 ∧ l.silence = some (s.now + 2000) ∧ l.inbound = [] ∧ l.slot = none ∧
      (q ≠ .p → l.queue = [] ∧ l.sending = none) := by
  intro l
  have htaken : (s.resetBegun cause comm).tablesTaken.link q = { Link.initial with silence := some (s.now + 2000) } := by
    cases q <;> rfl
  have hquiet : l.quiet = { Link.initial with silence := some (s.now + 2000) } := by
    refine ((State.retained_carried comm h hcause).link_quiet q).trans ?_
    exact congrArg Link.quiet htaken
  refine ⟨(congrArg Link.state hquiet :), (congrArg Link.bad hquiet :), (congrArg Link.silence hquiet :),
    (congrArg Link.inbound hquiet :), (congrArg Link.slot hquiet :), fun hq => ?_⟩
  have hlink : l = (s.resetBegun cause comm).tablesTaken.link q :=
    State.retained_keeps comm h hcause (State.link · q) fun s _ _ _ _ l _ => (s.link_setLink .p q l).trans (if_neg hq)
  rw [hlink, htaken]
  exact ⟨rfl, rfl⟩

/-- A reset that keeps the condition hands over to the start-up sweep as every reset does (R184, R185). -/
theorem State.retained_restarted (hline : s.line = false) :
    s.Restarted (s.resetBegun cause comm).loadTables.retain cause comm := by
  have hkeeps {β : Type} (f : State → β) := State.retained_keeps comm h hcause f
  have hraised := (s.resetLoaded cause comm).retain_raised h (s.loaded_cause comm hcause)
  have hheld := hraised.held
  have hfresh := hraised.fresh
  have hlinks := State.retained_links comm h hcause
  generalize hu : (s.resetBegun cause comm).loadTables.retain = u at hkeeps hheld hfresh hlinks
  have htables : u.tables = s.hds.storeAfterReset.load.tables := hkeeps State.tables fun _ _ _ _ _ _ _ => rfl
  have hfault : u.hds.storeFault = s.hds.storeAfterReset.load.fault :=
    (hkeeps (·.hds.storeFault) fun _ _ _ _ _ _ _ => rfl).trans (Bool.false_or _)
  have hnow : u.now = s.now := hkeeps State.now fun _ _ _ _ _ _ _ => rfl
  have hsev : u.sev = (s.resetBegun cause comm).tablesTaken.sev := hkeeps State.sev fun _ _ _ _ _ _ _ => rfl
  have hstate : u.sev.state = if s.hds.storeAfterReset.load.tables.usable = true then .idle else .disabled := by
    rw [hsev]
    rfl
  have hstore : u.hds.store = s.hds.storeAfterReset := hkeeps (·.hds.store) fun _ _ _ _ _ _ _ => rfl
  have hnew (k : AlarmKey) : k ∈ u.als.held ↔
      (k = ⟨.storeFault, .none⟩ ∧ u.hds.storeFault = true) ∨ (k = ⟨.noTestCondition, .none⟩ ∧ u.tables.tests = []) ∨
      (∃ a, k = ⟨.overCapacity, .addr a⟩ ∧ lookup u.ct.spaces a = some .over) ∨
      (∃ c l, k = ⟨.unpermittedLift, .crane c⟩ ∧ u.lift c = .hooked l ∧ l.unpermitted = true) ∨
      (∃ c, k = ⟨.positionUnknown, .crane c⟩ ∧ (u.lift c).holdsLoad = true) ∨
      ∃ c n w, k = ⟨.landedUnfiled, .crane c⟩ ∧ u.lift c = .unfiled n w := by
    rw [hheld, State.loaded_held, hfault, htables, or_assoc]
  exact
    { retained :=
        { tgt := hkeeps State.tgt fun _ _ _ _ _ _ _ => rfl
          mode := hkeeps (·.hds.mode) fun _ _ _ _ _ _ _ => rfl
          verdicts := hkeeps (·.hds.verdicts) fun _ _ _ _ _ _ _ => rfl
          taken := by rw [hsev]; rfl
          choice := by
            rw [hstate]
            split
            · exact .inl rfl
            · exact .inr rfl
          fresh := hfresh (State.loadTables_fresh (Als.initial_fresh _))
          faults := fun a hmem => by simp [hnew] at hmem }
      phase := hkeeps State.phase fun _ _ _ _ _ _ _ => rfl
      line := (hkeeps State.line fun _ _ _ _ _ _ _ => rfl).trans hline
      recorded := hkeeps (·.hds.cause) fun _ _ _ _ _ _ _ => rfl
      strap := hkeeps (·.hds.strap) fun _ _ _ _ _ _ _ => rfl
      store := hstore
      tables := by rw [htables, hstore]
      fault := by rw [hfault, hstore]
      written := (hkeeps (·.hds.written) fun _ _ _ _ _ _ _ => rfl).trans (by rw [hstore]; rfl)
      torn := (hkeeps (·.hds.torn) fun _ _ _ _ _ _ _ => rfl).trans (by rw [hstore]; rfl)
      testFail := hkeeps (·.hds.testFail) fun _ _ _ _ _ _ _ => rfl
      buffer := hkeeps (·.hds.buffer) fun _ _ _ _ _ _ _ => rfl
      prog := hkeeps (·.hds.prog) fun _ _ _ _ _ _ _ => rfl
      disabled := by
        rw [hstate, htables]
        cases s.hds.storeAfterReset.load.tables.usable <;> simp
      live := by rw [hsev]; rfl
      last := by rw [hsev]; rfl
      trialWanted := by rw [hsev]; rfl
      csv := (hkeeps State.csv fun _ _ _ _ _ _ _ => rfl).trans (by rw [htables]; rfl)
      lmn := hkeeps State.lmn fun _ _ _ _ _ _ _ => rfl
      elapsed := (hkeeps State.elapsed fun _ _ _ _ _ _ _ => rfl).trans (if_neg hcause).symm
      summary := (hkeeps (·.sli.summary) fun _ _ _ _ _ _ _ => rfl).trans (by rw [hnow]; rfl)
      links := by
        rw [hnow]
        exact hlinks
      held := hnew }

end

/-! ### What the start-up keeps (R4, R36, R78, R119) -/

/-- The elapsed-seconds count runs on through the start-up (R4). -/
theorem State.Retained.startUpSweep_seconds {u : State} (hu : u.Retained) : u.startUpSweep.seconds = u.seconds := by
  have hset : u.sweepSetOut.seconds = u.seconds := by rw [State.sweepSetOut, State.judgeSensors_seconds]; rfl
  have hswept : u.sweptEmpty.seconds = u.seconds := by
    rw [State.sweptEmpty, State.judgeSensors_seconds]
    exact hset
  by_cases h : u.sweepSet = []
  · by_cases hdis : u.sev.state = .disabled
    · rw [hu.startUpSweep_of_disabled h hdis, State.modeEntry_seconds (by rw [← hdis, ← u.sweptEmpty_sev])]
      exact hswept
    · rw [hu.startUpSweep_of_usable h hdis, State.nextTest_keeps State.seconds fun _ _ _ _ _ => rfl, hswept]
  · rw [hu.startUpSweep_of_channels h]
    exact hset

/-- The lifts with their conditions, from the lifts and the alarm list (R78, R119). -/
theorem State.keepsLifts_of_kept {s t : State} (h : s.liftsWf) (hkept : s.liftsKept t) (htable : s.keepsTable t)
    (halarms : t.alarmsAfterReset) : s.keepsLifts t := by
  obtain ⟨hlift, hcrane, hqueue, hhand, hcounter, hpairs⟩ := hkept
  obtain ⟨hheld, -, -⟩ := halarms
  obtain ⟨-, hfiling, -, -, -⟩ := htable
  obtain ⟨-, -, -, hfilingWf, hrecords⟩ := h
  have hholds (c : Crane) (hc : s.keptHolds t c = true) : (t.lift c).holdsLoad = true := by
    rw [hlift]
    unfold State.keptHolds at hc
    cases hk : s.keptLoad t c with
    | some l => rfl
    | none =>
      cases hp : s.keptPartner t c with
      | some n => rfl
      | none => simp [hk, hp] at hc
  refine ⟨hlift, fun c d hd => ?_, fun c l hl hunpermitted => ?_, fun f hf => ?_, hqueue, hhand, hcounter, hpairs⟩
  · obtain ⟨hhook, hpedestal, hworst⟩ := hcrane c d hd
    exact ⟨hhook, hpedestal, fun hc => ⟨hworst hc, by simp [hheld, hholds c hc]⟩⟩
  · have hrec : t.lift c = .hooked l := by rw [hlift, hl]
    simp [hheld, hrec, hunpermitted]
  · obtain ⟨g, hg, e, -, hgf⟩ := mem_allowedFiling.1 (List.mem_of_mem_drop (hfiling ▸ hf))
    have hunfiled := (State.waits_iff_unfiled hfilingWf f.crane).1 ⟨g, hg, by rw [← hgf]⟩
    obtain ⟨n, hn⟩ := Option.isSome_iff_exists.1 hunfiled
    obtain ⟨w, hw⟩ := LiftRec.unfiledLot_eq_some.1 hn
    have hload : s.keptLoad t f.crane = none := by simp [State.keptLoad, hw]
    have hpartner : s.keptPartner t f.crane = none := by
      by_contra hsome
      obtain ⟨l, hl, htan⟩ := State.keptPartner_isSome.1 (Option.isSome_iff_ne_none.2 hsome)
      have hmate := (State.tandem_mate_of_recordsWf hrecords (State.keptLoad_hooked hl) htan).2
      rw [mate_mate, hw] at hmate
      cases hmate
    have hany : (t.ct.filing.any fun f' => f'.crane == f.crane) = true := List.any_eq_true.2 ⟨f, hf, by simp⟩
    have hrec : t.lift f.crane = .unfiled n w := by
      rw [hlift, hload, hpartner, hw]
      exact if_pos hany
    simp [hheld, hrec]

/-- A reset that keeps the condition, with power good and the line released (R36, R78, R115, R119, R184). -/
theorem State.startUp_keeps {s : State} {cause : Cause} (comm : Bool) (h : s.liftsWf) (hcause : cause ≠ .powerOn)
    (hline : s.line = false) :
    s.resetBlocks (s.startUp cause comm) cause comm ∧ s.keepsTable (s.startUp cause comm) ∧
      s.keepsLifts (s.startUp cause comm) ∧ s.keepsCounts (s.startUp cause comm) ∧
      (s.startUp cause comm).now = s.now ∧ (s.startUp cause comm).seconds = s.seconds ∧
      (s.startUp cause comm).pending = s.pending := by
  have hu := State.retained_restarted comm h hcause hline
  have hx := s.resetLoaded cause comm
  have hcause' := s.loaded_cause comm hcause
  have htable := hx.retain_keepsTable h hcause'
  have hlifts := hx.retain_liftsKept h hcause'
  have hcounts := hx.retain_keepsCounts h hcause'
  have hkeeps {β : Type} (f : State → β) := State.retained_keeps comm h hcause f
  rw [State.startUp_eq]
  generalize (s.resetBegun cause comm).loadTables.retain = u at hu htable hlifts hcounts hkeeps
  have hswept := hu.retained.startUpSweep_swept
  have hstart {β : Type} (f : State → β) (hf : ∀ x, f (State.startErased x) = f x) : f u.startUpSweep = f u := by
    rw [← hf u.startUpSweep, hswept.erased, hf]
  have htable' : s.keepsTable u.startUpSweep := (hstart s.keepsTable fun _ => rfl).mpr htable
  have hlifts' : s.liftsKept u.startUpSweep := (hstart s.liftsKept fun _ => rfl).mpr hlifts
  refine ⟨hu.resetBlocks, htable', State.keepsLifts_of_kept h hlifts' htable' (hswept.alarmsAfterReset hu),
    (hstart s.keepsCounts fun _ => rfl).mpr hcounts, ?_, ?_, ?_⟩
  · exact (hstart State.now fun _ => rfl).trans (hkeeps State.now fun _ _ _ _ _ _ _ => rfl)
  · exact hu.retained.startUpSweep_seconds.trans (hkeeps State.seconds fun _ _ _ _ _ _ _ => rfl)
  · exact (hstart State.pending fun _ => rfl).trans (hkeeps State.pending fun _ _ _ _ _ _ _ => rfl)

/-- Settles O12: with power low only the line is released; otherwise the part starts up anew and keeps the condition. -/
theorem lineResetKeepsTheCondition : Obligations.LineResetKeepsTheCondition := by
  intro s comm
  have hexec : exec (.lineReset comm) s =
      .next (if s.phase = .off then { s with line := false } else { s with line := false }.startUp .line comm) := rfl
  refine ⟨fun hphase => by rw [hexec, if_pos hphase], fun h hphase => ?_⟩
  have hkept := State.startUp_keeps (s := { s with line := false }) (cause := .line) comm h (by decide) rfl
  exact ⟨_, by rw [hexec, if_neg hphase], hkept⟩

end Sys2Proof.Machine
end

section
/-!
The evaluator's choice (R38 to R42, R51): which job it takes with which image, and that no step leaves it IDLE beside a
job that is wanted. A command that may make a job wanted ends in the choice; every other command leaves what the choice
looks at as it was, or marks nothing that it looks at as wanted.
-/

namespace Sys2Proof.Machine

set_option Elab.async false

/-! ### The choice (R41, R42) -/

/-- The kind of job that R41 has the evaluator choose in a state. -/
def State.chosen (s : State) : Option JobKind :=
  chooseJob s.sev.last s.dirty (!s.lcu.queue.isEmpty) s.sev.trialWanted

/-- The image and the marks of a job of a kind taken (R39, R40, R51, R85, R170). -/
def State.jobTaken (s : State) (kind : JobKind) : State :=
  { s with
    sev := { s.sev with
      state := .busy (s.image kind (if kind = .permit then s.lcu.queue.head? else none))
      taken := if kind = .live then some s.ct.serial else s.sev.taken
      trialWanted := if kind = .trial then false else s.sev.trialWanted }
    lcu := { s.lcu with
      inHand := if kind = .permit then s.lcu.queue.head?.map fun c => (c, false) else s.lcu.inHand }
    csv := { s.csv with trialState := if kind = .trial then .running else s.csv.trialState } }

theorem State.chosen_eq (s : State) : s.chosen =
    if s.sev.last = some .live ∧ s.lcu.queue ≠ [] then some .permit
    else if s.sev.last = some .live ∧ s.sev.trialWanted = true then some .trial
    else if s.sev.taken ≠ some s.ct.serial then some .live
    else if s.lcu.queue ≠ [] then some .permit
    else if s.sev.trialWanted = true then some .trial
    else none := by
  unfold State.chosen chooseJob State.dirty
  by_cases hlast : s.sev.last = some .live <;> cases s.lcu.queue <;> cases s.sev.trialWanted <;> simp [hlast]

/-- A PERMIT job is chosen only with a request in the queue. -/
theorem State.queue_of_chosen_permit {s : State} (h : s.chosen = some .permit) : s.lcu.queue ≠ [] := by
  intro hq
  rw [State.chosen_eq] at h
  simp only [hq, ne_eq, not_true_eq_false, and_false, if_false] at h
  split_ifs at h <;> simp_all

theorem State.chosen_ne_test (s : State) : s.chosen ≠ some .test := by
  rw [State.chosen_eq]
  split_ifs <;> simp

/-- A BUSY, DISABLED or starting evaluator takes nothing (R41). -/
theorem State.takeJob_of_not_choosing {s : State} (h : s.sev.state ≠ .idle ∨ s.hds.mode = .starting) :
    s.takeJob = s := by
  unfold State.takeJob
  rw [if_neg]
  simp only [Bool.and_eq_true, bne_iff_ne, ne_eq, decide_eq_true_eq, not_and]
  exact fun hmode hidle => h.elim (· hidle) hmode

/-- An IDLE one, past the start-up, takes the job that R41 chooses, if one is wanted. -/
theorem State.takeJob_of_idle {s : State} (hidle : s.sev.state = .idle) (hmode : s.hds.mode ≠ .starting) :
    s.takeJob = s.chosen.elim s s.jobTaken := by
  have hchoose : (s.hds.mode != .starting && decide (s.sev.state = .idle)) = true := by simp [hidle, hmode]
  have hpermit := State.queue_of_chosen_permit (s := s)
  have htest := s.chosen_ne_test
  unfold State.takeJob
  rw [if_pos hchoose]
  change (match s.chosen with
    | some .live => s.takeLive
    | some .permit =>
      match s.lcu.queue with
      | c :: _ => s.takePermit c
      | [] => s
    | some .trial => s.takeTrial
    | _ => s) = _
  cases hk : s.chosen with
  | none => rfl
  | some kind =>
    cases kind with
    | live => rfl
    | permit =>
      cases hq : s.lcu.queue with
      | nil => exact absurd hq (hpermit hk)
      | cons c rest => simp [State.jobTaken, State.takePermit, hq]
    | trial => rfl
    | test => exact absurd hk htest

/-- A job once taken, none is left waiting. -/
theorem State.takeJob_noJobWaits (s : State) : s.takeJob.noJobWaits := by
  by_cases hc : s.sev.state ≠ .idle ∨ s.hds.mode = .starting
  · rw [State.takeJob_of_not_choosing hc]
    exact fun _ hmode hidle => (hc.elim (· hidle) hmode).elim
  · obtain ⟨hidle, hmode⟩ : s.sev.state = .idle ∧ s.hds.mode ≠ .starting := by simpa [not_or] using hc
    have heq := State.takeJob_of_idle hidle hmode
    cases hk : s.chosen with
    | none =>
      rw [heq, hk]
      rw [State.chosen_eq] at hk
      intro _ _ _
      split_ifs at hk
      simp_all [State.dirty]
    | some kind =>
      rw [heq, hk]
      exact fun _ _ hidle' => nomatch hidle'

/-! ### What leaves the choice as it was -/

namespace State.noJobWaits

/-- The choice looks at the phase, the mode, the evaluator, the serial and the permit queue. -/
theorem of_fields {s t : State} (h : s.noJobWaits) (hphase : t.phase = s.phase := by rfl)
    (hmode : t.hds.mode = s.hds.mode := by rfl) (hsev : t.sev = s.sev := by rfl)
    (hserial : t.ct.serial = s.ct.serial := by rfl) (hqueue : s.lcu.queue = [] → t.lcu.queue = [] := by exact id) :
    t.noJobWaits := by
  unfold State.noJobWaits State.dirty at *
  rw [hphase, hmode, hsev, hserial]
  intro hrun hne hidle
  obtain ⟨hdirty, hempty, htrial⟩ := h hrun hne hidle
  exact ⟨hdirty, hqueue hempty, htrial⟩

/-- Out of operation no job is asked for. -/
theorem of_phase {s : State} (h : s.phase ≠ .running) : s.noJobWaits := fun hrun => absurd hrun h

/-- During the start-up neither. -/
theorem of_starting {s : State} (h : s.hds.mode = .starting) : s.noJobWaits := fun _ hmode => absurd h hmode

/-- Nor while the evaluator runs a job. -/
theorem of_busy {s : State} (h : s.sev.state ≠ .idle) : s.noJobWaits := fun _ _ hidle => absurd hidle h

/-- Changes of the alarm list make no job wanted (R157). -/
theorem of_noted {s t : State} (h : s.noJobWaits) (ht : s.Noted t) : t.noJobWaits :=
  (iff_of_eq (ht.keeps State.noJobWaits fun _ _ _ => rfl)).2 h

theorem foldl {α : Type} {f : State → α → State} (hf : ∀ u a, u.noJobWaits → (f u a).noJobWaits) (l : List α)
    {s : State} (h : s.noJobWaits) : (l.foldl f s).noJobWaits := by
  induction l generalizing s with
  | nil => exact h
  | cons a rest ih => exact ih (hf s a h)

variable {s : State}

theorem answer {q : Port} {r : Reply} (h : s.noJobWaits) : (s.answer q r).noJobWaits := by cases r <;> exact h

/-- The taking of a frame leaves no job waiting when its handling leaves none. -/
theorem serve {q : Port} {k : Byte} {handle : List Byte → State → State × Reply}
    (hh : ∀ p u, u.noJobWaits → (handle p u).1.noJobWaits) (h : s.noJobWaits) : (serve q k handle s).noJobWaits := by
  have hpull : (s.pull q).noJobWaits := h
  rcases serve_cases q k handle s with hs | ⟨p, -, -, hs⟩ | ⟨p, -, -, hs⟩ <;> rw [hs]
  · exact h
  · exact hpull.answer
  · exact (hh p _ hpull).answer

theorem serveCrane {c : Crane} {k : Byte} {handle : List Byte → State → State × Reply}
    (hh : ∀ p u, u.noJobWaits → (handle p u).1.noJobWaits) (h : s.noJobWaits) :
    (serveCrane c k handle s).noJobWaits := by
  refine h.serve fun p u hu => ?_
  split
  · exact hu
  · exact hh p u hu

theorem serveLift {c : Crane} {k : Byte} {handle : List Byte → State → State × Reply}
    (hh : ∀ p u, u.noJobWaits → (handle p u).1.noJobWaits) (h : s.noJobWaits) :
    (serveLift c k handle s).noJobWaits := by
  refine h.serveCrane fun p u hu => ?_
  split
  · exact hu
  · exact hh p u hu

theorem serveUnknown {q : Port} (h : s.noJobWaits) : (serveUnknown q s).noJobWaits := by
  unfold Machine.serveUnknown
  split
  · split
    · exact h
    · exact answer (s := s.pull q) h
  · exact h

/-- A read answers and does nothing else. -/
theorem of_reads {handle : List Byte → State → State × Reply} (hr : ∀ p u, (handle p u).1 = u) (p : List Byte)
    (u : State) (hu : u.noJobWaits) : (handle p u).1.noJobWaits := by rwa [hr p u]

/-! ### Frames and timers that the choice does not follow -/

variable {p : List Byte}

theorem trialAddReply (h : s.noJobWaits) : (trialAddReply p s).1.noJobWaits := by
  unfold Machine.trialAddReply
  split
  · split <;> exact h
  · exact h

theorem ackAlarmReply (h : s.noJobWaits) : (ackAlarmReply p s).1.noJobWaits := by
  unfold Machine.ackAlarmReply
  dsimp only
  split
  · exact h
  · exact h.of_noted (.alarm s _)

theorem inCommissioning {k : Byte} {handle : List Byte → State → State × Reply}
    (hh : ∀ p u, u.noJobWaits → (handle p u).1.noJobWaits) (p : List Byte) (u : State) (hu : u.noJobWaits) :
    (inCommissioning k handle p u).1.noJobWaits := by
  unfold Machine.inCommissioning
  split
  · exact hh p u hu
  · exact hu

theorem storeLoadReply (h : s.noJobWaits) : (storeLoadReply p s).1.noJobWaits := by
  unfold Machine.storeLoadReply
  dsimp only
  split <;> exact h

theorem storeProgramReply (h : s.noJobWaits) : (storeProgramReply p s).1.noJobWaits := by
  unfold Machine.storeProgramReply
  dsimp only
  split <;> exact h

theorem storeDiscardReply (h : s.noJobWaits) : (storeDiscardReply p s).1.noJobWaits := by
  unfold Machine.storeDiscardReply
  split <;> exact h

theorem storeReadReply (h : s.noJobWaits) : (storeReadReply p s).1.noJobWaits := by
  unfold Machine.storeReadReply
  dsimp only
  split
  · exact h
  · split <;> exact h

/-- A request withdrawn leaves the queue no longer than it was (R85, R93). -/
theorem dropRequest {c : Crane} (h : s.noJobWaits) : (s.dropRequest c).noJobWaits := by
  unfold State.dropRequest
  split
  · exact h.of_fields (hqueue := fun hq => by simp [State.leaveQueue, State.setLift, hq])
  · exact h
  · exact h

theorem liftCancelReply {c : Crane} (h : s.noJobWaits) : (liftCancelReply c p s).1.noJobWaits := by
  unfold Machine.liftCancelReply
  split
  · exact h.dropRequest
  · split
    · exact h.dropRequest
    · exact h
  · exact h

theorem stopAckReply {q : Port} (h : s.noJobWaits) : (stopAckReply q p s).1.noJobWaits := by
  show (s.ackStop q).noJobWaits
  unfold State.ackStop
  split
  · exact h
  · exact of_noted (s := s.setStopPort q _) h (.clear _ _)
  · exact h
  · exact h

/-- The end of a frame on a port brings its count and alarms, and the buffer a frame (R173). -/
theorem receive {q : Port} {l : List Byte} (h : s.noJobWaits) : (s.receive q l).noJobWaits := by
  have hbad : (s.badFrame q).noJobWaits := by
    unfold State.badFrame
    dsimp only
    split
    · exact of_noted (s := s.setLink q _) h (.keep _ _ _)
    · exact h
  have hmatch : (s.matchingCheck q).noJobWaits := by
    unfold State.matchingCheck
    dsimp only
    split
    · exact of_noted (s := s.setLink q _) h (.clear _ _)
    · exact of_noted (s := s.setLink q _) h (.trans (.clear _ _) (.clear _ _))
  unfold State.receive
  split
  · unfold State.takeIn
    split
    · exact hmatch
    · exact hmatch.of_noted (.event _ _)
  all_goals exact hbad

/-- A sweep's start moves channels and tanks in HELD, which no serial counts (R26, R123). -/
theorem startSweep (h : s.noJobWaits) : s.startSweep.noJobWaits := by
  have hleft := State.foldl_leaveSweep_left { s with tgt := { s.tgt with active := s.sweepSet } }
    (s.tgt.active.filter fun ch => ch ∉ s.sweepSet)
  have hset : (s.setActive s.sweepSet).noJobWaits := by
    refine of_noted ?_ (.judgeSensors _)
    rw [hleft.rest]
    exact h
  exact hset

theorem sweepDue (h : s.noJobWaits) : s.sweepDue.noJobWaits := by
  unfold State.sweepDue
  split
  · exact h
  · split
    · exact h.startSweep
    · exact h

theorem placeSummary {m : Summary} {q : Port} (h : s.noJobWaits) : (placeSummary m s q).noJobWaits := h

end State.noJobWaits

/-! ### The start-up (R184, R185) -/

/-- What each operation of a list leaves, all of them leave. -/
theorem foldl_keeps {α β : Type} (f : State → β) {g : State → α → State} (h : ∀ s a, f (g s a) = f s) (l : List α)
    (s : State) : f (l.foldl g s) = f s := by
  induction l generalizing s with
  | nil => rfl
  | cons a l ih => rw [List.foldl_cons, ih, h]

theorem State.fileWaiting_mode (n : Nat) (s : State) : (State.fileWaiting n s).hds.mode = s.hds.mode := by
  have hone (u : State) : u.fileHead.hds.mode = u.hds.mode := by
    unfold State.fileHead
    split
    · split
      · rw [State.clear_hds]
        rfl
      · rfl
    · rfl
  induction n generalizing s with
  | zero => rfl
  | succ n ih => rw [State.fileWaiting, ih, hone]

theorem State.retainTable_mode (s : State) : s.retainTable.hds.mode = s.hds.mode := by
  have hdrop (u : State) (f : Filing) : (u.dropUnfiled f).hds.mode = u.hds.mode := by
    unfold State.dropUnfiled
    split <;> rfl
  have hjudge (u : State) (a : Nat) : (u.judgeSpace a).hds.mode = u.hds.mode := by rw [State.judgeSpace_hds]
  unfold State.retainTable
  dsimp only
  rw [foldl_keeps (·.hds.mode) hjudge, State.fileWaiting_mode]
  exact foldl_keeps (·.hds.mode) hdrop s.ct.filing s

theorem State.retainLifts_mode (s : State) : s.retainLifts.hds.mode = s.hds.mode := by
  have hdrop (u : State) (c : Crane) : (u.dropHooked c).hds.mode = u.hds.mode := by
    unfold State.dropHooked
    split
    · split <;> rfl
    · rfl
  have hhooked (before : PerCrane Hook) (u : State) (c : Crane) :
      (State.retainHooked before u c).hds.mode = u.hds.mode := by
    unfold State.retainHooked
    split
    · dsimp only
      split <;> split <;> simp [State.retainHook]
    · rfl
  have hunfiled (u : State) (c : Crane) : (u.retainUnfiled c).hds.mode = u.hds.mode := by
    unfold State.retainUnfiled
    split
    · rw [State.raise_hds]
    · rfl
  have hstructure (u : State) (c : Crane) : (u.retainStructure c).hds.mode = u.hds.mode := by
    unfold State.retainStructure State.structureToWorst State.moveStructure
    split
    · split
      · split <;> rfl
      · rfl
    · rfl
  unfold State.retainLifts
  dsimp only
  rw [foldl_keeps (·.hds.mode) hstructure, foldl_keeps (·.hds.mode) hunfiled, foldl_keeps (·.hds.mode) (hhooked _),
    foldl_keeps (·.hds.mode) hdrop]

theorem State.retain_mode (s : State) : s.retain.hds.mode = s.hds.mode := by
  unfold State.retain
  split
  · rfl
  · exact (State.retainLifts_mode _).trans (State.retainTable_mode s)
  · exact (State.retainLifts_mode _).trans (State.retainTable_mode s)

theorem State.modeEntry_noJobWaits (s : State) : s.modeEntry.noJobWaits := State.takeJob_noJobWaits _

theorem State.afterLive_noJobWaits (s : State) : s.afterLive.noJobWaits := by
  unfold State.afterLive
  split
  · exact State.modeEntry_noJobWaits s
  · exact State.takeJob_noJobWaits s

/-- The hand-over to the evaluator leaves it BUSY (R48). -/
theorem State.nextTest_busy (l : List TestCondition) (s : State) : (State.nextTest l s).sev.state ≠ .idle := by
  induction l generalizing s with
  | nil => nofun
  | cons tc rest ih =>
    unfold State.nextTest
    split
    · nofun
    · exact ih _

/-- Past the start-up sweep the evaluator runs a test condition or the LIVE job, or the part enters its mode (R185). -/
theorem State.startUpSwept_noJobWaits (s : State) : s.startUpSwept.noJobWaits := by
  unfold State.startUpSwept
  dsimp only
  split
  · exact State.modeEntry_noJobWaits _
  · exact .of_busy (State.nextTest_busy _ _)

theorem State.startUpSweep_noJobWaits {s : State} (h : s.hds.mode = .starting) : s.startUpSweep.noJobWaits := by
  have hsweep (u : State) : u.startSweep.hds.mode = u.hds.mode := by
    have hleft := State.foldl_leaveSweep_left { u with tgt := { u.tgt with active := u.sweepSet } }
      (u.tgt.active.filter fun ch => ch ∉ u.sweepSet)
    show (State.judgeSensors _).hds.mode = _
    rw [State.judgeSensors_hds, hleft.rest]
  unfold State.startUpSweep
  dsimp only
  split
  · exact State.startUpSwept_noJobWaits _
  · exact .of_starting ((hsweep _).trans h)

/-- A reset leaves the part in its start-up, or past it with the evaluator's choice made. -/
theorem State.startUp_noJobWaits (s : State) (cause : Cause) (strap : Bool) : (s.startUp cause strap).noJobWaits := by
  refine State.startUpSweep_noJobWaits ((State.retain_mode _).trans ?_)
  exact State.loadTables_keeps (·.hds.mode) (fun u k => by rw [State.raise_hds]) _

/-! ### The step -/

/-- Each command leaves the evaluator BUSY or without a job wanted. -/
theorem exec_keeps_noJobWaits (c : Instr) {s t : State} (h : s.noJobWaits) (ht : exec c s = .next t) :
    t.noJobWaits := by
  cases c with
  | setConstant | enterLot | removeLot | shiftLot | setDensity | setManual | releaseManual | setSetting | trialRun
  | liftRequest | hookLoaded | hookPosition | hookLanded | transferStart | transferEnd | transferClear =>
    cases ht
    exact State.takeJob_noJobWaits _
  | readItem => cases ht; exact h.serve (.of_reads readItemReply_state)
  | readRun => cases ht; exact h.serve (.of_reads readRunReply_state)
  | readStow => cases ht; exact h.serve (.of_reads readStowReply_state)
  | readLot => cases ht; exact h.serve (.of_reads readLotReply_state)
  | readResult => cases ht; exact h.serve (.of_reads readResultReply_state)
  | readStrength => cases ht; exact h.serve (.of_reads readStrengthReply_state)
  | readAlarms => cases ht; exact h.serve (.of_reads readAlarmsReply_state)
  | readSetting => cases ht; exact h.serve (.of_reads readSettingReply_state)
  | trialBegin => cases ht; exact h.serve fun _ _ hu => hu
  | trialAdd => cases ht; exact h.serve fun _ _ hu => hu.trialAddReply
  | ackAlarm => cases ht; exact h.serve fun _ _ hu => hu.ackAlarmReply
  | restart => cases ht; exact h.serve fun _ _ hu => hu
  | storeLoad => cases ht; exact h.serve (.inCommissioning fun _ _ hu => hu.storeLoadReply)
  | storeProgram => cases ht; exact h.serve (.inCommissioning fun _ _ hu => hu.storeProgramReply)
  | storeDiscard => cases ht; exact h.serve (.inCommissioning fun _ _ hu => hu.storeDiscardReply)
  | storeRead => cases ht; exact h.serve (.inCommissioning fun _ _ hu => hu.storeReadReply)
  | liftCancel crane => cases ht; exact h.serveLift fun _ _ hu => hu.liftCancelReply
  | stopAck port =>
    cases ht
    cases port with
    | p => exact h
    | b => exact h.serve fun _ _ hu => hu.stopAckReply
    | c1 | c2 | c3 | c4 => exact h.serveCrane fun _ _ hu => hu.stopAckReply
  | unknownKind port => cases ht; exact h.serveUnknown
  | powerOn comm =>
    cases ht
    split
    · split
      · exact .of_phase nofun
      · exact State.startUp_noJobWaits _ _ _
    · exact h
  | lineReset comm =>
    cases ht
    split
    · exact h
    · exact State.startUp_noJobWaits _ _ _
  | resetHold cause => cases ht; exact .of_starting rfl
  | frameReceived port octets =>
    cases ht
    split
    · exact h.receive
    · exact h
  | linkBreak port comm =>
    cases ht
    split
    · unfold State.breakPort
      dsimp only
      split
      · exact State.startUp_noJobWaits _ _ _
      · exact State.takeJob_noJobWaits _
    · exact h
  | silenceTimerExpiry port =>
    cases ht
    split
    · exact State.takeJob_noJobWaits _
    · exact h
  | frameSent port comm =>
    cases ht
    split
    · exact State.startUp_noJobWaits _ _ _
    · exact h
  | summaryTimerExpiry =>
    cases ht
    split
    · exact .foldl (fun _ _ hu => hu.placeSummary) _ (.of_fields h)
    · exact h
  | programComplete =>
    cases ht
    split
    · exact .answer h
    · exact h
  | reservationExpiry crane => cases ht; split <;> exact h
  | ackTimerExpiry port =>
    cases ht
    split
    · exact .of_noted (s := State.setStopPort (s.reach _) _ _) h (.raise _ _)
    · exact h
  | sweepTimerExpiry =>
    cases ht
    split
    · exact .sweepDue h
    · exact h
  | conversionEnd count =>
    cases ht
    split
    · unfold State.converted
      dsimp only
      split
      · exact State.startUpSwept_noJobWaits _
      · exact State.takeJob_noJobWaits _
    · exact h
  | holdTimerExpiry tank =>
    cases ht
    split
    · exact .of_noted (s := State.onGauge (s.reach _) _ _) h (.raise _ _)
    · exact h
  | permitJobComplete =>
    cases ht
    split
    · exact State.takeJob_noJobWaits _
    · exact h
  | liveJobComplete =>
    cases ht
    split
    · exact State.afterLive_noJobWaits _
    · exact h
  | trialJobComplete =>
    cases ht
    split
    · exact State.takeJob_noJobWaits _
    · exact h
  | testJobComplete =>
    cases ht
    split
    · exact .of_busy (State.nextTest_busy _ _)
    · exact h

/-- Settles O10: a step is a command or a tick of the time base, and the choice is R41's. -/
theorem noJobIsLeftWaiting : Obligations.NoJobIsLeftWaiting := by
  refine ⟨fun s t h ht => ?_, fun s => ?_⟩
  · unfold step at ht
    split at ht
    · exact exec_keeps_noJobWaits _ (.of_fields h) ht
    · cases ht
      unfold State.tick
      split <;> exact h
  · dsimp only
    rw [← s.chosen_eq]
    refine ⟨State.takeJob_of_not_choosing, fun hidle hmode hnone => ?_, fun hidle hmode kind hkind => ?_⟩
    · rw [State.takeJob_of_idle hidle hmode, hnone]
      rfl
    · rw [State.takeJob_of_idle hidle hmode, hkind]
      rfl

end Sys2Proof.Machine
end

section
/-!
The trial frames of port P (R49, R169, R170, R179): each change reads back from its payload, and TRIAL_BEGIN, TRIAL_ADD
and TRIAL_RUN do with the list what R169 and R170 say.
-/

namespace Sys2Proof.Machine

set_option Elab.async false

/-! ### The change that a TRIAL_ADD carries (R169, R179) -/

/-- The first octet of a payload that names its change kind. -/
theorem field_changeKind {k : Nat} (h : k < 256) (p : List Byte) : field (octetsN 1 k ++ p) 0 1 = k :=
  field_octetsN_append 1 k p h

theorem TrialChange.payload_lengthOk (ch : TrialChange) : lengthOk kTrialAdd ch.payload = true := by
  cases ch <;> simp [lengthOk, TrialChange.payload, List.append_assoc, field_changeKind, trialLength]

theorem craneOfNum_craneNum (c : Crane) : craneOfNum (craneNum c) = some c := by cases c <;> rfl

theorem craneNum_lt (c : Crane) : craneNum c < 256 := by cases c <;> decide

/-- A payload reads back its change, whose ranges are then checked before its address octet (R169, assumption 25). -/
theorem trialChangeOf_payload {ch : TrialChange} (h : ch.onWire) :
    ∃ fields : Bool, (fields = true ↔ ch.inRange) ∧ trialChangeOf ch.payload = trialChecked fields ch.address ch := by
  cases ch with
  | addLot n a w q =>
    obtain ⟨hn, ha, hw, hq⟩ := h
    refine ⟨lotNumber n && lotWeight w && q.inFrame, ?_, ?_⟩
    · simp [TrialChange.inRange, lotNumber, lotWeight, within, Nat.one_le_iff_ne_zero, and_assoc]
    · simp [trialChangeOf, TrialChange.payload, TrialChange.address, field_append_right, field_octetsN_append,
        fieldU_append_right, fieldPos_append_right, hn, ha, fieldU_octets w _ hw, fieldPos_posOctets_end q hq]
  | removeLot n =>
    refine ⟨lotNumber n, ?_, ?_⟩
    · simp [TrialChange.inRange, lotNumber, Nat.one_le_iff_ne_zero]
    · have hn : n < 256 ^ 2 := h
      simp [trialChangeOf, TrialChange.payload, TrialChange.address, field_append_right, field_octetsN_append,
        field_octetsN 2 n hn]
  | shiftLot n a q =>
    obtain ⟨hn, ha, hq⟩ := h
    refine ⟨lotNumber n && q.inFrame, ?_, ?_⟩
    · simp [TrialChange.inRange, lotNumber, Nat.one_le_iff_ne_zero]
    · simp [trialChangeOf, TrialChange.payload, TrialChange.address, field_append_right, field_octetsN_append,
        fieldPos_append_right, hn, ha, fieldPos_posOctets_end q hq]
  | setSounding a v =>
    obtain ⟨ha, hv⟩ := h
    refine ⟨within 0 80000 v, ?_, ?_⟩
    · simp [TrialChange.inRange, within, hv.1]
    · simp [trialChangeOf, TrialChange.payload, TrialChange.address, field_append_right, field_octetsN_append,
        fieldU_append_right, ha, fieldU_octets_end v hv]
  | setConst slot w q =>
    obtain ⟨hslot, hw, hq⟩ := h
    refine ⟨decide (slot ≤ 15) && within 0 60000 w && q.inFrame, ?_, ?_⟩
    · simp [TrialChange.inRange, within, hw.1, and_assoc]
    · simp [trialChangeOf, TrialChange.payload, TrialChange.address, field_append_right, field_octetsN_append,
        fieldU_append_right, fieldPos_append_right, hslot, fieldU_octets w _ hw, fieldPos_posOctets_end q hq]
  | hang c w q z =>
    obtain ⟨hw, hq, hz⟩ := h
    refine ⟨lotWeight w && q.inFrame && within 0 80000 z, ?_, ?_⟩
    · simp [TrialChange.inRange, lotWeight, within, hz.1, and_assoc]
    · simp [trialChangeOf, TrialChange.payload, TrialChange.address, field_append_right, field_octetsN_append,
        fieldU_append_right, fieldPt_append_right, craneNum_lt, craneOfNum_craneNum, fieldU_octets w _ hw,
        fieldPt_ptOctets q _ hq, fieldU_octets_end z hz]

/-- An unknown change kind has no length of its own, so that its frame is read (R169, R179). -/
theorem unknownChange_lengthOk {k : Nat} (h : 6 ≤ k) (hk : k < 256) (p : List Byte) :
    lengthOk kTrialAdd (octetsN 1 k ++ p) = true := by
  have hnone : trialLength k = none := by
    unfold trialLength
    split
    case h_7 => rfl
    all_goals omega
  simp [lengthOk, field_changeKind hk, hnone]

/-- A change kind that is none of the six is refused (R169). -/
theorem trialChangeOf_unknown {k : Nat} (h : 6 ≤ k) (hk : k < 256) (p : List Byte) :
    trialChangeOf (octetsN 1 k ++ p) = .error .badField := by
  unfold trialChangeOf
  dsimp only
  rw [field_changeKind hk]
  split
  case h_7 => rfl
  all_goals omega

/-- A crane octet outside 1 to 4 is refused (R169). -/
theorem trialChangeOf_noCrane {k : Nat} (h : k < 1 ∨ 4 < k) (hk : k < 256) (p : List Byte) :
    trialChangeOf (octetsN 1 5 ++ octetsN 1 k ++ p) = .error .badField := by
  have hnone : craneOfNum k = none := by
    unfold craneOfNum
    split
    case h_5 => rfl
    all_goals omega
  simp [trialChangeOf, List.append_assoc, field_append_right, field_octetsN_append, hk, hnone]

/-! ### The checks of TRIAL_ADD in their order (R169) -/

theorem TrialChange.address_lt {ch : TrialChange} (h : ch.onWire) : ∀ a ∈ ch.address, a < 256 := by
  cases ch with
  | addLot | shiftLot => rintro _ ⟨⟩; exact h.2.1
  | setSounding => rintro _ ⟨⟩; exact h.1
  | removeLot | setConst | hang => nofun

/-- What the checks make of a payload: a field out of range, then the address octet by R5, then the change. -/
theorem trialChangeOf_payload_checks {ch : TrialChange} (h : ch.onWire) :
    (¬ ch.inRange → trialChangeOf ch.payload = .error .badField) ∧
    (ch.inRange → (∃ a ∈ ch.address, 128 ≤ a ∧ a ≠ 254) → trialChangeOf ch.payload = .error .badField) ∧
    (ch.inRange → 254 ∈ ch.address → trialChangeOf ch.payload = .error .badSpace) ∧
    (ch.inRange → (∀ a ∈ ch.address, a < 128) → trialChangeOf ch.payload = .ok ch) := by
  obtain ⟨fields, hfields, hread⟩ := trialChangeOf_payload h
  have hlt := TrialChange.address_lt h
  rw [hread]
  unfold trialChecked
  refine ⟨fun hout => ?_, fun hin hbad => ?_, fun hin hquay => ?_, fun hin hgood => ?_⟩
  · rw [if_pos (by simpa using mt hfields.1 hout)]
  · obtain ⟨a, ha, hbad⟩ := hbad
    rw [hfields.2 hin, Option.mem_def.1 ha, Option.bind_some, addressCode_eq (hlt a ha), if_pos hbad]
    rfl
  · rw [hfields.2 hin, Option.mem_def.1 hquay, Option.bind_some, addressCode_eq (by decide)]
    rfl
  · rw [hfields.2 hin]
    cases ha : ch.address with
    | none => rfl
    | some a =>
      have hsmall : a < 128 := hgood a ha
      have hnotBad : ¬ (128 ≤ a ∧ a ≠ 254) := by omega
      have hnotQuay : ¬ a = 254 := by omega
      rw [Option.bind_some, addressCode_eq (hlt a ha), if_neg hnotBad, if_neg hnotQuay]
      rfl

/-! ### The frames (R169, R170) -/

/-- A TRIAL_ADD frame: TRIAL_FULL, the refusal of its change, or the change at the tail. -/
theorem execTrialAdd_eq {s : State} {p : List Byte} (ht : s.takes .p kTrialAdd p) (hlen : lengthOk kTrialAdd p = true) :
    exec .trialAdd s = .next (
      if s.csv.trial.length < 16 then
        match trialChangeOf p with
        | .error c => s.replied .p (.refused kTrialAdd c)
        | .ok ch => { s with csv.trial := s.csv.trial ++ [ch] }.replied .p
            (.done kTrialAdd (.count (s.csv.trial.length + 1)))
      else s.replied .p (.refused kTrialAdd .trialFull)) := by
  show Host.Outcome.next (serve .p kTrialAdd trialAddReply s) = _
  congr 1
  by_cases hroom : s.csv.trial.length < 16
  · have hroom' : (s.pull .p).csv.trial.length < Config.trialSize := hroom
    rw [if_pos hroom]
    cases hc : trialChangeOf p with
    | error c =>
      refine serve_answers ht hlen ?_
      rw [trialAddReply, if_pos hroom', hc]
      rfl
    | ok ch =>
      refine serve_answers (u := { s with csv.trial := s.csv.trial ++ [ch] }) ht hlen ?_
      rw [trialAddReply, if_pos hroom', hc]
      rfl
  · have hroom' : ¬ (s.pull .p).csv.trial.length < Config.trialSize := hroom
    rw [if_neg hroom]
    refine serve_answers ht hlen ?_
    rw [trialAddReply, if_neg hroom']
    rfl

theorem execTrialRun_eq {s : State} (ht : s.takes .p kTrialRun []) : exec .trialRun s = .next (
    if s.sev.state = .disabled then s.replied .p (.refused kTrialRun .notInService)
    else if s.csv.trialState ≠ .idle then s.replied .p (.refused kTrialRun .trialBusy)
    else { s with
      csv.trialState := .wanted
      csv.outcome := .pending
      sev.trialWanted := true }.replied .p (.done kTrialRun (.count s.csv.trial.length))).takeJob := by
  have hlen : lengthOk kTrialRun [] = true := by decide
  have hreply : trialRunReply [] (s.pull .p) =
      if s.sev.state = .disabled then (s.pull .p, refuse kTrialRun .notInService)
      else if s.csv.trialState ≠ .idle then (s.pull .p, refuse kTrialRun .trialBusy)
      else (State.pull { s with
        csv.trialState := .wanted
        csv.outcome := .pending
        sev.trialWanted := true } .p, done kTrialRun (.count s.csv.trial.length)) := rfl
  split
  next h => exact exec_answers rfl ht hlen (by rw [hreply, if_pos h]; rfl)
  next h =>
    split
    next h' => exact exec_answers rfl ht hlen (by rw [hreply, if_neg h, if_pos h']; rfl)
    next h' => exact exec_answers rfl ht hlen (by rw [hreply, if_neg h, if_neg h']; rfl)

/-- Settles O35: the three frames, TRIAL_ADD by its checks in their order. -/
theorem trialListIsBuiltAndRun : Obligations.TrialListIsBuiltAndRun := by
  intro s
  refine ⟨fun ht => ?_, fun ch hwire ht => ?_, fun k p h6 hk hroom ht => ?_,
    fun k w q z hout hk hw hq hz hroom ht => ?_, execTrialRun_eq⟩
  · exact congrArg _ (serve_answers (u := { s with csv.trial := [] }) (handle := trialBeginReply) ht (by decide) rfl)
  · have hexec := execTrialAdd_eq ht ch.payload_lengthOk
    obtain ⟨hrange, hbad, hquay, hgood⟩ := trialChangeOf_payload_checks hwire
    refine ⟨fun hfull => ?_, fun hroom hout => ?_, fun hroom hin ha => ?_, fun hroom hin ha => ?_,
      fun hroom hin ha => ?_⟩
    · rw [hexec, if_neg (by omega)]
    · rw [hexec, if_pos hroom, hrange hout]
    · rw [hexec, if_pos hroom, hbad hin ha]
    · rw [hexec, if_pos hroom, hquay hin ha]
    · rw [hexec, if_pos hroom, hgood hin ha]
  · rw [execTrialAdd_eq ht (unknownChange_lengthOk h6 hk p), if_pos hroom, trialChangeOf_unknown h6 hk]
  · have hlen : lengthOk kTrialAdd (octetsN 1 5 ++ octetsN 1 k ++ octets 3 w ++ ptOctets q ++ octets 3 z) = true := by
      simp [lengthOk, List.append_assoc, field_changeKind, trialLength]
    have hread := trialChangeOf_noCrane hout hk (octets 3 w ++ (ptOctets q ++ octets 3 z))
    rw [execTrialAdd_eq ht hlen, if_pos hroom]
    simp only [List.append_assoc] at hread ⊢
    rw [hread]

end Sys2Proof.Machine
end

section
/-!
What the installation of a live result does (R46, R140 to R149): the alarms that its figures bring in line, the stop
that it issues or lifts, and what it leaves unchanged.
-/

namespace Sys2Proof.Machine

set_option Elab.async false

/-! ### Conditions brought in line with checks (R141, R142) -/

theorem State.judge_held_nodup {s : State} (h : s.als.held.Nodup) (k : AlarmKey) (b : Bool) :
    (s.judge k b).als.held.Nodup := by
  cases b with
  | true => exact State.raise_held_nodup h k
  | false => exact State.clear_held_nodup h k

theorem State.mem_held_judge_of_ne {s : State} {k j : AlarmKey} (h : j ≠ k) (b : Bool) :
    j ∈ (s.judge k b).als.held ↔ j ∈ s.als.held := by
  cases b with
  | true => exact (s.mem_held_raise k j).trans (or_iff_left h)
  | false => exact State.mem_held_clear_of_ne h

/-- A judged condition is held exactly when it holds. -/
theorem State.mem_held_judge_self {s : State} (h : s.als.held.Nodup) (k : AlarmKey) (b : Bool) :
    k ∈ (s.judge k b).als.held ↔ b = true := by
  cases b with
  | true => simp [State.judge, State.mem_held_raise]
  | false => simp [State.judge, State.not_mem_held_clear k h]

theorem State.Noted.judge (s : State) (k : AlarmKey) (b : Bool) : s.Noted (s.judge k b) := by
  cases b with
  | true => exact State.Noted.raise s k
  | false => exact State.Noted.clear s k

/-- Conditions kept raised while they hold, one after another. -/
def State.keepAll (s : State) (checks : List (AlarmKey × Bool)) : State := checks.foldl (fun s e => s.keep e.1 e.2) s

theorem State.keepAll_append (s : State) (l m : List (AlarmKey × Bool)) :
    s.keepAll (l ++ m) = (s.keepAll l).keepAll m := List.foldl_append

theorem State.Noted.keepAll (s : State) (l : List (AlarmKey × Bool)) : s.Noted (s.keepAll l) := by
  induction l generalizing s with
  | nil => exact State.Noted.refl s
  | cons e l ih => exact (State.Noted.keep s e.1 e.2).trans (ih _)

theorem State.keepAll_held_nodup {s : State} (h : s.als.held.Nodup) (l : List (AlarmKey × Bool)) :
    (s.keepAll l).als.held.Nodup := by
  induction l generalizing s with
  | nil => exact h
  | cons e l ih => exact ih (State.keep_held_nodup h e.1 e.2)

/-- A condition that is not among those kept is left as it was. -/
theorem State.mem_held_keepAll_of_not_mem {s : State} {l : List (AlarmKey × Bool)} {j : AlarmKey}
    (h : j ∉ l.map Prod.fst) : j ∈ (s.keepAll l).als.held ↔ j ∈ s.als.held := by
  induction l generalizing s with
  | nil => rfl
  | cons e l ih =>
    obtain ⟨hne, hrest⟩ : ¬ j = e.1 ∧ j ∉ l.map Prod.fst := by simpa using h
    exact (ih hrest).trans (State.mem_held_keep_of_ne hne e.2)

/-- Each of the conditions kept is held exactly when it holds. -/
theorem State.mem_held_keepAll {s : State} (h : s.als.held.Nodup) {l : List (AlarmKey × Bool)}
    (hl : (l.map Prod.fst).Nodup) {k : AlarmKey} {b : Bool} (hk : (k, b) ∈ l) :
    k ∈ (s.keepAll l).als.held ↔ b = true := by
  induction l generalizing s with
  | nil => simp at hk
  | cons e l ih =>
    obtain ⟨hfirst, hrest⟩ := List.nodup_cons.1 hl
    rcases List.mem_cons.1 hk with rfl | hk
    · exact (State.mem_held_keepAll_of_not_mem hfirst).trans (State.mem_held_keep_self h k b)
    · exact ih (State.keep_held_nodup h e.1 e.2) hrest hk

/-! ### The limit alarms (R141) -/

/-- The stations of R141, each with its alarm and its check. -/
def stationChecks (kind : AlarmKind) (pm : List Int) : List (AlarmKey × Bool) :=
  alarmStations.map fun k => (⟨kind, .station k⟩, decide (1000 < nth pm k))

/-- The limit alarms of R141, each with its check. -/
def limitChecks (limits : Option LimitRecord) (draughtLimit : Nat) (r : Result) : List (AlarmKey × Bool) :=
  [(⟨.heelLimit, .none⟩, meets limits draughtLimit r .heel), (⟨.gmLimit, .none⟩, meets limits draughtLimit r .gm),
    (⟨.draughtLimit, .none⟩, meets limits draughtLimit r .draught)] ++
    stationChecks .shearLimit r.strength.sfPm ++ stationChecks .bendingLimit r.strength.bmPm ++
    [(⟨.gmNegative, .none⟩, r.flags.gmNegative)]

theorem State.judgeStations_eq (s : State) (kind : AlarmKind) (pm : List Int) :
    s.judgeStations kind pm = s.keepAll (stationChecks kind pm) := by
  unfold State.judgeStations State.keepAll stationChecks
  rw [List.foldl_map]

theorem State.limitAlarms_eq (s : State) (r : Result) :
    s.limitAlarms r = s.keepAll (limitChecks s.tables.limits s.settings.draughtLimit r) := by
  unfold limitChecks
  rw [State.keepAll_append, State.keepAll_append, State.keepAll_append]
  unfold State.limitAlarms
  dsimp only
  rw [State.judgeStations_eq, State.judgeStations_eq]
  rfl

/-- The conditions of R141. -/
def limitKeys : List AlarmKey :=
  [⟨.heelLimit, .none⟩, ⟨.gmLimit, .none⟩, ⟨.draughtLimit, .none⟩] ++
    alarmStations.map (fun k => ⟨.shearLimit, .station k⟩) ++
    alarmStations.map (fun k => ⟨.bendingLimit, .station k⟩) ++
    [⟨.gmNegative, .none⟩]

theorem limitKeys_nodup : limitKeys.Nodup := by decide

theorem limitChecks_keys (limits : Option LimitRecord) (draughtLimit : Nat) (r : Result) :
    (limitChecks limits draughtLimit r).map Prod.fst = limitKeys := rfl

theorem mem_alarmStations {k : Nat} : k ∈ alarmStations ↔ 1 ≤ k ∧ k ≤ 19 := by
  unfold alarmStations
  constructor
  · intro h
    obtain ⟨i, hi, rfl⟩ := List.mem_map.1 h
    have := List.mem_range.1 hi
    omega
  · intro h
    exact List.mem_map.2 ⟨k - 1, List.mem_range.2 (by omega), by omega⟩

/-! ### The criteria (R139, R140) -/

theorem anyBreach_iff (pm : List Int) : anyBreach pm = true ↔ ∃ v ∈ pm, 1000 < v := by simp [anyBreach]

theorem draughtAbove_iff (limit : Nat) (r : Result) :
    draughtAbove limit r = true ↔ limit ≠ 0 ∧ (limit : Int) < r.maxDraught := by simp [draughtAbove]

theorem meets_heel_iff (limits : Option LimitRecord) (n : Nat) (r : Result) :
    meets limits n r .heel = true ↔ ∀ l, limits = some l → l.stopHeel < mag r.heel := by
  cases limits <;> simp [meets, heelAbove]

theorem meets_gm_iff (limits : Option LimitRecord) (n : Nat) (r : Result) :
    meets limits n r .gm = true ↔ ∀ l, limits = some l → r.gmf < l.gmStop := by
  cases limits <;> simp [meets]

/-- A stop criterion is met (R140): a list of the five is searched for the first. -/
theorem find_criteria_isSome (m : Criterion → Bool) :
    (criteria.find? m).isSome = true ↔
      m .heel = true ∨ m .gm = true ∨ m .draught = true ∨ m .shear = true ∨ m .bending = true := by
  rw [List.find?_isSome]
  simp [criteria]

theorem liftable_iff (limits : Option LimitRecord) (n : Nat) (r : Result) :
    liftable limits n r = true ↔ ¬ draughtAbove n r = true ∧ ¬ anyBreach r.strength.sfPm = true ∧
      ¬ anyBreach r.strength.bmPm = true ∧ ∃ l, limits = some l ∧ mag r.heel ≤ l.liftHeel ∧ l.gmLift ≤ r.gmf := by
  cases limits with
  | none => simp [liftable]
  | some l =>
    simp only [liftable, heelAbove, Bool.and_eq_true, Bool.not_eq_true', decide_eq_false_iff_not, decide_eq_true_eq,
      Option.some.injEq, exists_eq_left', Bool.not_eq_true, Int.not_lt]
    tauto

/-! ### What the orders and withdrawals of a judgement leave unchanged (R95, R143 to R149) -/

/-- `t` is `s` with other links, alarms, lift records, permit queue and stop. -/
def State.Ordered (s t : State) : Prop :=
  ∃ (sli : Sli) (als : Als) (lmn : Lmn) (recs : PerCrane LiftRec) (queue : List Crane) (inHand : Option (Crane × Bool)),
    t = { s with
      sli := sli
      als := als
      lmn := lmn
      lcu := { s.lcu with recs := recs, queue := queue, inHand := inHand } }

namespace State.Ordered

theorem refl (s : State) : s.Ordered s := ⟨s.sli, s.als, s.lmn, s.lcu.recs, s.lcu.queue, s.lcu.inHand, rfl⟩

theorem trans {s t u : State} (h : s.Ordered t) (h' : t.Ordered u) : s.Ordered u := by
  obtain ⟨_, _, _, _, _, _, rfl⟩ := h
  obtain ⟨sli, als, lmn, recs, queue, inHand, rfl⟩ := h'
  exact ⟨sli, als, lmn, recs, queue, inHand, rfl⟩

/-- What is read of none of these stays. -/
theorem keeps {β : Type} (f : State → β)
    (hf : ∀ (s : State) (sli : Sli) (als : Als) (lmn : Lmn) (recs : PerCrane LiftRec) (queue : List Crane)
      (inHand : Option (Crane × Bool)),
      f { s with
        sli := sli
        als := als
        lmn := lmn
        lcu := { s.lcu with recs := recs, queue := queue, inHand := inHand } } = f s)
    {s t : State} (h : s.Ordered t) : f t = f s := by
  obtain ⟨sli, als, lmn, recs, queue, inHand, rfl⟩ := h
  exact hf s sli als lmn recs queue inHand

theorem of_noted {s t : State} (h : s.Noted t) : s.Ordered t := by
  obtain ⟨ms, -, ht⟩ := h
  exact ⟨_, t.als, s.lmn, s.lcu.recs, s.lcu.queue, s.lcu.inHand, ht⟩

theorem foldl {α : Type} {f : State → α → State} (h : ∀ (s : State) (a : α), s.Ordered (f s a)) (l : List α)
    (s : State) : s.Ordered (l.foldl f s) := by
  induction l generalizing s with
  | nil => exact refl s
  | cons a l ih => exact (h s a).trans (ih _)

theorem offer (s : State) (q : Port) (m : OutMsg) : s.Ordered (s.offer q m) :=
  ⟨_, s.als, s.lmn, s.lcu.recs, s.lcu.queue, s.lcu.inHand, rfl⟩

theorem setLift (s : State) (c : Crane) (r : LiftRec) : s.Ordered (s.setLift c r) :=
  ⟨s.sli, s.als, s.lmn, _, s.lcu.queue, s.lcu.inHand, rfl⟩

theorem setStop (s : State) (stop : Option (Criterion × Serial)) : s.Ordered { s with lmn.stop := stop } :=
  ⟨s.sli, s.als, _, s.lcu.recs, s.lcu.queue, s.lcu.inHand, rfl⟩

theorem sendStop (s : State) (q : Port) (c : Criterion) (n : Serial) : s.Ordered (s.sendStop q c n) :=
  ⟨_, s.als, _, s.lcu.recs, s.lcu.queue, s.lcu.inHand, rfl⟩

theorem withdraw (c : Criterion) (s : State) (k : Crane) : s.Ordered (s.withdraw c k) := by
  unfold State.withdraw
  split
  · exact (setLift s k _).trans (offer _ _ _)
  · exact refl s

theorem refuseStopped (s : State) (k : Crane) : s.Ordered (s.refuseStopped k) := (setLift s k _).trans (offer _ _ _)

theorem withdrawAll (s : State) (c : Criterion) : s.Ordered (s.withdrawAll c) :=
  ((foldl (withdraw c) cranes s).trans (foldl refuseStopped _ _)).trans
    ⟨_, _, _, _, [], _, rfl⟩

theorem stopCranes (s : State) (c : Criterion) (n : Serial) : s.Ordered (s.stopCranes c n) :=
  foldl (fun s k => by split; exacts [sendStop s _ c n, refl s]) cranes s

theorem stopBallast (s : State) (r : Result) : s.Ordered (s.stopBallast r) := by
  unfold State.stopBallast
  split
  · exact sendStop s _ _ _
  · exact refl s

theorem issueStop (s : State) (r : Result) (c : Criterion) : s.Ordered (s.issueStop r c) :=
  (((setStop s _).trans (withdrawAll _ c)).trans (stopCranes _ c r.serial)).trans (stopBallast _ r)

theorem resumePort (n : Serial) (s : State) (q : Port) : s.Ordered (s.resumePort n q) := by
  unfold State.resumePort
  split
  · exact refl s
  · have hplaced : s.Ordered ((s.placeOrder q (.resume n)).setStopPort q ⟨.none, none⟩) :=
      ⟨_, s.als, _, s.lcu.recs, s.lcu.queue, s.lcu.inHand, rfl⟩
    exact hplaced.trans (of_noted (State.Noted.clear _ _))

theorem resume (s : State) (r : Result) : s.Ordered (s.resume r) :=
  (foldl (resumePort r.serial) ports s).trans (setStop _ none)

theorem retestBallast (s : State) (r : Result) : s.Ordered (s.retestBallast r) := by
  unfold State.retestBallast
  split
  · exact stopBallast s r
  · exact refl s

end State.Ordered

/-! ### The stop and the alarms after its issue, its resume and a later test -/

theorem State.stopBallast_als (s : State) (r : Result) : (s.stopBallast r).als = s.als := by
  unfold State.stopBallast
  split <;> rfl

theorem State.stopBallast_stop (s : State) (r : Result) : (s.stopBallast r).lmn.stop = s.lmn.stop := by
  unfold State.stopBallast
  split <;> rfl

theorem State.retestBallast_als (s : State) (r : Result) : (s.retestBallast r).als = s.als := by
  unfold State.retestBallast
  split
  · exact s.stopBallast_als r
  · rfl

theorem State.retestBallast_stop (s : State) (r : Result) : (s.retestBallast r).lmn.stop = s.lmn.stop := by
  unfold State.retestBallast
  split
  · exact s.stopBallast_stop r
  · rfl

/-- A withdrawal changes lift records, the permit queue and links alone (R95). -/
theorem State.withdrawAll_keeps {β : Type} (f : State → β)
    (hf : ∀ (s : State) (sli : Sli) (recs : PerCrane LiftRec) (queue : List Crane) (inHand : Option (Crane × Bool)),
      f { s with sli := sli, lcu := { s.lcu with recs := recs, queue := queue, inHand := inHand } } = f s)
    (s : State) (c : Criterion) : f (s.withdrawAll c) = f s := by
  have hwithdraw (u : State) (k : Crane) : f (u.withdraw c k) = f u := by
    unfold State.withdraw
    split
    · exact hf u _ _ u.lcu.queue u.lcu.inHand
    · rfl
  have hrefuse (u : State) (k : Crane) : f (u.refuseStopped k) = f u := hf u _ _ u.lcu.queue u.lcu.inHand
  have hqueue (u : State) (inHand : Option (Crane × Bool)) : f { u with lcu.queue := [], lcu.inHand := inHand } = f u :=
    hf u u.sli u.lcu.recs [] inHand
  unfold State.withdrawAll
  rw [hqueue, foldl_keeps f hrefuse, foldl_keeps f hwithdraw]

/-- A stop's orders change links and the ports' stop states alone (R146). -/
theorem State.stopCranes_keeps {β : Type} (f : State → β)
    (hf : ∀ (s : State) (sli : Sli) (ports : PerPort StopPort),
      f { s with sli := sli, lmn := { s.lmn with ports := ports } } = f s)
    (s : State) (c : Criterion) (n : Serial) : f (s.stopCranes c n) = f s := by
  refine foldl_keeps f (fun u k => ?_) cranes s
  split
  · exact hf u _ _
  · rfl

theorem State.issueStop_als (s : State) (r : Result) (c : Criterion) : (s.issueStop r c).als = s.als := by
  unfold State.issueStop
  rw [State.stopBallast_als, State.stopCranes_keeps State.als fun _ _ _ => rfl,
    State.withdrawAll_keeps State.als fun _ _ _ _ _ => rfl]

theorem State.issueStop_stop (s : State) (r : Result) (c : Criterion) :
    (s.issueStop r c).lmn.stop = some (c, r.serial) := by
  unfold State.issueStop
  rw [State.stopBallast_stop, State.stopCranes_keeps (·.lmn.stop) fun _ _ _ => rfl,
    State.withdrawAll_keeps (·.lmn.stop) fun _ _ _ _ _ => rfl]

/-- The stop is no part of the alarm list. -/
theorem State.withStop_als (s : State) (stop : Option (Criterion × Serial)) :
    State.als { s with lmn.stop := stop } = s.als := rfl

/-- A resume clears STOP_UNANSWERED and leaves every other condition as it was (R149). -/
theorem State.mem_held_resume {s : State} {r : Result} {j : AlarmKey} (h : j.kind ≠ .stopUnanswered) :
    j ∈ (s.resume r).als.held ↔ j ∈ s.als.held := by
  have hport (u : State) (q : Port) : (j ∈ (u.resumePort r.serial q).als.held) = (j ∈ u.als.held) := by
    unfold State.resumePort
    split
    · rfl
    · refine propext (State.mem_held_clear_of_ne fun hj => h ?_)
      rw [hj]
  have hall := foldl_keeps (fun u : State => j ∈ u.als.held) hport ports s
  have hals : (s.resume r).als = (ports.foldl (State.resumePort r.serial) s).als := State.withStop_als _ none
  rw [hals]
  exact iff_of_eq hall

/-! ### The judgement of a live result (R140) -/

/-- The limit alarms and the cross-check brought in line, before any stop is issued or lifted. -/
def State.alarmsJudged (s : State) (r : Result) : State := (s.limitAlarms r).crossCheck r

theorem State.Noted.alarmsJudged (s : State) (r : Result) : s.Noted (s.alarmsJudged r) := by
  have hlimits : s.Noted (s.limitAlarms r) := by
    rw [State.limitAlarms_eq]
    exact State.Noted.keepAll s _
  exact (hlimits.trans (State.Noted.judge _ _ _)).trans (State.Noted.judge _ _ _)

/-- With no stop standing, the first criterion that a live result meets is issued (R140, R143). -/
theorem State.judgeLive_of_none {s : State} (h : s.lmn.stop = none) (r : Result) :
    s.judgeLive r = match criteria.find? (meets s.tables.limits s.settings.draughtLimit r) with
      | some c => (s.alarmsJudged r).issueStop r c
      | none => s.alarmsJudged r := by
  have hstop : (s.alarmsJudged r).lmn.stop = none :=
    ((State.Noted.alarmsJudged s r).keeps (·.lmn.stop) fun _ _ _ => rfl).trans h
  unfold State.judgeLive
  dsimp only
  change (match (s.alarmsJudged r).lmn.stop with | none => _ | some _ => _) = _
  rw [hstop]
  rfl

/-- With a stop standing, a live result within the lifting limits lifts it, and another tests port B again (R145,
R149). -/
theorem State.judgeLive_of_some {s : State} (h : s.lmn.stop ≠ none) (r : Result) :
    s.judgeLive r = if liftable s.tables.limits s.settings.draughtLimit r then (s.alarmsJudged r).resume r
      else (s.alarmsJudged r).retestBallast r := by
  obtain ⟨st, hst⟩ := Option.ne_none_iff_exists'.1 h
  have hstop : (s.alarmsJudged r).lmn.stop = some st :=
    ((State.Noted.alarmsJudged s r).keeps (·.lmn.stop) fun _ _ _ => rfl).trans hst
  unfold State.judgeLive
  dsimp only
  change (match (s.alarmsJudged r).lmn.stop with | none => _ | some _ => _) = _
  rw [hstop]
  rfl

theorem State.Ordered.judgeLive (s : State) (r : Result) : s.Ordered (s.judgeLive r) := by
  have hjudged := State.Ordered.of_noted (State.Noted.alarmsJudged s r)
  by_cases h : s.lmn.stop = none
  · rw [State.judgeLive_of_none h]
    split
    · exact hjudged.trans (State.Ordered.issueStop _ _ _)
    · exact hjudged
  · rw [State.judgeLive_of_some h]
    split
    · exact hjudged.trans (State.Ordered.resume _ _)
    · exact hjudged.trans (State.Ordered.retestBallast _ _)

/-- Issue and resume touch no condition but STOP_UNANSWERED. -/
theorem State.mem_held_judgeLive {s : State} {r : Result} {j : AlarmKey} (h : j.kind ≠ .stopUnanswered) :
    j ∈ (s.judgeLive r).als.held ↔ j ∈ (s.alarmsJudged r).als.held := by
  by_cases hstop : s.lmn.stop = none
  · rw [State.judgeLive_of_none hstop]
    split
    · rw [State.issueStop_als]
    · rfl
  · rw [State.judgeLive_of_some hstop]
    split
    · exact State.mem_held_resume h
    · rw [State.retestBallast_als]

/-! ### The measured draughts (R132) -/

theorem endDraught_eq_measured (s : State) (a b : Nat) : endDraught (s.tgt.chan a) (s.tgt.chan b) = s.measured a b := by
  have hvalue (ch : Nat) : (s.tgt.chan ch).value =
      (lookup s.tgt.chans ch).bind fun c => if c.state = .good then c.lastGood else none := by
    unfold Tgt.chan
    cases lookup s.tgt.chans ch <;> rfl
  unfold endDraught State.measured
  rw [hvalue a, hvalue b]
  dsimp only
  generalize (lookup s.tgt.chans a).bind _ = v
  generalize (lookup s.tgt.chans b).bind _ = w
  cases v <;> cases w <;> rfl

/-- A measured draught disagrees with a computed one by more than the tolerance (R142). -/
theorem disagrees_iff (measured : Option Int) (computed : Int) (tolerance : Nat) :
    disagrees measured computed tolerance = true ↔ ∃ m, measured = some m ∧ (tolerance : Int) < mag (m - computed) := by
  cases measured <;> simp [disagrees]

/-! ### The conditions after a live result (R46, R141, R142) -/

theorem State.mem_held_crossCheck_of_ne {s : State} {r : Result} {j : AlarmKey} (h : j.kind ≠ .draughtDisagree) :
    j ∈ (s.crossCheck r).als.held ↔ j ∈ s.als.held := by
  have hne (side : Subject) : j ≠ ⟨.draughtDisagree, side⟩ := fun hj => h (by rw [hj])
  exact (State.mem_held_judge_of_ne (hne _) _).trans (State.mem_held_judge_of_ne (hne _) _)

/-- Each condition of R141 is held after the judgement exactly when its figure shows it. -/
theorem State.mem_held_judgeLive_limit {s : State} (h : s.als.held.Nodup) {r : Result} {k : AlarmKey} {b : Bool}
    (hk : (k, b) ∈ limitChecks s.tables.limits s.settings.draughtLimit r)
    (hkind : k.kind ≠ .draughtDisagree ∧ k.kind ≠ .stopUnanswered) : k ∈ (s.judgeLive r).als.held ↔ b = true := by
  rw [State.mem_held_judgeLive hkind.2]
  refine (State.mem_held_crossCheck_of_ne hkind.1).trans ?_
  rw [State.limitAlarms_eq]
  exact State.mem_held_keepAll h (by rw [limitChecks_keys]; exact limitKeys_nodup) hk

/-- A condition that is neither a limit alarm nor the cross-check's is left by the judgement as it was. -/
theorem State.mem_held_judgeLive_other {s : State} {r : Result} {k : AlarmKey} (hk : k ∉ limitKeys)
    (hkind : k.kind ≠ .draughtDisagree ∧ k.kind ≠ .stopUnanswered) :
    k ∈ (s.judgeLive r).als.held ↔ k ∈ s.als.held := by
  rw [State.mem_held_judgeLive hkind.2]
  refine (State.mem_held_crossCheck_of_ne hkind.1).trans ?_
  rw [State.limitAlarms_eq]
  exact State.mem_held_keepAll_of_not_mem (by rwa [limitChecks_keys])

/-- DRAUGHT_DISAGREE of each end is held after the judgement exactly when the draughts differ (R142). -/
theorem State.mem_held_judgeLive_draught {s : State} (h : s.als.held.Nodup) (r : Result) :
    ((⟨.draughtDisagree, .aft⟩ : AlarmKey) ∈ (s.judgeLive r).als.held ↔
      disagrees (s.measured 32 33) r.ta s.settings.draughtTolerance = true) ∧
    ((⟨.draughtDisagree, .forward⟩ : AlarmKey) ∈ (s.judgeLive r).als.held ↔
      disagrees (s.measured 34 35) r.tf s.settings.draughtTolerance = true) := by
  have hlimits : s.Noted (s.limitAlarms r) := by
    rw [State.limitAlarms_eq]
    exact State.Noted.keepAll s _
  have hnodup : (s.limitAlarms r).als.held.Nodup := by
    rw [State.limitAlarms_eq]
    exact State.keepAll_held_nodup h _
  have hset : (s.limitAlarms r).settings = s.settings := hlimits.keeps State.settings fun _ _ _ => rfl
  have htgt : (s.limitAlarms r).tgt = s.tgt := hlimits.keeps State.tgt fun _ _ _ => rfl
  rw [← endDraught_eq_measured, ← endDraught_eq_measured]
  rw [State.mem_held_judgeLive (by simp), State.mem_held_judgeLive (by simp)]
  unfold State.alarmsJudged State.crossCheck
  rw [State.mem_held_judge_of_ne (by simp), State.mem_held_judge_self hnodup,
    State.mem_held_judge_self (State.judge_held_nodup hnodup _ _), htgt, hset]
  exact ⟨Iff.rfl, Iff.rfl⟩

/-! ### The mode entry of a start-up that evaluated (R41, R185) -/

/-- What neither the choice of a job, START_REPORT nor a gauge's timer changes is, after the mode entry, what `modeSet`
made it. -/
theorem State.modeEntry_keeps_of_takeJob {β : Type} (f : State → β) (s : State)
    (htake : ∀ s : State, f s.takeJob = f s) (hlink : ∀ (s : State) (m : OutMsg), f (s.offer .p m) = f s)
    (hgauges : ∀ (s : State) (g : List (Nat × TankGauge)), f { s with tgt.gauges := g } = f s) :
    f s.modeEntry = f s.modeSet := by
  have hentry : s.modeEntry = (s.modeHeld.offer .p (.startReport s.modeHeld.report)).takeJob := rfl
  rw [hentry, htake, hlink]
  exact State.foldl_holdIfHeld_keeps f hgauges _ _

theorem State.modeEntry_hds_eq (s : State) :
    s.modeEntry.hds = { s.hds with mode := s.hds.nextMode, stage := .entered } :=
  State.modeEntry_keeps_of_takeJob State.hds s State.takeJob_hds (fun _ _ => rfl) fun _ _ => rfl

theorem State.modeEntry_ct_eq (s : State) : s.modeEntry.ct = s.ct :=
  State.modeEntry_keeps_of_takeJob State.ct s State.takeJob_ct (fun _ _ => rfl) fun _ _ => rfl

theorem State.modeEntry_now_eq (s : State) : s.modeEntry.now = s.now :=
  State.modeEntry_keeps_of_takeJob State.now s State.takeJob_now (fun _ _ => rfl) fun _ _ => rfl

theorem State.modeEntry_settings_eq (s : State) : s.modeEntry.csv.settings = s.csv.settings :=
  State.modeEntry_keeps_of_takeJob (·.csv.settings) s State.takeJob_csv_settings (fun _ _ => rfl) fun _ _ => rfl

theorem State.modeEntry_gauges_eq (s : State) (a : Nat) : lookup s.modeEntry.tgt.gauges a =
    if a ∈ s.tables.tankAddrs ∧ s.isHeld a = true then
      (lookup s.tgt.gauges a).map fun g => { g with hold := some (s.now + s.settings.holdLimit * 1000) }
    else lookup s.tgt.gauges a := by
  have htgt : s.modeEntry.tgt = s.modeHeld.tgt := State.takeJob_tgt _
  rw [htgt]
  exact State.foldl_holdIfHeld_gauges (s := s.modeSet) s.hds.nextMode_ne_starting _ a

/-- Beside the sweep timer and the gauges' timers the gauging is as it was. -/
theorem State.modeEntry_tgt_eq (s : State) : s.modeEntry.tgt =
    { s.tgt with timer := some (s.now + s.settings.sweepPeriod * 100), gauges := s.modeEntry.tgt.gauges } := by
  have hkeep := State.modeEntry_keeps_of_takeJob (fun t => { t.tgt with gauges := [] }) s
    (fun t => by rw [State.takeJob_tgt]) (fun _ _ => rfl) fun _ _ => rfl
  obtain ⟨hsweep, hactive, htimer, hchans, hfirst, htransfers⟩ : _ ∧ _ ∧ _ ∧ _ ∧ _ ∧ _ := by simpa using hkeep
  cases ht : s.modeEntry.tgt
  simp_all [State.modeSet]

/-- A tank that is not in HELD keeps its gauge. -/
theorem State.modeEntry_gauge_of_not_held {s : State} {a : Nat} {live : TankLive} (hlive : s.tank a = some live)
    (hsource : live.source ≠ .held) : s.modeEntry.tgt.gauge a = s.tgt.gauge a := by
  unfold Tgt.gauge
  rw [State.modeEntry_gauges_eq, if_neg (by simp [State.isHeld, hlive, hsource])]

/-- The choice of a job does not disable the evaluator. -/
theorem State.takeJob_disabled_iff (s : State) : s.takeJob.sev.state = .disabled ↔ s.sev.state = .disabled := by
  rcases s.takeJob_cases with h | ⟨-, hidle, h | ⟨c, rest, -, h⟩ | h⟩ <;> rw [h]
  · simp [State.takeLive, hidle]
  · simp [State.takePermit, hidle]
  · simp [State.takeTrial, hidle]

theorem State.modeEntry_disabled_iff (s : State) : s.modeEntry.sev.state = .disabled ↔ s.sev.state = .disabled := by
  have hkeep := State.modeEntry_keeps_of_takeJob (fun t => t.sev.state = .disabled) s
    (fun t => propext t.takeJob_disabled_iff) (fun _ _ => rfl) fun _ _ => rfl
  exact iff_of_eq hkeep

/-- START_REPORT is placed as the mode entry's newest message of port P (R187). -/
theorem State.modeEntry_report_newest (s : State) :
    (s.modeEntry.link .p).newest = some (.startReport s.modeEntry.report) ∨
      8 ≤ (s.modeEntry.link .p).queue.length + (s.modeEntry.link .p).reserved := by
  have hreport : s.modeEntry.report = s.modeHeld.report := by
    have hheld : s.modeHeld.sev = s.sev := State.foldl_holdIfHeld_keeps State.sev (fun _ _ => rfl) _ s.modeSet
    have husable : decide (s.modeEntry.sev.state ≠ .disabled) = decide (s.modeHeld.sev.state ≠ .disabled) := by
      rw [hheld, decide_eq_decide, not_iff_not]
      exact s.modeEntry_disabled_iff
    have hhds : s.modeEntry.hds = s.modeHeld.hds := State.takeJob_hds _
    have hct : s.modeEntry.ct = s.modeHeld.ct := State.takeJob_ct _
    unfold State.report
    rw [husable, hhds, hct]
  have hlink : s.modeEntry.link .p = (s.modeHeld.link .p).offer (.startReport s.modeHeld.report) :=
    State.takeJob_link _ .p
  rw [hreport, hlink]
  exact Link.newest_offer _ _

/-- A tank in HELD has its hold timer started at the mode entry (R130). -/
theorem State.modeEntry_holdStarted {s : State} {a : Nat} {d : TankDef} {live : TankLive}
    (hd : s.tables.tank a = some d) (hlive : s.tank a = some live) (hheld : live.source = .held)
    (hsome : (lookup s.modeEntry.tgt.gauges a).isSome = true) :
    (s.modeEntry.tgt.gauge a).hold = some (s.now + s.settings.holdLimit * 1000) := by
  have hcond : a ∈ s.tables.tankAddrs ∧ s.isHeld a = true :=
    ⟨Tables.mem_tankAddrs hd, by simp [State.isHeld, hlive, hheld]⟩
  unfold Tgt.gauge
  rw [State.modeEntry_gauges_eq, if_pos hcond] at hsome ⊢
  cases hg : lookup s.tgt.gauges a with
  | none => simp [hg] at hsome
  | some g => rfl

/-- The mode entry, whatever the evaluator's state is (R41, R185). -/
theorem State.modeEntry_enters (s : State) : s.modeEntry.entersMode s.hds.verdicts s.elapsed := by
  have hhds := s.modeEntry_hds_eq
  have hnow := s.modeEntry_now_eq
  have hset : s.modeEntry.settings = s.settings := s.modeEntry_settings_eq
  refine ⟨by rw [hhds], by rw [hhds], by rw [hhds]; rfl, ?_, ?_, ?_, ?_⟩
  · rw [hnow]
    exact State.modeEntry_keeps_of_takeJob State.elapsed s State.takeJob_elapsed (fun _ _ => rfl) fun _ _ => rfl
  · rw [State.modeEntry_tgt_eq, hnow, hset]
  · intro a d live hd hlive hheld hsome
    rw [hnow, hset]
    rw [State.modeEntry_ct_eq] at hlive
    have htables : s.modeEntry.tables = s.tables := by rw [State.tables, hhds]; rfl
    exact State.modeEntry_holdStarted (htables ▸ hd) hlive hheld hsome
  · have hverdicts : s.hds.verdicts = s.modeEntry.hds.verdicts := by rw [hhds]
    rw [hverdicts]
    exact s.modeEntry_report_newest

/-! ### LIVE_JOB_COMPLETE (R46, R185) -/

/-- A live result and HYDRO_RANGE, before the judgement (R46). -/
def State.liveHeld (s : State) (r : Result) : State :=
  { s with sev.live := some r }.judge ⟨.hydroRange, .none⟩ (r.flags.hydroLow || r.flags.hydroHigh)

theorem State.installLive_eq (s : State) (r : Result) : s.installLive r = (s.liveHeld r).judgeLive r := rfl

theorem State.Noted.liveHeld (s : State) (r : Result) : State.Noted { s with sev.live := some r } (s.liveHeld r) :=
  State.Noted.judge _ _ _

/-- What neither the live result, the alarm list nor port P's link is read for is as before. -/
theorem State.liveHeld_keeps {β : Type} (f : State → β)
    (hf : ∀ (s : State) (l : Link) (a : Als), f { s.setLink .p l with als := a } = f s) (s : State) (r : Result)
    (hlive : f { s with sev.live := some r } = f s) : f (s.liveHeld r) = f s :=
  ((State.Noted.liveHeld s r).keeps f hf).trans hlive

theorem State.liveHeld_held_nodup {s : State} (h : s.als.held.Nodup) (r : Result) : (s.liveHeld r).als.held.Nodup :=
  State.judge_held_nodup (s := { s with sev.live := some r }) h _ _

theorem State.Ordered.installLive (s : State) (r : Result) :
    State.Ordered { s with sev.live := some r } (s.installLive r) :=
  (State.Ordered.of_noted (State.Noted.liveHeld s r)).trans (State.Ordered.judgeLive _ r)

/-- The alarms that a live result brings in line (R46, R141, R142). -/
theorem State.installLive_alarms {s : State} (h : s.als.held.Nodup) (r : Result) :
    (∀ k b, (k, b) ∈ limitChecks s.tables.limits s.settings.draughtLimit r → k.kind ≠ .draughtDisagree →
      k.kind ≠ .stopUnanswered → (k ∈ (s.installLive r).als.held ↔ b = true)) ∧
    ((⟨.hydroRange, .none⟩ : AlarmKey) ∈ (s.installLive r).als.held ↔
      r.flags.hydroLow = true ∨ r.flags.hydroHigh = true) ∧
    ((⟨.draughtDisagree, .aft⟩ : AlarmKey) ∈ (s.installLive r).als.held ↔
      disagrees (s.measured 32 33) r.ta s.settings.draughtTolerance = true) ∧
    ((⟨.draughtDisagree, .forward⟩ : AlarmKey) ∈ (s.installLive r).als.held ↔
      disagrees (s.measured 34 35) r.tf s.settings.draughtTolerance = true) := by
  have hnodup := State.liveHeld_held_nodup h r
  have htables := s.liveHeld_keeps State.tables (fun _ _ _ => rfl) r rfl
  have hset := s.liveHeld_keeps State.settings (fun _ _ _ => rfl) r rfl
  have hmeasured (a b : Nat) : (s.liveHeld r).measured a b = s.measured a b :=
    s.liveHeld_keeps (State.measured · a b) (fun _ _ _ => rfl) r rfl
  obtain ⟨haft, hforward⟩ := State.mem_held_judgeLive_draught hnodup r
  rw [hmeasured, hset] at haft hforward
  refine ⟨fun k b hk hdraught hstop => ?_, ?_, haft, hforward⟩
  · exact State.mem_held_judgeLive_limit hnodup (by rwa [htables, hset]) ⟨hdraught, hstop⟩
  · rw [State.installLive_eq, State.mem_held_judgeLive_other (by decide) (by simp), State.liveHeld,
      State.mem_held_judge_self (s := { s with sev.live := some r }) h, Bool.or_eq_true]

/-- The stop after a live result: issued with its first criterion, lifted, or as it was (R140, R143, R149). -/
theorem State.installLive_stop (s : State) (r : Result) :
    (s.installLive r).lmn.stop = match s.lmn.stop with
      | none => (criteria.find? (meets s.tables.limits s.settings.draughtLimit r)).map fun c => (c, r.serial)
      | some st => if liftable s.tables.limits s.settings.draughtLimit r then none else some st := by
  have htables := s.liveHeld_keeps State.tables (fun _ _ _ => rfl) r rfl
  have hset := s.liveHeld_keeps State.settings (fun _ _ _ => rfl) r rfl
  have hheld := s.liveHeld_keeps (·.lmn.stop) (fun _ _ _ => rfl) r rfl
  have hjudged : ((s.liveHeld r).alarmsJudged r).lmn.stop = s.lmn.stop :=
    ((State.Noted.alarmsJudged _ r).keeps (·.lmn.stop) fun _ _ _ => rfl).trans hheld
  rw [State.installLive_eq]
  cases hstop : s.lmn.stop with
  | none =>
    rw [State.judgeLive_of_none (hheld.trans hstop), htables, hset]
    cases criteria.find? (meets s.tables.limits s.settings.draughtLimit r) with
    | none => exact hjudged.trans hstop
    | some c => exact State.issueStop_stop _ r c
  | some st =>
    rw [State.judgeLive_of_some (by rw [hheld, hstop]; simp), htables, hset]
    dsimp only
    split
    · rfl
    · exact (State.retestBallast_stop _ r).trans (hjudged.trans hstop)

/-- What neither a job's end, the choice of the next, nor a mode entry changes. -/
theorem State.afterLive_keeps {β : Type} (f : State → β) (s : State)
    (htake : ∀ s : State, f s.takeJob = f s) (hlink : ∀ (s : State) (m : OutMsg), f (s.offer .p m) = f s)
    (hgauges : ∀ (s : State) (g : List (Nat × TankGauge)), f { s with tgt.gauges := g } = f s)
    (hmode : f s.modeSet = f s) : f s.afterLive = f s := by
  unfold State.afterLive
  split
  · exact (s.modeEntry_keeps_of_takeJob f htake hlink hgauges).trans hmode
  · exact htake s

/-- What no live result's installation changes is as it was before the job ended. -/
theorem State.liveDone_keeps {β : Type} (f : State → β)
    (hf : ∀ (s : State) (sli : Sli) (als : Als) (lmn : Lmn) (recs : PerCrane LiftRec) (queue : List Crane)
      (inHand : Option (Crane × Bool)),
      f { s with
        sli := sli
        als := als
        lmn := lmn
        lcu := { s.lcu with recs := recs, queue := queue, inHand := inHand } } = f s)
    (hsev : ∀ (s : State) (e : Sev), f { s with sev := e } = f s) (s : State) (r : Result) :
    f ((s.installLive r).jobDone .live) = f s :=
  (hsev _ _).trans (((State.Ordered.installLive s r).keeps f hf).trans (hsev s _))

theorem Sev.running_of_busy {e : Sev} {img : Image} {k : JobKind} (h : e.state = .busy img) (hk : img.kind = k) :
    e.running k = some img := by simp [Sev.running, h, hk]

/-- LIVE_JOB_COMPLETE installs the result of its image (R46). -/
theorem execLiveJobComplete_eq {s : State} {img : Image} {r : Result} (hbusy : s.sev.state = .busy img)
    (hkind : img.kind = .live) (hr : passOver s.tables img 0 img.table.scene = some r) :
    exec .liveJobComplete s = .next ((s.installLive r).jobDone .live).afterLive := by
  have hresult : liveResult s.tables img = some r := hr
  show execLiveJobComplete s = _
  unfold execLiveJobComplete
  rw [Sev.running_of_busy hbusy hkind]
  dsimp only
  rw [hresult]

/-- Settles O56: the result installed, its alarms and stop judged, and the mode entry at the end of a start-up. -/
theorem liveResultIsInstalledAndJudged : Obligations.LiveResultIsInstalledAndJudged := by
  intro s img r hnodup hbusy hkind hr
  dsimp only
  have hexec := execLiveJobComplete_eq hbusy hkind hr
  have hordered := State.Ordered.installLive s r
  obtain ⟨hlimit, hhydro, haft, hforward⟩ := State.installLive_alarms hnodup r
  have hstop := s.installLive_stop r
  generalize hw : (s.installLive r).jobDone .live = w at hexec
  have hwals : w.als = (s.installLive r).als := by rw [← hw]; rfl
  have hwstop : w.lmn.stop = (s.installLive r).lmn.stop := by rw [← hw]; rfl
  have hals : w.afterLive.als = (s.installLive r).als :=
    (w.afterLive_keeps State.als State.takeJob_als (fun _ _ => rfl) (fun _ _ => rfl) rfl).trans hwals
  have hlmn : w.afterLive.lmn.stop = (s.installLive r).lmn.stop :=
    (w.afterLive_keeps (·.lmn.stop) (fun t => by rw [State.takeJob_lmn]) (fun _ _ => rfl) (fun _ _ => rfl) rfl).trans
      hwstop
  have hlive : w.sev.live = some r := by
    rw [← hw]
    exact hordered.keeps (·.sev.live) fun _ _ _ _ _ _ _ => rfl
  have hdone : w.sev.last = some .live := by rw [← hw]; rfl
  have hhds : w.hds = s.hds := hw ▸ s.liveDone_keeps State.hds (fun _ _ _ _ _ _ _ => rfl) (fun _ _ => rfl) r
  have htgt : w.tgt = s.tgt := hw ▸ s.liveDone_keeps State.tgt (fun _ _ _ _ _ _ _ => rfl) (fun _ _ => rfl) r
  have hct : w.ct = s.ct := hw ▸ s.liveDone_keeps State.ct (fun _ _ _ _ _ _ _ => rfl) (fun _ _ => rfl) r
  have hset : w.csv.settings = s.csv.settings :=
    hw ▸ s.liveDone_keeps (·.csv.settings) (fun _ _ _ _ _ _ _ => rfl) (fun _ _ => rfl) r
  have hhooks : w.lcu.hooks = s.lcu.hooks :=
    hw ▸ s.liveDone_keeps (·.lcu.hooks) (fun _ _ _ _ _ _ _ => rfl) (fun _ _ => rfl) r
  have hnow : w.now = s.now := hw ▸ s.liveDone_keeps State.now (fun _ _ _ _ _ _ _ => rfl) (fun _ _ => rfl) r
  have helapsed : w.elapsed = s.elapsed :=
    hw ▸ s.liveDone_keeps State.elapsed (fun _ _ _ _ _ _ _ => rfl) (fun _ _ => rfl) r
  have hphase : w.phase = s.phase := hw ▸ s.liveDone_keeps State.phase (fun _ _ _ _ _ _ _ => rfl) (fun _ _ => rfl) r
  refine ⟨w.afterLive, hexec, ?_, ?_, ?_, ?_, ?_, ?_, ?_, ?_, ?_, ?_, ?_, ?_, ?_, ?_, ?_, ?_, ?_, ?_, ?_, ?_⟩
  · exact (w.afterLive_keeps (·.sev.live) State.takeJob_sev_live (fun _ _ => rfl) (fun _ _ => rfl) rfl).trans hlive
  · exact (w.afterLive_keeps (·.sev.last) State.takeJob_sev_last (fun _ _ => rfl) (fun _ _ => rfl) rfl).trans hdone
  · rw [hals, hhydro]
  · rw [hals, hlimit _ (meets s.tables.limits s.settings.draughtLimit r .heel) (by simp [limitChecks]) (by simp)
      (by simp), meets_heel_iff]
  · rw [hals, hlimit _ (meets s.tables.limits s.settings.draughtLimit r .gm) (by simp [limitChecks]) (by simp)
      (by simp), meets_gm_iff]
  · rw [hals, hlimit _ (meets s.tables.limits s.settings.draughtLimit r .draught) (by simp [limitChecks]) (by simp)
      (by simp)]
    exact draughtAbove_iff _ r
  · rw [hals, hlimit _ r.flags.gmNegative (by simp [limitChecks]) (by simp) (by simp)]
  · intro k hk1 hk19
    have hk := mem_alarmStations.2 ⟨hk1, hk19⟩
    rw [hals, hlimit ⟨.shearLimit, .station k⟩ (decide (1000 < nth r.strength.sfPm k))
        (by simp [limitChecks, stationChecks, hk]) (by simp) (by simp),
      hlimit ⟨.bendingLimit, .station k⟩ (decide (1000 < nth r.strength.bmPm k))
        (by simp [limitChecks, stationChecks, hk]) (by simp) (by simp)]
    simp
  · rw [hals, haft, disagrees_iff]
  · rw [hals, hforward, disagrees_iff]
  · intro hnone
    rw [hlmn, hstop, hnone]
    refine ⟨?_, ?_⟩
    · rw [Option.isSome_map, find_criteria_isSome, meets_heel_iff, meets_gm_iff, ← draughtAbove_iff, ← anyBreach_iff,
        ← anyBreach_iff]
      rfl
    · intro c n hcn
      obtain ⟨c', -, hc'⟩ := Option.map_eq_some_iff.1 hcn
      exact (Prod.ext_iff.1 hc').2.symm
  · intro hsome
    obtain ⟨st, hst⟩ := Option.ne_none_iff_exists'.1 hsome
    rw [hlmn, hstop, hst]
    dsimp only
    rw [← draughtAbove_iff, ← anyBreach_iff, ← anyBreach_iff, ← liftable_iff]
    exact ⟨fun h => if_pos h, fun h => if_neg h⟩
  · intro hmode
    have htake : w.afterLive = w.takeJob := if_neg (by rwa [hhds])
    rw [htake, State.takeJob_hds, State.takeJob_tgt, hhds, htgt]
    exact ⟨rfl, rfl⟩
  · intro hmode
    have hentry : w.afterLive = w.modeEntry := if_pos (by rw [hhds]; exact hmode)
    rw [hentry]
    refine ⟨?_, ?_, ?_, ?_⟩
    · rw [State.modeEntry_hds_eq, hhds]
      rfl
    · have henters := w.modeEntry_enters
      rwa [hhds, helapsed] at henters
    · have htimer := w.modeEntry_tgt_eq
      rw [htgt] at htimer
      rw [htimer]
    · intro a live hlookup hsource
      rw [← htgt]
      rw [← hct] at hlookup
      exact State.modeEntry_gauge_of_not_held hlookup hsource
  · exact (w.afterLive_keeps State.ct State.takeJob_ct (fun _ _ => rfl) (fun _ _ => rfl) rfl).trans hct
  · exact (w.afterLive_keeps (·.csv.settings) State.takeJob_csv_settings (fun _ _ => rfl) (fun _ _ => rfl)
      rfl).trans hset
  · exact (w.afterLive_keeps (·.lcu.hooks) State.takeJob_lcu_hooks (fun _ _ => rfl) (fun _ _ => rfl) rfl).trans hhooks
  · exact (w.afterLive_keeps (·.tgt.transfers) (fun t => by rw [State.takeJob_tgt]) (fun _ _ => rfl) (fun _ _ => rfl)
      rfl).trans (by rw [htgt])
  · exact (w.afterLive_keeps State.now State.takeJob_now (fun _ _ => rfl) (fun _ _ => rfl) rfl).trans hnow
  · exact (w.afterLive_keeps State.phase State.takeJob_phase (fun _ _ => rfl) (fun _ _ => rfl) rfl).trans hphase

end Sys2Proof.Machine
end

section
/-!
TRIAL and TEST jobs (R47, R48, R56, R57, R186): what a trial change makes of an image, the first inconsistent change of
a list, the verdict on a test condition, and what the end of each job does.
-/

namespace Sys2Proof.Machine

set_option Elab.async false

/-! ### One trial change (R56) -/

theorem Box.holds_iff (b : Box) (q : Pos) : b.holds q = true ↔ b.contains q := by
  simp [Box.holds, Box.contains, within, and_assoc]

/-- A lot number that an image holds by stow list, filing list or hook (R56). -/
theorem Scene.holdsLot_iff (sc : Scene) (recs : PerCrane LiftRec) (n : Nat) :
    sc.holdsLot recs n = true ↔ sc.names recs n := by
  have hhook (c : Crane) : (match recs.get c with
      | .hooked l => l.lot == n
      | _ => false) = true ↔ (recs.get c).hookedLot = some n := by
    cases recs.get c <;> simp [LiftRec.hookedLot]
  unfold Scene.holdsLot Scene.names
  rw [Bool.or_eq_true, Bool.or_eq_true, or_assoc]
  refine or_congr (by simp) (or_congr (by simp) (List.any_eq_true.trans ⟨?_, ?_⟩))
  · rintro ⟨c, -, hc⟩
    exact ⟨c, (hhook c).1 hc⟩
  · rintro ⟨c, hc⟩
    exact ⟨c, mem_cranes c, (hhook c).2 hc⟩

/-- A lot number stands in a stow list of an image. -/
theorem any_num_iff (lots : List Lot) (n : Nat) : (lots.any fun l => l.num == n) = true ↔ ∃ l ∈ lots, l.num = n := by
  simp

section
variable (sc : Scene) (t : Tables) (recs : PerCrane LiftRec)

/-- A lot is added unless its number is held already or its position lies outside its space (R56). -/
theorem Scene.change_addLot (n a : Nat) (w : Int) (q : Pos) :
    ((¬ sc.names recs n ∧ ∃ box most, t.cargo a = some (box, most) ∧ box.contains q) →
      sc.change t recs (.addLot n a w q) = some { sc with lots := sc.lots ++ [⟨n, w, q, a, .console, 0⟩] }) ∧
    (¬ (¬ sc.names recs n ∧ ∃ box most, t.cargo a = some (box, most) ∧ box.contains q) →
      sc.change t recs (.addLot n a w q) = none) := by
  unfold Scene.change
  dsimp only
  cases hcargo : t.cargo a with
  | none => simp
  | some e =>
    obtain ⟨box, most⟩ := e
    rw [← Scene.holdsLot_iff]
    simp only [Option.some.injEq, Prod.mk.injEq, exists_and_left, exists_eq_left', and_assoc, ← Box.holds_iff]
    cases sc.holdsLot recs n <;> cases box.holds q <;> simp

/-- A lot is removed when it is stowed (R56). -/
theorem Scene.change_removeLot (n : Nat) :
    ((∃ l ∈ sc.lots, l.num = n) →
      sc.change t recs (.removeLot n) = some { sc with lots := sc.lots.eraseP fun l => l.num == n }) ∧
    ((¬ ∃ l ∈ sc.lots, l.num = n) → sc.change t recs (.removeLot n) = none) := by
  rw [← any_num_iff]
  exact ⟨fun h => if_pos h, fun h => if_neg h⟩

/-- A stowed lot is shifted to a position inside a space (R56). -/
theorem Scene.change_shiftLot (n a : Nat) (q : Pos) :
    (((∃ l ∈ sc.lots, l.num = n) ∧ ∃ box most, t.cargo a = some (box, most) ∧ box.contains q) →
      sc.change t recs (.shiftLot n a q) =
        some { sc with lots := sc.lots.map fun l => if l.num = n then { l with loc := a, pos := q } else l }) ∧
    (¬ ((∃ l ∈ sc.lots, l.num = n) ∧ ∃ box most, t.cargo a = some (box, most) ∧ box.contains q) →
      sc.change t recs (.shiftLot n a q) = none) := by
  unfold Scene.change
  dsimp only
  cases hcargo : t.cargo a with
  | none => simp
  | some e =>
    obtain ⟨box, most⟩ := e
    rw [← any_num_iff]
    simp only [Option.some.injEq, Prod.mk.injEq, exists_and_left, exists_eq_left', and_assoc, ← Box.holds_iff]
    cases (sc.lots.any fun l => l.num == n) <;> cases box.holds q <;> simp

/-- A tank is set to a sounding within its depth, as a manual one (R24, R56). -/
theorem Scene.change_setSounding {a : Nat} {d : TankDef} (hd : t.tank a = some d) (hdepth : 0 ≤ d.depth) (v : Int) :
    sc.change t recs (.setSounding a v) = some { sc with
      tanks := adjust sc.tanks a fun e => ⟨max 0 (min d.depth v), .manual, e.density,
        (d.values (max 0 (min d.depth v))).volume, (d.values (max 0 (min d.depth v))).liqZ,
        (d.values (max 0 (min d.depth v))).inertia,
        rdiv ((d.values (max 0 (min d.depth v))).volume * e.density) 100000, e.inTransfer⟩ } := by
  unfold Scene.change
  dsimp only
  simp only [hd, TankLive.derive_eq, clamp_eq_max_min hdepth, ne_eq, reduceCtorEq, not_false_eq_true, if_true]

/-- A constant is set to a weight at a position inside its box (R56). -/
theorem Scene.change_setConst (slot : Nat) (w : Int) (q : Pos) :
    ((∃ box d, t.const (112 + slot) = some (box, d) ∧ box.contains q) →
      sc.change t recs (.setConst slot w q) =
        some { sc with consts := adjust sc.consts (112 + slot) fun _ => ⟨w, q⟩ }) ∧
    ((¬ ∃ box d, t.const (112 + slot) = some (box, d) ∧ box.contains q) →
      sc.change t recs (.setConst slot w q) = none) := by
  unfold Scene.change
  dsimp only
  cases hconst : t.const (112 + slot) with
  | none => simp
  | some e =>
    obtain ⟨box, d⟩ := e
    simp only [Option.some.injEq, Prod.mk.injEq, exists_and_left, exists_eq_left', and_assoc, ← Box.holds_iff]
    cases box.holds q <;> simp

/-- A load is hung at a point that its crane reaches, the structure placed to match (R56). -/
theorem Scene.change_hang (c : Crane) (w : Int) (q : Pt) (h : Int) :
    ((∃ d, t.crane c = some d ∧
        (q.x - d.px) * (q.x - d.px) + (q.y - d.py) * (q.y - d.py) ≤ d.outreach * d.outreach) →
      sc.change t recs (.hang c w q h) = some { sc with
        hung := sc.hung ++ [⟨w, ⟨q.x, q.y, h⟩, .point⟩], place := sc.place.set c (some q) }) ∧
    ((¬ ∃ d, t.crane c = some d ∧
        (q.x - d.px) * (q.x - d.px) + (q.y - d.py) * (q.y - d.py) ≤ d.outreach * d.outreach) →
      sc.change t recs (.hang c w q h) = none) := by
  unfold Scene.change
  dsimp only
  cases hcrane : t.crane c with
  | none => simp
  | some d =>
    have hreach : d.reaches q = true ↔
        (q.x - d.px) * (q.x - d.px) + (q.y - d.py) * (q.y - d.py) ≤ d.outreach * d.outreach := by
      unfold CraneDef.reaches CraneDef.distSq
      exact decide_eq_true_iff
    simp only [Option.some.injEq, exists_eq_left', ← hreach]
    exact ⟨fun h => if_pos h, fun h => if_neg h⟩

end

/-! ### A trial list (R56) -/

/-- A list is applied in order, change by change. -/
theorem Scene.changes_eq_ok_iff (t : Tables) (recs : PerCrane LiftRec) (list : List TrialChange) (sc : Scene)
    (index : Nat) (after : Scene) : Scene.changes t recs sc index list = .ok after ↔
      list.foldlM (fun (x : Scene) ch => x.change t recs ch) sc = some after := by
  induction list generalizing sc index with
  | nil => simp [Scene.changes]
  | cons ch rest ih =>
    rw [Scene.changes, List.foldlM_cons]
    cases sc.change t recs ch with
    | none => simp
    | some next => exact ih next (index + 1)

/-- The index that an inconsistent list gives is that of the first change that is not applied. -/
theorem Scene.changes_error {t : Tables} {recs : PerCrane LiftRec} {list : List TrialChange} {sc : Scene}
    {index i : Nat} (h : Scene.changes t recs sc index list = .error i) :
    index ≤ i ∧ ∃ before ch,
      (list.take (i - index)).foldlM (fun (x : Scene) ch => x.change t recs ch) sc = some before ∧
      list[i - index]? = some ch ∧ before.change t recs ch = none := by
  induction list generalizing sc index with
  | nil => simp [Scene.changes] at h
  | cons ch rest ih =>
    rw [Scene.changes] at h
    cases hch : sc.change t recs ch with
    | none =>
      rw [hch] at h
      obtain rfl : index = i := by simpa using h
      exact ⟨le_rfl, sc, ch, by simp, by simp, hch⟩
    | some next =>
      rw [hch] at h
      obtain ⟨hle, before, last, happly, hlast, hnone⟩ := ih h
      have hpos : i - index = (i - (index + 1)) + 1 := by omega
      refine ⟨by omega, before, last, ?_, ?_, hnone⟩
      · rw [hpos, List.take_succ_cons, List.foldlM_cons, hch]
        exact happly
      · rw [hpos, List.getElem?_cons_succ]
        exact hlast

/-! ### The verdict on a test condition (R186) -/

theorem mag_sub_le_zero (a b : Int) : mag (a - b) ≤ 0 ↔ a = b := by
  unfold mag
  split <;> omega

/-- The ten figures by number: which of them lie outside their tolerance. -/
theorem Expected.figure_false_iff (e : Expected) (r : Result) (n : Nat) :
    (1 ≤ n ∧ (e.figures r)[n - 1]? = some false) ↔
      (n = 1 ∧ e.disp ≠ r.disp) ∨ (n = 2 ∧ ¬ mag (e.kg - r.kg) ≤ 2) ∨ (n = 3 ∧ ¬ mag (e.gmf - r.gmf) ≤ 2) ∨
      (n = 4 ∧ ¬ mag (e.trim - r.trim) ≤ 2) ∨ (n = 5 ∧ ¬ mag (e.ta - r.ta) ≤ 2) ∨ (n = 6 ∧ ¬ mag (e.tf - r.tf) ≤ 2) ∨
      (n = 7 ∧ ¬ mag (e.sfPm - r.strength.worstSfPm) ≤ 2) ∨ (n = 8 ∧ ¬ mag (e.bmPm - r.strength.worstBmPm) ≤ 2) ∨
      (n = 9 ∧ e.sfStation ≠ r.strength.worstSf) ∨ (n = 10 ∧ e.bmStation ≠ r.strength.worstBm) := by
  by_cases hn : 1 ≤ n ∧ n ≤ 10
  · obtain ⟨hn1, hn10⟩ := hn
    interval_cases n <;> simp [Expected.figures, close, mag_sub_le_zero]
  · have hnone : ¬ (1 ≤ n ∧ (e.figures r)[n - 1]? = some false) := by
      rintro ⟨h1, h⟩
      have hlen : n - 1 < 10 := (List.getElem?_eq_some_iff.1 h).1
      omega
    refine iff_of_false hnone ?_
    omega

/-- A condition passes when every figure lies within its tolerance. -/
theorem Expected.figures_all_iff (e : Expected) (r : Result) : (∀ b ∈ e.figures r, b = true) ↔
    e.disp = r.disp ∧ mag (e.kg - r.kg) ≤ 2 ∧ mag (e.gmf - r.gmf) ≤ 2 ∧ mag (e.trim - r.trim) ≤ 2 ∧
      mag (e.ta - r.ta) ≤ 2 ∧ mag (e.tf - r.tf) ≤ 2 ∧ mag (e.sfPm - r.strength.worstSfPm) ≤ 2 ∧
      mag (e.bmPm - r.strength.worstBmPm) ≤ 2 ∧ e.sfStation = r.strength.worstSf ∧
      e.bmStation = r.strength.worstBm := by
  simp [Expected.figures, close, mag_sub_le_zero]

theorem Expected.verdict_eq_pass_iff (e : Expected) (r : Result) :
    e.verdict r = .pass ↔ ∀ b ∈ e.figures r, b = true := by
  unfold Expected.verdict
  cases h : (e.figures r).findIdx? fun b => !b with
  | none => simpa using h
  | some i =>
    refine iff_of_false (by simp) fun hall => ?_
    have hnone : ((e.figures r).findIdx? fun b => !b) = none := by simpa using hall
    rw [hnone] at h
    cases h

theorem Expected.verdict_ne_notRun (e : Expected) (r : Result) : e.verdict r ≠ .notRun := by
  unfold Expected.verdict
  split <;> nofun

/-- A failure names the first figure outside its tolerance, counted from 1. -/
theorem Expected.verdict_fail {e : Expected} {r : Result} {n : Nat} (h : e.verdict r = .fail n) :
    (1 ≤ n ∧ (e.figures r)[n - 1]? = some false) ∧
      ∀ m, m < n → ¬ (1 ≤ m ∧ (e.figures r)[m - 1]? = some false) := by
  unfold Expected.verdict at h
  split at h
  next i hi =>
    obtain rfl : i + 1 = n := by simpa using h
    obtain ⟨hlt, hfirst, hbefore⟩ := List.findIdx?_eq_some_iff_getElem.1 hi
    refine ⟨⟨by omega, ?_⟩, fun m hm hfalse => ?_⟩
    · rw [Nat.add_sub_cancel, List.getElem?_eq_getElem hlt]
      simpa using hfirst
    · obtain ⟨hm1, hget⟩ := hfalse
      obtain ⟨hmlt, hgetElem⟩ := List.getElem?_eq_some_iff.1 hget
      exact hbefore (m - 1) (by omega) (by simp [hgetElem])
  next => cases h

/-! ### The end of a TEST job (R48, R180, R186) -/

/-- A verdict recorded changes the verdicts, the mark of a failure, and the alarm list alone. -/
theorem State.recordVerdict_keeps {β : Type} (f : State → β)
    (hhds : ∀ (s : State) (v : List Verdict) (b : Bool), f { s with hds.verdicts := v, hds.testFail := b } = f s)
    (halarm : ∀ (s : State) (l : Link) (a : Als), f { s.setLink .p l with als := a } = f s) (s : State) (v : Verdict) :
    f (s.recordVerdict v) = f s := by
  cases v with
  | pass | notRun => exact hhds s _ s.hds.testFail
  | fail n => exact ((State.Noted.raise _ _).keeps f halarm).trans (hhds s _ true)

theorem State.recordVerdict_hds (s : State) (v : Verdict) (hv : v ≠ .notRun) : (s.recordVerdict v).hds =
    { s.hds with verdicts := s.hds.verdicts ++ [v], testFail := s.hds.testFail || decide (v ≠ .pass) } := by
  cases v with
  | pass => simp [State.recordVerdict]
  | fail n =>
    rw [Bool.or_eq_true_iff.2 (.inr (by simp))]
    exact (State.Noted.raise _ _).keeps State.hds fun _ _ _ => rfl
  | notRun => exact absurd rfl hv

/-- A failed condition raises TEST_CONDITION_FAIL; a passed one leaves the alarms as they are (R186). -/
theorem State.recordVerdict_als (s : State) (v : Verdict) (hv : v ≠ .notRun) :
    (v ≠ .pass → (⟨.testConditionFail, .none⟩ : AlarmKey) ∈ (s.recordVerdict v).als.held) ∧
      (v = .pass → (s.recordVerdict v).als = s.als) := by
  cases v with
  | pass => exact ⟨fun h => absurd rfl h, fun _ => rfl⟩
  | fail n => exact ⟨fun _ => (State.mem_held_raise _ _ _).2 (.inr rfl), nofun⟩
  | notRun => exact absurd rfl hv

/-- TEST_JOB_COMPLETE records the verdict on its condition and hands over the next (R48, R186). -/
theorem execTestJobComplete_eq {s : State} {img : Image} {tc : TestCondition} {r : Result}
    (hbusy : s.sev.state = .busy img) (hkind : img.kind = .test) (htest : img.test = some tc)
    (hr : testPass s.tables img tc = some r) :
    exec .testJobComplete s = .next (State.nextTest s.hds.stage.todo
      ((s.recordVerdict (tc.expected.verdict r)).jobDone .test)) := by
  have hstage : (s.recordVerdict (tc.expected.verdict r)).hds.stage = s.hds.stage :=
    State.recordVerdict_keeps (·.hds.stage) (fun _ _ _ => rfl) (fun _ _ _ => rfl) s _
  show execTestJobComplete s = _
  unfold execTestJobComplete
  rw [Sev.running_of_busy hbusy hkind]
  dsimp only
  rw [htest]
  dsimp only
  rw [hr]
  dsimp only
  rw [hstage]

/-! ### The end of a TRIAL job (R47, R160, R170) -/

/-- TRIAL_JOB_COMPLETE keeps its outcome and sends it (R47, R160, R170). -/
theorem execTrialJobComplete_eq {s : State} {img : Image} (hbusy : s.sev.state = .busy img)
    (hkind : img.kind = .trial) : exec .trialJobComplete s = .next ((s.trialDone img).jobDone .trial).takeJob := by
  show execTrialJobComplete s = _
  unfold execTrialJobComplete
  rw [Sev.running_of_busy hbusy hkind]

theorem trialOutcome_of_ok {t : Tables} {img : Image} {sc : Scene} {r : Result}
    (h : Scene.changes t img.recs img.reserved 1 img.trial = .ok sc) (hr : passOver t img 0 sc = some r) :
    trialOutcome t img = .result r := by
  unfold trialOutcome
  rw [h]
  dsimp only
  rw [hr]

theorem trialOutcome_of_error {t : Tables} {img : Image} {i : Nat}
    (h : Scene.changes t img.recs img.reserved 1 img.trial = .error i) :
    trialOutcome t img = .invalid i img.serial := by
  unfold trialOutcome
  rw [h]

/-! ### The items of a stored test condition (R57) -/

theorem sumOf_append (l m : List Int) : sumOf (l ++ m) = sumOf l + sumOf m := by
  rw [sumOf_eq_sum, sumOf_eq_sum, sumOf_eq_sum, List.sum_append]

theorem sumOf_lightship (t : Tables) (f : Item → Int) : sumOf ((lightship t).map f) =
    match t.hull with
    | some h => f ⟨h.weight, h.pos, .arrayed⟩
    | none => 0 := by
  unfold lightship
  cases t.hull with
  | none => rfl
  | some h => simp [sumOf_eq_sum]

theorem sumOf_testItems (t : Tables) (tc : TestCondition) (f : Item → Int) : sumOf ((testItems t tc).map f) =
    (match t.hull with
      | some h => f ⟨h.weight, h.pos, .arrayed⟩
      | none => 0) +
    sumOf (tc.items.map fun it => f ⟨it.weight, it.pos, match it.span with
      | some (first, last) => .spread first last
      | none => .point⟩) := by
  unfold testItems
  rw [List.map_append, sumOf_append, sumOf_lightship, List.map_map]
  rfl

/-- What neither a verdict, the end of a TEST job nor the hand-over of the next changes. -/
theorem State.testDone_keeps {β : Type} (f : State → β)
    (hhds : ∀ (s : State) (stage : Stage) (v : List Verdict) (b : Bool),
      f { s with hds := { s.hds with stage := stage, verdicts := v, testFail := b } } = f s)
    (halarm : ∀ (s : State) (l : Link) (a : Als), f { s.setLink .p l with als := a } = f s)
    (hsev : ∀ (s : State) (state : EvState) (taken : Option Serial) (last : Option JobKind),
      f { s with sev := { s.sev with state := state, taken := taken, last := last } } = f s)
    (s : State) (v : Verdict) (todo : List TestCondition) :
    f (State.nextTest todo ((s.recordVerdict v).jobDone .test)) = f s := by
  have hnext := State.nextTest_keeps f (fun u stage verdicts state taken =>
    (hhds { u with sev := { u.sev with state := state, taken := taken } } stage verdicts u.hds.testFail).trans
      (hsev u state taken u.sev.last)) todo ((s.recordVerdict v).jobDone .test)
  refine (hnext.trans (hsev (s.recordVerdict v) .idle _ (some .test))).trans ?_
  exact State.recordVerdict_keeps f (fun u verdicts b => hhds u u.hds.stage verdicts b) halarm s v

/-- Settles O58: the outcomes of both kinds of job, each trial change, a trial list, and the items of a condition. -/
theorem trialAndTestJobsKeepTheirOutcome : Obligations.TrialAndTestJobsKeepTheirOutcome := by
  refine ⟨fun s img hbusy => ⟨fun hkind => ⟨fun scene r happlied hr => ?_, fun i happlied => ?_⟩,
    fun hkind tc r htest hr => ?_⟩, fun tb recs sc => ?_,
    fun tb img tc => ⟨testItems tb tc, rfl, sumOf_testItems tb tc⟩⟩
  · rw [execTrialJobComplete_eq hbusy hkind]
    unfold State.trialDone
    rw [trialOutcome_of_ok happlied hr]
    rfl
  · rw [execTrialJobComplete_eq hbusy hkind]
    unfold State.trialDone
    rw [trialOutcome_of_error happlied]
    rfl
  · dsimp only
    have hexec := execTestJobComplete_eq hbusy hkind htest hr
    have hfail (n : Nat) := Expected.figure_false_iff tc.expected r n
    generalize hv : tc.expected.verdict r = v at hexec
    have hrun : v ≠ .notRun := hv ▸ tc.expected.verdict_ne_notRun r
    have hover := State.nextTest_handsOver s.hds.stage.todo ((s.recordVerdict v).jobDone .test)
    have hhds : ((s.recordVerdict v).jobDone .test).hds =
        { s.hds with verdicts := s.hds.verdicts ++ [v], testFail := s.hds.testFail || decide (v ≠ .pass) } :=
      s.recordVerdict_hds v hrun
    have htaken : ((s.recordVerdict v).jobDone .test).sev.taken = s.sev.taken :=
      State.recordVerdict_keeps (·.sev.taken) (fun _ _ _ => rfl) (fun _ _ _ => rfl) s v
    rw [hhds, htaken] at hover
    obtain ⟨hraised, hsame⟩ := s.recordVerdict_als v hrun
    refine ⟨_, v, hexec, ?_, hrun, ?_, ?_, ?_, ?_, ?_, ?_, ?_, ?_, ?_, ?_, ?_, ?_, ?_⟩
    · rw [← hv, Expected.verdict_eq_pass_iff, Expected.figures_all_iff]
    · rintro n rfl
      obtain ⟨hmiss, hfirst⟩ := Expected.verdict_fail hv
      exact ⟨(hfail n).1 hmiss, fun m hm => mt (hfail m).2 (hfirst m hm)⟩
    · cases hstage : s.hds.stage <;> rw [hstage] at hover <;> exact hover
    · refine fun hv => ⟨?_, ?_⟩
      · rw [State.nextTest_keeps (·.hds.testFail) fun _ _ _ _ _ => rfl, hhds]
        simp [hv]
      · rw [State.nextTest_keeps State.als fun _ _ _ _ _ => rfl]
        exact hraised hv
    · refine fun hv => ⟨?_, ?_⟩
      · rw [State.nextTest_keeps (·.hds.testFail) fun _ _ _ _ _ => rfl, hhds]
        simp [hv]
      · rw [State.nextTest_keeps State.als fun _ _ _ _ _ => rfl]
        exact hsame hv
    · exact State.testDone_keeps (·.sev.live) (fun _ _ _ _ => rfl) (fun _ _ _ => rfl) (fun _ _ _ _ => rfl) s v _
    · exact State.nextTest_keeps (·.sev.last) (fun _ _ _ _ _ => rfl) _ _
    · exact State.testDone_keeps State.ct (fun _ _ _ _ => rfl) (fun _ _ _ => rfl) (fun _ _ _ _ => rfl) s v _
    · exact State.testDone_keeps State.lcu (fun _ _ _ _ => rfl) (fun _ _ _ => rfl) (fun _ _ _ _ => rfl) s v _
    · exact State.testDone_keeps State.csv (fun _ _ _ _ => rfl) (fun _ _ _ => rfl) (fun _ _ _ _ => rfl) s v _
    · exact State.testDone_keeps State.tgt (fun _ _ _ _ => rfl) (fun _ _ _ => rfl) (fun _ _ _ _ => rfl) s v _
    · exact State.testDone_keeps State.lmn (fun _ _ _ _ => rfl) (fun _ _ _ => rfl) (fun _ _ _ _ => rfl) s v _
    · exact State.testDone_keeps State.now (fun _ _ _ _ => rfl) (fun _ _ _ => rfl) (fun _ _ _ _ => rfl) s v _
    · exact State.testDone_keeps State.phase (fun _ _ _ _ => rfl) (fun _ _ _ => rfl) (fun _ _ _ _ => rfl) s v _
  · refine ⟨sc.change_addLot tb recs, sc.change_removeLot tb recs, sc.change_shiftLot tb recs, fun a v hd => ?_,
      fun a v d hd hdepth => sc.change_setSounding tb recs hd hdepth v, sc.change_setConst tb recs,
      sc.change_hang tb recs,
      fun list => ⟨Scene.changes_eq_ok_iff tb recs list sc 1, fun i => Scene.changes_error⟩⟩
    unfold Scene.change
    dsimp only
    rw [hd]

end Sys2Proof.Machine
end

section
/-!
The stability of a pass (R3, R52 to R56, R58 to R62): what its items add up to by any measure, the hydrostatic values of
rising rows, and the bounds of its rounded quotients.
-/

namespace Sys2Proof.Machine

set_option Elab.async false

/-! ### Rounding (R3) -/

/-- Twice the product of a rounded quotient and its divisor lies within a divisor of twice the dividend; the lower end
is not reached, so that a tie goes up. -/
theorem rdiv_bounds {n d : Int} (hd : 0 < d) (hn : 0 ≤ n) :
    2 * n - d < 2 * (rdiv n d * d) ∧ 2 * (rdiv n d * d) ≤ 2 * n + d := by
  have hdiv := Int.mul_ediv_add_emod (2 * n + d) (2 * d)
  have hpos := Int.emod_nonneg (2 * n + d) (show 2 * d ≠ 0 by omega)
  have hlt := Int.emod_lt_of_pos (2 * n + d) (show 0 < 2 * d by omega)
  have hprod : 2 * d * ((2 * n + d) / (2 * d)) = 2 * (rdiv n d * d) := by
    rw [rdiv, if_pos hn]
    ring
  omega

theorem rdiv_of_neg {n : Int} (d : Int) (hn : n < 0) : rdiv n d = -rdiv (-n) d := by
  rw [rdiv, rdiv, if_neg (by omega), if_pos (by omega)]

/-- A quotient is rounded to nearest, a tie away from zero (R3). -/
theorem rdiv_nearest {n d : Int} (hd : 0 < d) :
    2 * mag (rdiv n d * d - n) ≤ d ∧ (2 * mag (rdiv n d * d - n) = d → mag n < mag (rdiv n d * d)) := by
  by_cases hn : 0 ≤ n
  · obtain ⟨hlow, hhigh⟩ := rdiv_bounds hd hn
    generalize rdiv n d * d = p at *
    unfold mag
    omega
  · obtain ⟨hlow, hhigh⟩ := rdiv_bounds (n := -n) hd (by omega)
    rw [rdiv_of_neg d (by omega), Int.neg_mul]
    generalize rdiv (-n) d * d = p at *
    unfold mag
    omega

/-- The counter-ballast moment is rounded away from zero (R3). -/
theorem cdiv_bounds {n d : Int} (hd : 0 < d) : n ≤ cdiv n d * d ∧ cdiv n d * d < n + d := by
  have hdiv := Int.mul_ediv_add_emod (n + d - 1) d
  have hpos := Int.emod_nonneg (n + d - 1) hd.ne'
  have hlt := Int.emod_lt_of_pos (n + d - 1) hd
  have hprod : d * ((n + d - 1) / d) = cdiv n d * d := Int.mul_comm _ _
  omega

/-! ### The items of an image, counted by any measure (R52 to R56, R117) -/

theorem sumOf_flatMap {α : Type} (l : List α) (g : α → List Item) (f : Item → Int) :
    sumOf ((l.flatMap g).map f) = sumOf (l.map fun a => sumOf ((g a).map f)) := by
  induction l with
  | nil => rfl
  | cons a l ih =>
    rw [List.flatMap_cons, List.map_append, sumOf_append, ih, List.map_cons, sumOf_eq_sum (_ :: _), List.sum_cons,
      sumOf_eq_sum, sumOf_eq_sum]

theorem sumOf_singleton (v : Int) : sumOf [v] = v := by simp [sumOf]

/-- The items that no hook places (R52, R53, R55, R56). -/
theorem Scene.sumOf_fixed (sc : Scene) (t : Tables) (f : Item → Int) :
    sumOf ((sc.fixed t).map f) = sc.countFixed t f := by
  have hspread (a : Nat) (w : Int) (q : Pos) : f (spreadItem t a w q) = f ⟨w, q, match t.comp a with
      | some e => .spread e.first e.last
      | none => .spread 0 0⟩ := by
    unfold spreadItem Tables.span
    cases t.comp a <;> rfl
  have htank (e : Nat × TankLive) : sumOf ((tankItem t e).map f) = match t.tank e.1 with
      | some d => f (spreadItem t e.1 e.2.weight ⟨d.cx, d.cy, e.2.liqZ⟩)
      | none => 0 := by
    unfold tankItem
    cases t.tank e.1 with
    | none => rfl
    | some d => exact sumOf_singleton _
  unfold Scene.fixed Scene.countFixed
  simp only [List.map_append, sumOf_append, sumOf_lightship, List.map_map, Function.comp_def, sumOf_flatMap, htank,
    hspread] <;> rfl

/-- A crane's structure item, counted where it stands (R52). -/
theorem sumOf_structureItem (t : Tables) (c : Crane) (q : Pos) (f : Item → Int) :
    sumOf ((structureItem t c q).map f) = match t.crane c with
    | some d => f ⟨d.weight, q, .point⟩
    | none => 0 := by
  unfold structureItem
  cases t.crane c with
  | none => rfl
  | some d => exact sumOf_singleton _

/-- The items of a crane whose hook is not adrift (R52, R54, R55). -/
theorem Scene.sumOf_craneItems (sc : Scene) (t : Tables) (recs : PerCrane LiftRec) (hooks : PerCrane Hook)
    (structs : PerCrane (Option Pos)) (c : Crane) (f : Item → Int) :
    sumOf ((sc.craneItems t recs hooks structs c).map f) = sc.countCrane t recs hooks structs f c := by
  unfold Scene.craneItems Scene.countCrane
  dsimp only
  rw [List.map_append, sumOf_append, carried_eq]
  congr 1
  · cases onHook recs c with
    | none => rfl
    | some w => exact sumOf_singleton _
  · have hstructure (q : Pos) := sumOf_structureItem t c q f
    cases hd : t.crane c with
    | none =>
      simp only [hd] at hstructure
      have hnil : sumOf (([] : List Item).map f) = 0 := rfl
      cases sc.place.get c <;> cases structs.get c <;> simp only [hstructure, hnil]
    | some d =>
      simp only [hd] at hstructure
      cases sc.place.get c with
      | some q => exact hstructure _
      | none =>
        cases structs.get c with
        | some q => exact hstructure _
        | none => rfl

/-- The items of a crane whose hook is adrift: its load and its structure at the worst point (R54, R117). -/
theorem Scene.sumOf_adriftItems (sc : Scene) (t : Tables) (recs : PerCrane LiftRec) (hooks : PerCrane Hook) (side : Int)
    (c : Crane) (f : Item → Int) : sumOf ((sc.adriftItems t recs hooks side c).map f) =
      match onHook recs c, t.crane c with
      | some w, some d => f ⟨w, ⟨d.px, d.py + side * d.outreach, (hooks.get c).h⟩, .point⟩ +
          f ⟨d.weight, d.centroid ((sc.place.get c).getD ⟨d.px, d.py + side * d.outreach⟩), .point⟩
      | _, _ => 0 := by
  unfold Scene.adriftItems
  rw [carried_eq]
  cases onHook recs c with
  | none => rfl
  | some w =>
    cases hd : t.crane c with
    | none => rfl
    | some d =>
      dsimp only
      rw [List.map_cons, sumOf_eq_sum, List.sum_cons, ← sumOf_eq_sum, sumOf_structureItem, hd]
      rfl

/-- Every item of an image, counted by any measure (R52 to R56, R117). -/
theorem Scene.sumOf_items (sc : Scene) (t : Tables) (recs : PerCrane LiftRec) (hooks : PerCrane Hook)
    (structs : PerCrane (Option Pos)) (f : Item → Int) :
    sumOf ((sc.items t recs hooks structs).map f) = sc.count t recs hooks structs f := by
  unfold Scene.items
  dsimp only
  rw [Scene.sideOf_rest]
  unfold Scene.rest Scene.count
  dsimp only
  rw [List.map_append, List.map_append, sumOf_append, sumOf_append, Scene.sumOf_fixed, sumOf_flatMap, sumOf_flatMap,
    Int.add_assoc]
  congr 1
  rw [sumOf_eq_sum, sumOf_eq_sum, sumOf_eq_sum, sum_map_filter, sum_map_filter, ← List.sum_map_add]
  refine congrArg List.sum (List.map_congr_left fun c _ => ?_)
  rw [adrift_eq, Scene.sumOf_craneItems, Scene.sumOf_adriftItems]
  cases strays recs hooks c with
  | true => exact Int.zero_add _
  | false => exact Int.add_zero _

/-- The free-surface moment of an image: each tank's density times its inertia, at the maximum in transfer (R53). -/
theorem Scene.fsm_eq (sc : Scene) (t : Tables) : sc.fsm t = sumOf (sc.tanks.map fun e => match t.tank e.1 with
    | some d => if e.2.source = .none then 0 else e.2.density * if e.2.inTransfer then d.maxInertia else e.2.inertia
    | none => 0) := by
  unfold Scene.fsm
  congr 2

/-! ### The hydrostatic values of rising rows (R60) -/

/-- From a row of rising rows on, the rows below it do not count. -/
theorem hydroAt_append {disp : Int} {a : HydroRow} {below above : List HydroRow}
    (h : ((below ++ a :: above).map HydroRow.disp).Pairwise (· < ·)) (ha : a.disp ≤ disp) :
    hydroAt (below ++ a :: above) disp = hydroFrom disp a above := by
  induction below with
  | nil => exact if_neg (by omega)
  | cons c below ih =>
    rw [List.cons_append, List.map_cons, List.pairwise_cons] at h
    obtain ⟨hc, hrest⟩ := h
    have hca : c.disp < a.disp := hc _ (by simp)
    refine Eq.trans ?_ (ih hrest)
    have hskip {e : HydroRow} {rest : List HydroRow} (he : e.disp ≤ disp) (hce : c.disp < e.disp) :
        hydroAt (c :: e :: rest) disp = hydroAt (e :: rest) disp := by
      rw [hydroAt, hydroAt, if_neg (by omega), if_neg (by omega), hydroFrom, if_neg (by omega), if_neg (by omega)]
    cases below with
    | nil => exact hskip ha hca
    | cons e below =>
      rw [List.cons_append, List.map_cons, List.pairwise_cons] at hrest
      have hea : e.disp < a.disp := hrest.1 _ (by simp)
      exact hskip (by omega) (hc _ (by simp))

section
variable {rows : List HydroRow} (h : (rows.map HydroRow.disp).Pairwise (· < ·))
include h

/-- On a row, that row's values. -/
theorem hydroAt_row {row : HydroRow} (hrow : row ∈ rows) : hydroAt rows row.disp = row.values false false := by
  obtain ⟨below, above, rfl⟩ := List.append_of_mem hrow
  rw [hydroAt_append h le_rfl]
  cases above with
  | nil => simp [hydroFrom]
  | cons b above => exact if_pos rfl

/-- Between two neighbouring rows, the values between them. -/
theorem hydroAt_between {disp : Int} {a b : HydroRow} {below above : List HydroRow}
    (hrows : rows = below ++ a :: b :: above) (ha : a.disp < disp) (hb : disp < b.disp) :
    hydroAt rows disp = a.between b disp := by
  subst hrows
  rw [hydroAt_append h ha.le, hydroFrom, if_neg (by omega), if_pos hb]

/-- Below the first row, its values with the low flag. -/
theorem hydroAt_low {disp : Int} {row : HydroRow} (hrow : row ∈ rows) (hfirst : ∀ other ∈ rows, row.disp ≤ other.disp)
    (hdisp : disp < row.disp) : hydroAt rows disp = row.values true false := by
  cases rows with
  | nil => cases hrow
  | cons a above =>
    have hrowa : row = a := by
      rcases List.mem_cons.1 hrow with heq | hmem
      · exact heq
      · have hle := hfirst a (by simp)
        rw [List.map_cons, List.pairwise_cons] at h
        have hlt := h.1 _ (List.mem_map_of_mem hmem)
        omega
    subst hrowa
    exact if_pos hdisp

/-- Above the last row, its values with the high flag. -/
theorem hydroAt_high {disp : Int} {row : HydroRow} (hrow : row ∈ rows) (hlast : ∀ other ∈ rows, other.disp ≤ row.disp)
    (hdisp : row.disp < disp) : hydroAt rows disp = row.values false true := by
  obtain ⟨below, above, rfl⟩ := List.append_of_mem hrow
  rw [hydroAt_append h hdisp.le]
  cases above with
  | nil => simp [hydroFrom, hdisp]
  | cons b above =>
    have hle := hlast b (by simp)
    rw [List.map_append, List.pairwise_append] at h
    obtain ⟨-, hrest, -⟩ := h
    rw [List.map_cons, List.pairwise_cons] at hrest
    have hlt := hrest.1 b.disp (by simp)
    omega

end

/-! ### Heel (R61) -/

theorem clamp_range {lo hi : Int} (h : lo ≤ hi) (v : Int) : lo ≤ clamp lo hi v ∧ clamp lo hi v ≤ hi := by
  unfold clamp
  omega

/-- The heel lies within its range. -/
theorem heelOf_range (my disp gmf : Int) : -10000 ≤ (heelOf my disp gmf).1 ∧ (heelOf my disp gmf).1 ≤ 10000 := by
  unfold heelOf
  split
  · exact clamp_range (by decide) _
  · split <;> decide

/-- With a positive GMf the heel is the rounded quotient, or the end of the range beyond which that lies. -/
theorem heelOf_of_pos {disp gmf : Int} (my : Int) (hdisp : 0 < disp) (hgmf : 0 < gmf) :
    (heelOf my disp gmf).2.1 = false ∧
      ((heelOf my disp gmf).2.2 = false →
        2 * mag ((heelOf my disp gmf).1 * (disp * gmf) - my * 10000) ≤ disp * gmf) ∧
      ((heelOf my disp gmf).2.2 = true →
        ((heelOf my disp gmf).1 = 10000 ∧ 20001 * (disp * gmf) ≤ 2 * (my * 10000)) ∨
        ((heelOf my disp gmf).1 = -10000 ∧ 2 * (my * 10000) ≤ -20001 * (disp * gmf))) ∧
      (my = 0 → (heelOf my disp gmf).1 = 0) := by
  have hd : 0 < disp * gmf := Int.mul_pos hdisp hgmf
  obtain ⟨hnear, -⟩ := rdiv_nearest (n := my * 10000) hd
  have hheel : heelOf my disp gmf = (clamp (-10000) 10000 (rdiv (my * 10000) (disp * gmf)), false,
      decide (rdiv (my * 10000) (disp * gmf) < -10000) || decide (10000 < rdiv (my * 10000) (disp * gmf))) :=
    if_pos hgmf
  rw [hheel]
  dsimp only
  have hzero : my = 0 → rdiv (my * 10000) (disp * gmf) = 0 := by
    rintro rfl
    rw [rdiv, if_pos (by decide)]
    exact Int.ediv_eq_zero_of_lt (by omega) (by omega)
  generalize disp * gmf = d at *
  generalize hq : rdiv (my * 10000) d = q at *
  refine ⟨rfl, fun hin => ?_, fun hout => ?_, fun hmy => ?_⟩
  · obtain ⟨hlow, hhigh⟩ : ¬ q < -10000 ∧ ¬ 10000 < q := by simpa using hin
    rw [clamp, if_neg hlow, if_neg hhigh]
    exact hnear
  · have hside : q < -10000 ∨ 10000 < q := by simpa using hout
    unfold mag at hnear
    rcases hside with hlow | hhigh
    · refine .inr ⟨if_pos hlow, ?_⟩
      have hprod : q * d ≤ -10001 * d := Int.mul_le_mul_of_nonneg_right (by omega) hd.le
      omega
    · have hnot : ¬ q < -10000 := by omega
      refine .inl ⟨by rw [clamp, if_neg hnot, if_pos hhigh], ?_⟩
      have hprod : 10001 * d ≤ q * d := Int.mul_le_mul_of_nonneg_right (by omega) hd.le
      omega
  · rw [hzero hmy]
    rfl

/-- With a GMf of 0 or less the heel is the end of the range on the side of My. -/
theorem heelOf_of_not_pos {gmf : Int} (my disp : Int) (hgmf : gmf ≤ 0) :
    heelOf my disp gmf = (if 0 ≤ my then 10000 else -10000, true, false) := if_neg (by omega)

/-! ### A pass (R58 to R62) -/

/-- The hydrostatic figures of a result are those at its Δ. -/
theorem evaluate_hydro {h : Hull} {rows : List HydroRow} {st : StrengthTable} {set : StrengthSet} {kind : JobKind}
    {serial : Serial} {candidate : Nat} {items : List Item} {fsm : Int} {y : Hydro}
    (hy : hydroAt rows (dispOf items) = y) :
    let r := evaluate h rows st set kind serial candidate items fsm
    (r.t, r.km, r.lcb, r.lcf, r.mct, r.flags.hydroLow, r.flags.hydroHigh) =
      (y.t, y.km, y.lcb, y.lcf, y.mct, y.low, y.high) := by
  subst hy
  rfl

/-- Settles O59: the roundings, the items of a pass, and each figure of its result. -/
theorem passFollowsTheStabilityFormulas : Obligations.PassFollowsTheStabilityFormulas := by
  refine ⟨fun n d hd => ?_, fun tb img candidate sc => ?_, fun h rows st set kind serial candidate items fsm => ?_⟩
  · obtain ⟨hnear, htie⟩ := rdiv_nearest (n := n) hd
    exact ⟨hnear, htie, fun _ => cdiv_bounds hd⟩
  · refine ⟨sc.items tb img.recs img.hooks img.table.structs,
      sc.sumOf_items tb img.recs img.hooks img.table.structs, ?_⟩
    unfold passOver
    rw [sc.fsm_eq] <;> rfl
  · dsimp only
    intro hrise hdisp
    have hone : dispOf items = sumOf (items.map fun it => it.w * 1) := by simp [dispOf]
    have hrange := heelOf_range (momentY items) (dispOf items)
    refine ⟨hone, rfl, rfl, rfl, rfl, rfl, rfl, rfl, rfl, fun row hrow heq => ?_,
      fun before a b after hrows ha hb => evaluate_hydro (hydroAt_between hrise hrows ha hb),
      fun row hrow hfirst hlt => evaluate_hydro (hydroAt_low hrise hrow hfirst hlt),
      fun row hrow hlast hlt => evaluate_hydro (hydroAt_high hrise hrow hlast hlt),
      rfl, rfl, (hrange _).1, (hrange _).2, fun hgmf => heelOf_of_pos _ hdisp hgmf, fun hgmf => ?_, rfl, rfl, rfl, rfl⟩
    · have hat := hydroAt_row hrise hrow
      rw [heq] at hat
      exact evaluate_hydro hat
    · have hheel := heelOf_of_not_pos (momentY items) (dispOf items) hgmf
      exact ⟨congrArg (·.2.1) hheel, congrArg (·.2.2) hheel, congrArg (·.1) hheel⟩

end Sys2Proof.Machine
end

section
/-!
The image of a PERMIT job and its judgement (R45, R55, R85 to R91, R108): what every reservation takes out, hangs and
places, the first failing criterion, and the reserved candidate.
-/

namespace Sys2Proof.Machine

set_option Elab.async false

/-! ### A request's own lot taken out (R55) -/

/-- Of lots with different numbers, the first that a test on the number picks is the only one. -/
theorem eraseP_eq_filter {lots : List Lot} (h : (lots.map Lot.num).Nodup) {p : Lot → Bool}
    (hp : ∀ l m : Lot, p l = true → p m = true → l.num = m.num) : lots.eraseP p = lots.filter fun l => !p l := by
  induction lots with
  | nil => rfl
  | cons a rest ih =>
    rw [List.map_cons, List.nodup_cons] at h
    obtain ⟨hfresh, hrest⟩ := h
    by_cases hpa : p a = true
    · have hall : rest.filter (fun l => !p l) = rest := by
        refine List.filter_eq_self.2 fun m hm => ?_
        have hpm : p m = false := by
          by_contra hpm
          exact hfresh (hp a m hpa (by simpa using hpm) ▸ List.mem_map_of_mem hm)
        rw [hpm]
        rfl
      rw [List.eraseP_cons_of_pos hpa, List.filter_cons_of_neg (by simp [hpa]), hall]
    · rw [List.eraseP_cons_of_neg hpa, List.filter_cons_of_pos (by simp [hpa]), ih hrest]

/-- Taking a request's lot out drops the lot that stands in the origin of a hold pickup (R55). -/
theorem Scene.takeOut_lots {sc : Scene} (h : (sc.lots.map Lot.num).Nodup) (r : Request) :
    (sc.takeOut r).lots = sc.lots.filter fun l => !r.takesOut l := by
  unfold Scene.takeOut Request.takesOut
  cases horigin : r.origin with
  | quay =>
    have hother (l : Lot) : (LiftEnd.quay == LiftEnd.space l.loc) = false := rfl
    simp [hother]
  | space a =>
    have hpick (l : Lot) : (l.num == r.lot && l.loc == a) =
        (r.lot == l.num && (LiftEnd.space a == LiftEnd.space l.loc)) := by
      rw [Bool.eq_iff_iff]
      simp only [Bool.and_eq_true, beq_iff_eq, LiftEnd.space.injEq]
      exact and_congr eq_comm eq_comm
    refine (eraseP_eq_filter h fun l m hl hm => ?_).trans ?_
    · obtain ⟨hl, -⟩ : l.num = r.lot ∧ l.loc = a := by simpa using hl
      obtain ⟨hm, -⟩ : m.num = r.lot ∧ m.loc = a := by simpa using hm
      rw [hl, hm]
    · exact List.filter_congr fun l _ => by rw [hpick]

/-- It touches nothing but the stow lists. -/
theorem Scene.takeOut_keeps {β : Type} (f : Scene → β)
    (hf : ∀ (sc : Scene) (lots : List Lot), f { sc with lots := lots } = f sc)
    (sc : Scene) (r : Request) : f (sc.takeOut r) = f sc := by
  unfold Scene.takeOut
  cases r.origin with
  | space a => exact hf sc _
  | quay => rfl

/-! ### A load hung at a candidate (R55, R108) -/

/-- The point of a candidate, counted from 1, at which a request's own crane stands. -/
def Request.ownPoint (r : Request) (number : Nat) : Option Pt := r.cands[number - 1]?.map Candidate.own

/-- The point of a candidate, counted from 1, at which the partner of a tandem request stands. -/
def Request.otherPoint (r : Request) (number : Nat) : Option Pt :=
  r.tandem.bind fun _ => r.cands[number - 1]?.bind Candidate.partner

/-- Hanging a load touches the hung loads and the placed structures alone. -/
theorem Scene.hang_keeps {β : Type} (f : Scene → β)
    (hf : ∀ (sc : Scene) (hung : List Item) (place : PerCrane (Option Pt)),
      f { sc with hung := hung, place := place } = f sc)
    (sc : Scene) (c : Crane) (r : Request) (number : Nat) : f (sc.hang c r number) = f sc := by
  unfold Scene.hang
  split
  · split
    · exact hf sc _ _
    · exact hf sc _ _
  · rfl

theorem Scene.hang_hung (sc : Scene) (c : Crane) (r : Request) (number : Nat) :
    (sc.hang c r number).hung = sc.hung ++ r.hangs number := by
  unfold Scene.hang Request.hangs
  cases r.cands[number - 1]? with
  | none => exact (List.append_nil _).symm
  | some q =>
    cases r.tandem with
    | none => rfl
    | some shares =>
      obtain ⟨own, partner⟩ := q
      cases partner <;> rfl

/-- The structures stand at the candidate's points: the crane's own, and its partner's of a tandem request. -/
theorem Scene.hang_place (sc : Scene) (c : Crane) (r : Request) (number : Nat) (k : Crane) :
    (sc.hang c r number).place.get k =
      (if k = mate c then r.otherPoint number else none).or
        ((if k = c then r.ownPoint number else none).or (sc.place.get k)) := by
  unfold Scene.hang Request.otherPoint Request.ownPoint
  cases r.cands[number - 1]? with
  | none => cases r.tandem <;> simp
  | some q =>
    obtain ⟨own, partner⟩ := q
    cases r.tandem with
    | none => by_cases hk : k = c <;> simp [hk]
    | some shares =>
      cases partner with
      | none => by_cases hk : k = c <;> simp [hk]
      | some other =>
        by_cases hkm : k = mate c
        · simp [hkm]
        · by_cases hk : k = c <;> simp [hk, hkm, (mate_ne c).symm]

/-! ### The reservations of an image (R55) -/

theorem Scene.reserve_eq (recs : PerCrane LiftRec) (sc : Scene) (c : Crane) :
    Scene.reserve recs sc c = (reservation recs c).elim sc fun e => (sc.takeOut e.1).hang c e.1 e.2 := by
  unfold Scene.reserve reservation
  cases recs.get c <;> rfl

/-- A lot that the reservation of one of these cranes takes out. -/
def reservedOut (recs : PerCrane LiftRec) (among : List Crane) (l : Lot) : Bool :=
  among.any fun k => (reservation recs k).any fun e => e.1.takesOut l

theorem nodup_filter_num {lots : List Lot} (h : (lots.map Lot.num).Nodup) (p : Lot → Bool) :
    ((lots.filter p).map Lot.num).Nodup := h.sublist (List.filter_sublist.map _)

theorem Scene.reserve_lots {sc : Scene} (h : (sc.lots.map Lot.num).Nodup) (recs : PerCrane LiftRec) (c : Crane) :
    (Scene.reserve recs sc c).lots = sc.lots.filter fun l => !(reservation recs c).any fun e => e.1.takesOut l := by
  rw [Scene.reserve_eq]
  cases reservation recs c with
  | none => simp
  | some e => exact (Scene.hang_keeps Scene.lots (fun _ _ _ => rfl) _ _ _ _).trans (Scene.takeOut_lots h e.1)

theorem Scene.foldl_reserve_lots (recs : PerCrane LiftRec) (among : List Crane) {sc : Scene}
    (h : (sc.lots.map Lot.num).Nodup) :
    (among.foldl (Scene.reserve recs) sc).lots = sc.lots.filter fun l => !reservedOut recs among l := by
  induction among generalizing sc with
  | nil => simp [reservedOut]
  | cons c rest ih =>
    have hone := Scene.reserve_lots h recs c
    have hnext : ((Scene.reserve recs sc c).lots.map Lot.num).Nodup := hone ▸ nodup_filter_num h _
    rw [List.foldl_cons, ih hnext, hone, List.filter_filter]
    refine List.filter_congr fun l _ => ?_
    rw [Bool.and_comm, ← Bool.not_or]
    rfl

theorem Scene.reserve_hung (recs : PerCrane LiftRec) (sc : Scene) (c : Crane) :
    (Scene.reserve recs sc c).hung = sc.hung ++ (reservation recs c).elim [] fun e => e.1.hangs e.2 := by
  rw [Scene.reserve_eq]
  cases reservation recs c with
  | none => exact (List.append_nil _).symm
  | some e =>
    exact (Scene.hang_hung _ _ _ _).trans (congrArg (· ++ _) (Scene.takeOut_keeps Scene.hung (fun _ _ => rfl) sc e.1))

theorem Scene.foldl_reserve_hung (recs : PerCrane LiftRec) (among : List Crane) (sc : Scene) :
    (among.foldl (Scene.reserve recs) sc).hung =
      sc.hung ++ among.flatMap fun k => (reservation recs k).elim [] fun e => e.1.hangs e.2 := by
  induction among generalizing sc with
  | nil => exact (List.append_nil _).symm
  | cons c rest ih => rw [List.foldl_cons, ih, Scene.reserve_hung, List.flatMap_cons, List.append_assoc]

/-- What no reservation touches. -/
theorem Scene.foldl_reserve_keeps {β : Type} (f : Scene → β)
    (hf : ∀ (sc : Scene) (lots : List Lot) (hung : List Item) (place : PerCrane (Option Pt)),
      f { sc with lots := lots, hung := hung, place := place } = f sc)
    (recs : PerCrane LiftRec) (among : List Crane) (sc : Scene) : f (among.foldl (Scene.reserve recs) sc) = f sc := by
  induction among generalizing sc with
  | nil => rfl
  | cons c rest ih =>
    rw [List.foldl_cons, ih, Scene.reserve_eq]
    cases reservation recs c with
    | none => rfl
    | some e =>
      have hhang := Scene.hang_keeps f (fun sc hung place => hf sc sc.lots hung place) (sc.takeOut e.1) c e.1 e.2
      exact hhang.trans (Scene.takeOut_keeps f (fun sc lots => hf sc lots sc.hung sc.place) sc e.1)

/-- The point of a crane's own reservation. -/
def ownReserved (recs : PerCrane LiftRec) (c : Crane) : Option Pt := (reservation recs c).bind fun e => e.1.ownPoint e.2

/-- The point that a crane's tandem reservation gives its partner. -/
def otherReserved (recs : PerCrane LiftRec) (c : Crane) : Option Pt :=
  (reservation recs c).bind fun e => e.1.otherPoint e.2

theorem Scene.reserve_place (recs : PerCrane LiftRec) (sc : Scene) (c k : Crane) :
    (Scene.reserve recs sc c).place.get k =
      (if k = mate c then otherReserved recs c else none).or
        ((if k = c then ownReserved recs c else none).or (sc.place.get k)) := by
  rw [Scene.reserve_eq]
  unfold otherReserved ownReserved
  cases reservation recs c with
  | none => simp
  | some e =>
    have hbase := Scene.takeOut_keeps (fun u => u.place.get k) (fun _ _ => rfl) sc e.1
    exact (Scene.hang_place _ _ _ _ _).trans (by rw [hbase]; rfl)

/-- While no grant stands beside a partner's tandem grant, a crane is placed by one reservation at most. -/
theorem ownReserved_or_other {recs : PerCrane LiftRec}
    (h : ∀ k e, reservation recs k = some e → e.1.tandem.isSome = true → reservation recs (mate k) = none) (k : Crane) :
    (otherReserved recs (mate k)).or (ownReserved recs k) = (ownReserved recs k).or (otherReserved recs (mate k)) := by
  cases hother : otherReserved recs (mate k) with
  | none => simp
  | some q =>
    obtain ⟨e, he, hq⟩ := Option.bind_eq_some_iff.1 hother
    have htandem : e.1.tandem.isSome = true := by
      obtain ⟨shares, hshares, -⟩ := Option.bind_eq_some_iff.1 hq
      rw [hshares]
      rfl
    have hnone := h (mate k) e he htandem
    rw [mate_mate] at hnone
    simp [ownReserved, hnone]

/-- The structures that the reservations of an image place: each at its own reserved point, or where its partner's
tandem reservation puts it. -/
theorem Image.reserved_place {img : Image}
    (h : ∀ k e, reservation img.recs k = some e → e.1.tandem.isSome = true → reservation img.recs (mate k) = none)
    (k : Crane) : img.reserved.place.get k = (ownReserved img.recs k).or (otherReserved img.recs (mate k)) := by
  have hmates := ownReserved_or_other h k
  have hlive : img.live.place.get k = none := by cases k <;> rfl
  unfold Image.reserved cranes
  simp only [List.foldl_cons, List.foldl_nil, Scene.reserve_place, hlive]
  cases k with
  | k1 | k3 => simpa [mate] using hmates
  | k2 | k4 => simp [mate]

/-! ### The judgement of the candidates (R86 to R88) -/

/-- With usable tables every pass gives a result, of its own candidate and image. -/
theorem passOver_of_usable {t : Tables} (h : t.usable = true) (img : Image) (candidate : Nat) (sc : Scene) :
    ∃ x, passOver t img candidate sc = some x ∧ x.candidate = candidate ∧ x.serial = img.serial := by
  unfold Tables.usable at h
  rw [Bool.and_eq_true, Bool.and_eq_true] at h
  obtain ⟨⟨hhull, hhydro⟩, hstrength⟩ := h
  obtain ⟨hull, hhull⟩ := Option.isSome_iff_exists.1 hhull
  obtain ⟨rows, hhydro⟩ := Option.isSome_iff_exists.1 hhydro
  obtain ⟨st, hstrength⟩ := Option.isSome_iff_exists.1 hstrength
  unfold passOver
  rw [hhull, hhydro, hstrength]
  exact ⟨_, rfl, rfl, rfl⟩

/-- A PERMIT job has a result for each candidate, in their order. -/
theorem permitResults_eq_map {t : Tables} (h : t.usable = true) (img : Image) (c : Crane) (r : Request) :
    ∃ g : Nat → Result, permitResults t img c r = (List.range r.cands.length).map g ∧
      ∀ i, (g i).candidate = i + 1 ∧ (g i).serial = img.serial := by
  have hpass (i : Nat) := passOver_of_usable h img (i + 1) ((img.permitBase r).hang c r (i + 1))
  choose g hg hcandidate using hpass
  refine ⟨g, ?_, hcandidate⟩
  have hfun : (fun i => permitPass t img c r (i + 1)) = some ∘ g := funext hg
  unfold permitResults
  rw [hfun, List.filterMap_eq_map]

theorem permitResults_length {t : Tables} (h : t.usable = true) (img : Image) (c : Crane) (r : Request) :
    (permitResults t img c r).length = r.cands.length := by
  obtain ⟨g, hg, -⟩ := permitResults_eq_map h img c r
  simp [hg]

theorem permitResults_getElem? {t : Tables} (h : t.usable = true) {img : Image} {c : Crane} {r : Request} {i : Nat}
    {x : Result} (hx : (permitResults t img c r)[i]? = some x) : x.candidate = i + 1 ∧ x.serial = img.serial := by
  obtain ⟨g, hg, hfigures⟩ := permitResults_eq_map h img c r
  rw [hg, List.getElem?_map] at hx
  obtain ⟨j, hj, rfl⟩ := Option.map_eq_some_iff.1 hx
  obtain ⟨hlt, rfl⟩ := List.getElem?_eq_some_iff.1 hj
  rw [List.getElem_range]
  exact hfigures i

/-- The result of the largest heel magnitude, the first of several (R87). -/
theorem steepest_spec (best : Result) (rest : List Result) :
    ∃ i, (best :: rest)[i]? = some (steepest best rest) ∧
      ∀ (j : Nat) (x : Result), (best :: rest)[j]? = some x →
        mag x.heel ≤ mag (steepest best rest).heel ∧ (j < i → mag x.heel < mag (steepest best rest).heel) := by
  induction rest generalizing best with
  | nil =>
    refine ⟨0, rfl, fun j x hx => ?_⟩
    cases j with
    | zero =>
      obtain rfl : best = x := by simpa using hx
      exact ⟨le_rfl, fun h => absurd h (by omega)⟩
    | succ j => simp at hx
  | cons r rest ih =>
    unfold steepest
    by_cases hr : mag best.heel < mag r.heel
    · rw [if_pos hr]
      obtain ⟨i, hi, hmax⟩ := ih r
      refine ⟨i + 1, hi, fun j x hx => ?_⟩
      cases j with
      | zero =>
        obtain rfl : best = x := by simpa using hx
        have hle := (hmax 0 r rfl).1
        omega
      | succ j =>
        obtain ⟨hle, hlt⟩ := hmax j x hx
        exact ⟨hle, fun h => hlt (by omega)⟩
    · rw [if_neg hr]
      obtain ⟨i, hi, hmax⟩ := ih best
      have hbest := hmax 0 best rfl
      cases i with
      | zero =>
        refine ⟨0, hi, fun j x hx => ⟨?_, fun h => absurd h (by omega)⟩⟩
        match j, hx with
        | 0, hx => exact (hmax 0 x hx).1
        | 1, hx =>
          obtain rfl : r = x := by simpa using hx
          omega
        | j + 2, hx => exact (hmax (j + 1) x hx).1
      | succ i =>
        refine ⟨i + 2, hi, fun j x hx => ?_⟩
        match j, hx with
        | 0, hx =>
          obtain ⟨hle, hlt⟩ := hmax 0 x hx
          exact ⟨hle, fun _ => hlt (by omega)⟩
        | 1, hx =>
          obtain rfl : r = x := by simpa using hx
          have hlt := hbest.2 (by omega)
          omega
        | j + 2, hx =>
          obtain ⟨hle, hlt⟩ := hmax (j + 1) x hx
          exact ⟨hle, fun h => hlt (by omega)⟩

/-- The criterion of a number in R86's order; past the last, the last. -/
def permitTestAt : Nat → PermitTest
  | 0 => .heel
  | 1 => .gm
  | 2 => .draught
  | 3 => .shear
  | 4 => .bending
  | _ => .capacity

theorem mem_permitTests_iff (t : PermitTest) : t ∈ permitTests ↔ ∃ n, n < 6 ∧ permitTestAt n = t := by
  constructor
  · intro _
    cases t with
    | heel => exact ⟨0, by decide, rfl⟩
    | gm => exact ⟨1, by decide, rfl⟩
    | draught => exact ⟨2, by decide, rfl⟩
    | shear => exact ⟨3, by decide, rfl⟩
    | bending => exact ⟨4, by decide, rfl⟩
    | capacity => exact ⟨5, by decide, rfl⟩
  · intro _
    cases t <;> decide

/-- The criteria in their order: those before a number, and from it on. -/
theorem permitTests_split {n : Nat} (h : n < 6) :
    ∃ later, permitTests = (List.range n).map permitTestAt ++ permitTestAt n :: later := by
  refine ⟨((List.range 6).map permitTestAt).drop (n + 1), ?_⟩
  interval_cases n <;> rfl

/-- No candidate fails a criterion (R86). -/
theorem PermitLimits.failure_none {p : PermitLimits} {results : List Result}
    (h : ∀ x ∈ results, ∀ n, n < 6 → p.passes x (permitTestAt n) = true) : p.failure results = none := by
  refine List.findSome?_eq_none_iff.2 fun t ht => Option.map_eq_none_iff.2 (List.find?_eq_none.2 fun x hx => ?_)
  obtain ⟨n, hn, rfl⟩ := (mem_permitTests_iff t).1 ht
  simp [h x hx n hn]

/-- The first criterion that fails, at the first candidate at which it fails (R88). -/
theorem PermitLimits.failure_some {p : PermitLimits} {results : List Result} {n i : Nat} {x : Result} (hn : n < 6)
    (hx : results[i]? = some x) (hfail : p.passes x (permitTestAt n) = false)
    (hearlier : ∀ m, m < n → ∀ y ∈ results, p.passes y (permitTestAt m) = true)
    (hfirst : ∀ j y, j < i → results[j]? = some y → p.passes y (permitTestAt n) = true) :
    p.failure results = some (permitTestAt n, x) := by
  obtain ⟨later, hsplit⟩ := permitTests_split hn
  obtain ⟨hlt, hget⟩ := List.getElem?_eq_some_iff.1 hx
  refine List.findSome?_eq_some_iff.2 ⟨_, _, later, hsplit, ?_, fun t ht => ?_⟩
  · have hfind : (results.find? fun y => !p.passes y (permitTestAt n)) = some x := by
      refine List.find?_eq_some_iff_getElem.2 ⟨by simp [hfail], i, hlt, hget, fun j hj => ?_⟩
      simp [hfirst j results[j] hj (List.getElem?_eq_getElem _)]
    rw [hfind]
    rfl
  · obtain ⟨m, hm, rfl⟩ := List.mem_map.1 ht
    refine Option.map_eq_none_iff.2 (List.find?_eq_none.2 fun y hy => ?_)
    simp [hearlier m (List.mem_range.1 hm) y hy]

/-! ### PERMIT_JOB_COMPLETE (R45, R85 to R91) -/

/-- What becomes of the evaluation: its outcome, and an IDLE evaluator with nothing in hand that chooses again. -/
theorem execPermitJobComplete_eq {s : State} {img : Image} {c : Crane} (hbusy : s.sev.state = .busy img)
    (hkind : img.kind = .permit) (hcrane : img.crane = some c) :
    exec .permitJobComplete s = .next ((s.permitOutcome img c).handOff.jobDone .permit).takeJob := by
  show execPermitJobComplete s = _
  unfold execPermitJobComplete
  rw [Sev.running_of_busy hbusy hkind]
  dsimp only
  rw [hcrane]

/-- An evaluation marked for discard, or no longer in hand, gives nothing. -/
theorem State.permitOutcome_of_not_inHand {s : State} {c : Crane} (h : s.lcu.inHand ≠ some (c, false)) (img : Image) :
    s.permitOutcome img c = s := if_neg h

section
variable {s : State} {c : Crane} {r : Request} {attempts : Nat} (hhand : s.lcu.inHand = some (c, false))
  (hlift : s.lift c = .pending r attempts)
include hhand hlift

/-- An evaluation of a condition that has changed since is stale (R90). -/
theorem State.permitOutcome_of_stale {img : Image} (h : img.serial ≠ s.ct.serial) :
    s.permitOutcome img c = s.stale c r attempts := by
  unfold State.permitOutcome
  rw [if_pos hhand, hlift]
  exact if_neg h

/-- An evaluation of the condition as it is now is judged (R86). -/
theorem State.permitOutcome_of_current {img : Image} (h : img.serial = s.ct.serial) :
    s.permitOutcome img c = s.judgePermit img c r := by
  unfold State.permitOutcome
  rw [if_pos hhand, hlift]
  exact if_pos h

end

/-- The space load with the evaluated weight and the capacity that a request is judged against; both 0 when no space
bounds it (R18, R45). -/
def State.permitCapacity (s : State) (img : Image) (r : Request) : Int × Int :=
  match r.dest with
  | .space a => match s.tables.cargo a with
    | some (_, most) => ((img.permitBase r).load a + r.weight, most)
    | none => (0, 0)
  | .quay => (0, 0)

/-- Whether a result fails the criterion of a number (R86, R179). -/
def State.permitFails (s : State) (img : Image) (r : Request) (n : Nat) (x : Result) : Bool :=
  match n, s.tables.limits with
  | 0, some l => decide (l.liftHeel < mag x.heel)
  | 1, some l => decide (x.gmf < l.gmLift)
  | 0, none => true
  | 1, none => true
  | 2, _ => decide (s.settings.draughtLimit ≠ 0 ∧ (s.settings.draughtLimit : Int) < x.maxDraught)
  | 3, _ => decide (1000 < x.strength.worstSfPm)
  | 4, _ => decide (1000 < x.strength.worstBmPm)
  | _, _ => decide ((s.permitCapacity img r).2 < (s.permitCapacity img r).1)

/-- The counter-ballast moment of a HEEL refusal (R89). -/
def State.permitMoment (s : State) (x : Result) : Int :=
  match s.tables.limits with
  | some l => counterMoment l.liftHeel x
  | none => 0

/-- The failing value that the refusal for the criterion of a number carries (R88). -/
def State.permitValue (s : State) (img : Image) (r : Request) (n : Nat) (x : Result) : FailValue :=
  match n with
  | 0 => .heel x.heel (s.permitMoment x)
  | 1 => .gm x.gmf
  | 2 => .draught x.maxDraught
  | 3 => .shear x.strength.worstSfPm x.strength.worstSf
  | 4 => .bending x.strength.worstBmPm x.strength.worstBm
  | _ => .capacity (s.permitCapacity img r).1 (s.permitCapacity img r).2

/-- The space that bounds a request, with the load and capacity it is judged against. -/
theorem State.permitLimits_space (s : State) (img : Image) (r : Request) :
    (s.permitLimits img r).space = some (s.permitCapacity img r) ∨
      (s.permitLimits img r).space = none ∧ s.permitCapacity img r = (0, 0) := by
  unfold State.permitLimits State.permitCapacity
  dsimp only
  cases r.dest with
  | quay => exact .inr ⟨rfl, rfl⟩
  | space a =>
    dsimp only
    cases s.tables.cargo a with
    | none => exact .inr ⟨rfl, rfl⟩
    | some e => exact .inl rfl

/-- The model's criteria are those of R86 by their numbers. -/
theorem State.permitFails_eq (s : State) (img : Image) (r : Request) (n : Nat) (x : Result) :
    s.permitFails img r n x = !(s.permitLimits img r).passes x (permitTestAt n) := by
  have hlimits : (s.permitLimits img r).limits = s.tables.limits := rfl
  match n with
  | 0 =>
    unfold State.permitFails permitTestAt PermitLimits.passes
    rw [hlimits]
    cases s.tables.limits <;> simp [heelAbove]
  | 1 =>
    unfold State.permitFails permitTestAt PermitLimits.passes
    rw [hlimits]
    cases s.tables.limits with
    | none => rfl
    | some l => simp [← decide_not]
  | 2 =>
    have hfails : s.permitFails img r 2 x =
        decide (s.settings.draughtLimit ≠ 0 ∧ (s.settings.draughtLimit : Int) < x.maxDraught) := by
      unfold State.permitFails
      cases s.tables.limits <;> rfl
    have hpasses : (s.permitLimits img r).passes x (permitTestAt 2) = !draughtAbove s.settings.draughtLimit x := rfl
    rw [hfails, hpasses, Bool.not_not, Bool.eq_iff_iff, draughtAbove_iff]
    exact decide_eq_true_iff
  | 3 => cases hl : s.tables.limits <;> simp [State.permitFails, permitTestAt, PermitLimits.passes, hl, ← decide_not]
  | 4 => cases hl : s.tables.limits <;> simp [State.permitFails, permitTestAt, PermitLimits.passes, hl, ← decide_not]
  | n + 5 =>
    have hfails : s.permitFails img r (n + 5) x =
        decide ((s.permitCapacity img r).2 < (s.permitCapacity img r).1) := by
      unfold State.permitFails
      cases s.tables.limits <;> rfl
    rw [hfails]
    unfold permitTestAt PermitLimits.passes
    rcases s.permitLimits_space img r with hspace | ⟨hspace, hzero⟩
    · rw [hspace]
      simp [← decide_not]
    · rw [hspace, hzero]
      rfl

/-- The model's failing value is that of R88 by the criterion's number. -/
theorem State.failValue_eq (s : State) (img : Image) (r : Request) (n : Nat) (x : Result) :
    (s.permitLimits img r).failValue x (permitTestAt n) = s.permitValue img r n x := by
  match n with
  | 0 | 1 | 2 | 3 | 4 => rfl
  | n + 5 =>
    show (match (s.permitLimits img r).space with
      | some (load, capacity) => FailValue.capacity load capacity
      | none => FailValue.capacity 0 0) = .capacity (s.permitCapacity img r).1 (s.permitCapacity img r).2
    rcases s.permitLimits_space img r with hspace | ⟨hspace, hzero⟩
    · rw [hspace]
    · rw [hspace, hzero]

/-- The judgement grants when no candidate fails (R87). -/
theorem State.judgePermit_of_pass {s : State} {img : Image} {c : Crane} {r : Request}
    (h : ∀ x ∈ permitResults s.tables img c r, ∀ n, n < 6 → s.permitFails img r n x = false) :
    s.judgePermit img c r = s.grant c r (reservedIndex (permitResults s.tables img c r)) img.serial := by
  have hnone : (s.permitLimits img r).failure (permitResults s.tables img c r) = none :=
    PermitLimits.failure_none fun x hx n hn => by simpa [State.permitFails_eq] using h x hx n hn
  unfold State.judgePermit
  dsimp only
  rw [hnone]

/-- The judgement refuses for the first failing criterion at the first candidate at which it fails (R88). -/
theorem State.judgePermit_of_fail {s : State} {img : Image} {c : Crane} {r : Request} {n i : Nat} {x : Result}
    (hn : n < 6) (hx : (permitResults s.tables img c r)[i]? = some x) (hfail : s.permitFails img r n x = true)
    (hearlier : ∀ m, m < n → ∀ y ∈ permitResults s.tables img c r, s.permitFails img r m y = false)
    (hfirst : ∀ j y, j < i → (permitResults s.tables img c r)[j]? = some y → s.permitFails img r n y = false) :
    s.judgePermit img c r = s.refusePermit c (s.permitLimits img r) (permitTestAt n, x) := by
  simp only [State.permitFails_eq, Bool.not_eq_true', Bool.not_eq_false'] at hfail hearlier hfirst
  unfold State.judgePermit
  dsimp only
  rw [PermitLimits.failure_some hn hx hfail hearlier hfirst]

/-- The candidate that a grant reserves is that of the steepest result, counted from 1 (R87). -/
theorem reservedIndex_spec {t : Tables} (h : t.usable = true) {img : Image} {c : Crane} {r : Request}
    (hr : r.cands ≠ []) :
    ∃ i best, (permitResults t img c r)[i]? = some best ∧ reservedIndex (permitResults t img c r) = i + 1 ∧
      ∀ (j : Nat) (x : Result), (permitResults t img c r)[j]? = some x →
        mag x.heel ≤ mag best.heel ∧ (j < i → mag x.heel < mag best.heel) := by
  have hlength := permitResults_length h img c r
  cases hresults : permitResults t img c r with
  | nil =>
    rw [hresults] at hlength
    exact absurd (List.length_eq_zero_iff.1 hlength.symm) hr
  | cons first rest =>
    obtain ⟨i, hi, hmax⟩ := steepest_spec first rest
    refine ⟨i, _, hi, ?_, hmax⟩
    rw [← hresults] at hi
    exact (permitResults_getElem? h hi).1


/-- A permit refused: the record IDLE, the request out of the queue, and the message sent. -/
def State.permitRefused (s : State) (c : Crane) (m : OutMsg) : State :=
  { s.setLink (portOf c) ((s.link (portOf c)).offer m) with
    lcu.recs := s.lcu.recs.set c .idle
    lcu.queue := s.lcu.queue.erase c }

/-- The refusal names the criterion, the candidate and the value; a HEEL refusal advises port B of a moment (R88,
R89). -/
theorem State.refusePermit_eq {s : State} {img : Image} {c : Crane} {r : Request} {n i : Nat} {x : Result} (hn : n < 6)
    (hcandidate : x.candidate = i + 1) (hserial : x.serial = img.serial) :
    s.refusePermit c (s.permitLimits img r) (permitTestAt n, x) =
      if n = 0 ∧ s.permitMoment x ≠ 0 then
        (s.permitRefused c (.liftRefused n (if n = 5 then 1 else i + 1) img.serial (s.permitValue img r n x))).offer .b
          (.counterAdvice c (s.permitMoment x) img.serial)
      else s.permitRefused c (.liftRefused n (if n = 5 then 1 else i + 1) img.serial (s.permitValue img r n x)) := by
  unfold State.refusePermit
  dsimp only
  rw [State.failValue_eq, hcandidate, hserial]
  match n with
  | 0 =>
    show State.advise _ c (s.permitMoment x) img.serial = _
    unfold State.advise
    by_cases hmoment : s.permitMoment x = 0
    · have hnone : ¬ ((0 : Nat) = 0 ∧ s.permitMoment x ≠ 0) := fun h => h.2 hmoment
      rw [if_pos hmoment, if_neg hnone]
      rfl
    · have hsome : (0 : Nat) = 0 ∧ s.permitMoment x ≠ 0 := ⟨rfl, hmoment⟩
      rw [if_neg hmoment, if_pos hsome]
      rfl
  | 1 | 2 | 3 | 4 | 5 => rfl

/-- Settles O55: the image by its reservations, then the three ways in which an evaluation ends. -/
theorem permitIsGrantedOrRefused : Obligations.PermitIsGrantedOrRefused := by
  refine ⟨fun tb img c r i => ?_, fun s img c hbusy hkind hcrane hhand => ?_,
    fun s img c r attempts hbusy hkind hcrane hlift => ?_⟩
  · dsimp only
    intro hnums htandem
    have hlots : img.reserved.lots = img.table.lots.filter fun l => !reservedOut img.recs cranes l :=
      Scene.foldl_reserve_lots img.recs cranes (sc := img.live) hnums
    have hplace := Image.reserved_place htandem
    have hfiling : img.reserved.filing = img.table.filing :=
      Scene.foldl_reserve_keeps Scene.filing (fun _ _ _ _ => rfl) img.recs cranes img.live
    have hout : (img.permitBase r).lots = img.reserved.lots.filter fun l => !r.takesOut l :=
      Scene.takeOut_lots (hlots ▸ nodup_filter_num hnums _) r
    have hbase : (img.permitBase r).place = img.reserved.place :=
      Scene.takeOut_keeps Scene.place (fun _ _ => rfl) img.reserved r
    refine ⟨hlots, Scene.foldl_reserve_hung img.recs cranes img.live, hplace, hfiling,
      Scene.foldl_reserve_keeps Scene.tanks (fun _ _ _ _ => rfl) img.recs cranes img.live,
      Scene.foldl_reserve_keeps Scene.consts (fun _ _ _ _ => rfl) img.recs cranes img.live,
      ⟨(img.permitBase r).hang c r (i + 1), rfl, ?_, ?_, fun q hq => ⟨?_, fun k hk => ?_⟩, ?_, ?_, ?_⟩, fun a => ?_⟩
    · exact (Scene.hang_keeps Scene.lots (fun _ _ _ => rfl) _ _ _ _).trans hout
    · exact (Scene.hang_hung _ _ _ _).trans
        (congrArg (· ++ _) (Scene.takeOut_keeps Scene.hung (fun _ _ => rfl) img.reserved r))
    · have hown : r.ownPoint (i + 1) = some q.own := by rw [Request.ownPoint, Nat.add_sub_cancel, hq]; rfl
      rw [Scene.hang_place, if_neg (mate_ne c).symm, if_pos rfl, hown]
      rfl
    · rw [Scene.hang_place, if_neg hk, hbase]
      split <;> rfl
    · exact (Scene.hang_keeps Scene.filing (fun _ _ _ => rfl) _ _ _ _).trans
        (Scene.takeOut_keeps Scene.filing (fun _ _ => rfl) img.reserved r)
    · exact (Scene.hang_keeps Scene.tanks (fun _ _ _ => rfl) _ _ _ _).trans
        (Scene.takeOut_keeps Scene.tanks (fun _ _ => rfl) img.reserved r)
    · exact (Scene.hang_keeps Scene.consts (fun _ _ _ => rfl) _ _ _ _).trans
        (Scene.takeOut_keeps Scene.consts (fun _ _ => rfl) img.reserved r)
    · have hbaseFiling : (img.permitBase r).filing = img.table.filing :=
        (Scene.takeOut_keeps Scene.filing (fun _ _ => rfl) img.reserved r).trans hfiling
      have hpick (l : Lot) : (l.loc == a && !r.takesOut l) = (!r.takesOut l && l.loc == a) := Bool.and_comm _ _
      unfold Scene.load
      rw [hout, hbaseFiling, List.filter_filter]
      simp only [hpick]
      rfl
  · rw [execPermitJobComplete_eq hbusy hkind hcrane, State.permitOutcome_of_not_inHand hhand]
    rfl
  · have hexec := execPermitJobComplete_eq hbusy hkind hcrane
    refine ⟨fun hhand hstale => ?_, fun hhand hcurrent husable hcands => ?_⟩
    · rw [State.permitOutcome_of_stale hhand hlift hstale] at hexec
      unfold State.stale at hexec
      by_cases hattempts : attempts + 1 < 3
      · rw [if_pos hattempts]
        rw [if_pos (show attempts + 1 < Config.maxAttempts from hattempts)] at hexec
        exact hexec
      · rw [if_neg hattempts]
        rw [if_neg (show ¬ attempts + 1 < Config.maxAttempts from hattempts)] at hexec
        exact hexec
    · rw [State.permitOutcome_of_current hhand hlift hcurrent] at hexec
      refine ⟨permitResults_length husable img c r, fun hpass => ?_, fun n i x hn hx hfail hearlier hfirst => ?_⟩
      · obtain ⟨i, best, hbest, hindex, hmax⟩ := reservedIndex_spec husable (img := img) (c := c) hcands
        rw [State.judgePermit_of_pass hpass, hindex] at hexec
        exact ⟨i, best, hbest, hmax, hexec⟩
      · obtain ⟨hcandidate, hserial⟩ := permitResults_getElem? husable hx
        rw [State.judgePermit_of_fail hn hx hfail hearlier hfirst, State.refusePermit_eq hn hcandidate hserial] at hexec
        exact hexec

end Sys2Proof.Machine
end

section
/-!
The strength of a pass (R65 to R76): an item's shares add up to its weight, the buoyancies to Δ, so the loads close at
both ends; then the figures of each station and the worst of them.
-/

namespace Sys2Proof.Machine

set_option Elab.async false

/-! ### Figures by index -/

/-- A list of figures given index by index. -/
theorem nth_map_range (f : Nat → Int) {n j : Nat} (hj : j < n) : nth ((List.range n).map f) j = f j := by
  simp [nth, hj]

theorem nth_append_left {l : List Int} {j : Nat} (hj : j < l.length) (m : List Int) : nth (l ++ m) j = nth l j :=
  List.getD_append _ _ _ _ hj

theorem nth_append_length (l : List Int) (v : Int) : nth (l ++ [v]) l.length = v := by simp [nth]

/-- A sum over the first indices, as Mathlib's sums over a range. -/
theorem sumOf_map_range (f : Nat → Int) (n : Nat) : sumOf ((List.range n).map f) = ∑ j ∈ Finset.range n, f j :=
  sumOf_eq_sum _

/-- A list of figures adds up index by index. -/
theorem sum_nth (l : List Int) : ∑ j ∈ Finset.range l.length, nth l j = sumOf l := by
  induction l with
  | nil => rfl
  | cons v l ih =>
    rw [List.length_cons, Finset.sum_range_succ', sumOf_eq_sum, List.sum_cons, ← sumOf_eq_sum, ← ih, Int.add_comm]
    rfl

/-! ### Stations and segments (R65) -/

/-- Rounding keeps the order. -/
theorem rdiv_mono {m n d : Int} (hd : 0 < d) (h : m ≤ n) : rdiv m d ≤ rdiv n d := by
  have hdiv {a b : Int} (hab : a ≤ b) : (2 * a + d) / (2 * d) ≤ (2 * b + d) / (2 * d) :=
    Int.ediv_le_ediv (by omega) (by omega)
  have hnonneg {a : Int} (ha : 0 ≤ a) : 0 ≤ (2 * a + d) / (2 * d) := Int.ediv_nonneg (by omega) (by omega)
  unfold rdiv
  split <;> split
  · exact hdiv h
  · omega
  · have hm : 0 ≤ (2 * -m + d) / (2 * d) := hnonneg (by omega)
    have hn : 0 ≤ (2 * n + d) / (2 * d) := hnonneg ‹_›
    omega
  · exact Int.neg_le_neg (hdiv (by omega))

/-- A multiple of 20 is divided by 20 without rounding. -/
theorem rdiv_mul_twenty (n : Int) : rdiv (n * 20) 20 = n := by
  unfold rdiv
  split <;> omega

/-- Of a test that holds of nothing above an index at which it fails, the count over a range is the first index at
which it fails. -/
theorem lt_countP_range_iff {p : Nat → Bool} (hp : ∀ i j, i ≤ j → p j = true → p i = true) (n : Nat) :
    ∀ i < n, i < (List.range n).countP p ↔ p i = true := by
  induction n with
  | zero => nofun
  | succ n ih =>
    intro i hi
    have hle : (List.range n).countP p ≤ n := by simpa using List.countP_le_length (p := p) (l := List.range n)
    rw [List.range_succ, List.countP_append, List.countP_singleton]
    by_cases hn : p n = true
    · have hall : (List.range n).countP p = n := by
        rcases Nat.lt_or_ge ((List.range n).countP p) n with hlt | hge
        · exact absurd ((ih _ hlt).2 (hp _ _ hlt.le hn)) (lt_irrefl _)
        · omega
      simp only [hn, if_true, hp i n (by omega) hn, iff_true]
      omega
    · rw [if_neg hn, Nat.add_zero]
      rcases Nat.lt_or_ge i n with hlt | hge
      · exact ih i hlt
      · obtain rfl : i = n := by omega
        simp only [hn, Bool.false_eq_true, iff_false]
        omega

/-- There are 20 segments. -/
theorem segmentOf_le (stations : List Int) (x : Int) : segmentOf stations x ≤ 19 :=
  List.countP_le_length.trans_eq List.length_range

/-- The x of a station. -/
def Hull.station (h : Hull) (k : Nat) : Int := rdiv (k * h.lbp) 20

/-- The x of a segment's midpoint. -/
def Hull.middle (h : Hull) (j : Nat) : Int := rdiv (h.station j + h.station (j + 1)) 2

section
variable {h : Hull} (hstaged : h.staged)
include hstaged

/-- The stations by their own index, where `Hull.staged` runs over the index cast to an integer. -/
theorem Hull.staged.stations_eq : h.stations = (List.range 21).map h.station := by
  obtain ⟨hstations, -⟩ := hstaged
  rw [hstations, List.bind_eq_flatMap]
  exact (congrArg _ (List.flatMap_pure_eq_map Nat.cast _)).trans List.map_map

theorem Hull.staged.nth_stations {k : Nat} (hk : k ≤ 20) : nth h.stations k = h.station k := by
  rw [hstaged.stations_eq]
  exact nth_map_range _ (by omega)

theorem Hull.staged.nth_mids {j : Nat} (hj : j < 20) : nth h.mids j = h.middle j := by
  have hthis := hstaged.nth_stations (k := j) (by omega)
  have hnext := hstaged.nth_stations (k := j + 1) (by omega)
  obtain ⟨-, hmids⟩ := hstaged
  rw [hmids, nth_map_range _ hj, hthis, hnext]
  rfl

/-- A point lies in the segment between the two stations about it, an inner station belonging to the segment forward of
it (R65). -/
theorem Hull.staged.segmentOf_eq_iff (hlbp : 0 ≤ h.lbp) (x : Int) {j : Nat} (hj : j < 20) :
    segmentOf h.stations x = j ↔ (j = 0 ∨ h.station j ≤ x) ∧ (j = 19 ∨ x < h.station (j + 1)) := by
  have hrise (i k : Nat) (hik : i ≤ k) : h.station i ≤ h.station k :=
    rdiv_mono (by decide) (Int.mul_le_mul_of_nonneg_right (by omega) hlbp)
  have hcount : segmentOf h.stations x = (List.range 19).countP fun i => decide (h.station (i + 1) ≤ x) := by
    refine List.countP_congr fun i hi => ?_
    rw [hstaged.nth_stations (k := i + 1) (by have := List.mem_range.1 hi; omega)]
  have hlt := lt_countP_range_iff (p := fun i => decide (h.station (i + 1) ≤ x))
    (fun i k hik hk => decide_eq_true ((hrise _ _ (Nat.succ_le_succ hik)).trans (of_decide_eq_true hk))) 19
  rw [← hcount] at hlt
  have hle := segmentOf_le h.stations x
  have haft : j ≤ segmentOf h.stations x ↔ j = 0 ∨ h.station j ≤ x := by
    cases j with
    | zero => simp
    | succ i => simpa using hlt i (by omega)
  have hfwd : segmentOf h.stations x ≤ j ↔ j = 19 ∨ x < h.station (j + 1) := by
    rcases Nat.lt_or_ge j 19 with hj' | hj'
    · have hnot := not_congr (hlt j hj')
      simp only [decide_eq_true_eq, not_lt, not_le] at hnot
      rw [hnot]
      omega
    · omega
  rw [← haft, ← hfwd]
  omega

end

/-! ### The shares of an item (R66 to R68) -/

/-- Of `n` ones in a row, a remainder below `n` takes as many as itself. -/
theorem sum_range_remainder (m : Int) (hm : 0 ≤ m) (n : Nat) :
    ∑ i ∈ Finset.range n, (if (i : Int) < m then (1 : Int) else 0) = min m n := by
  induction n with
  | zero => simpa using hm
  | succ n ih =>
    rw [Finset.sum_range_succ, ih]
    split <;> omega

/-- A spread item's shares add up to its weight (R66). -/
theorem sum_spreadShare (w : Int) {first last : Nat} (hle : first ≤ last) (hlast : last ≤ 19) :
    ∑ j ∈ Finset.range 20, spreadShare w first last j = w := by
  obtain ⟨n, hn⟩ : ∃ n, n = last + 1 - first := ⟨_, rfl⟩
  have hspan : (Finset.range 20).filter (fun j => first ≤ j ∧ j ≤ last) = Finset.Ico first (last + 1) := by
    ext j
    simp only [Finset.mem_filter, Finset.mem_range, Finset.mem_Ico]
    omega
  have hpos : (0 : Int) < n := by omega
  have hnonneg := Int.emod_nonneg w hpos.ne'
  have hlt := Int.emod_lt_of_pos w hpos
  calc ∑ j ∈ Finset.range 20, spreadShare w first last j
      = ∑ j ∈ Finset.Ico first (last + 1), (w / n + if ((j - first : Nat) : Int) < w % n then 1 else 0) := by
        rw [hn, ← hspan, Finset.sum_filter]
        rfl
    _ = ∑ i ∈ Finset.range n, (w / n + if (i : Int) < w % n then 1 else 0) := by
        rw [Finset.sum_Ico_eq_sum_range, ← hn]
        simp only [Nat.add_sub_cancel_left]
    _ = n * (w / n) + w % n := by
        rw [Finset.sum_add_distrib, sum_range_remainder _ hnonneg, min_eq_left hlt.le, Finset.sum_const,
          Finset.card_range, nsmul_eq_mul]
    _ = w := Int.mul_ediv_add_emod w n

/-- An item whose shares reach the segments whole: a spread one over a span of the ship, an arrayed one of the hull's
own weight. -/
def Item.sharedBy (it : Item) (h : Hull) : Prop :=
  match it.reach with
  | .spread first last => first ≤ last ∧ last ≤ 19
  | .point => True
  | .arrayed => it.w = h.weight

theorem Item.sharedBy_of_point {it : Item} (hit : it.reach = .point) (h : Hull) : it.sharedBy h := by
  unfold Item.sharedBy
  rw [hit]
  trivial

/-- What an item gives segment j, its place read from the stations (R66 to R68). -/
def Hull.part (h : Hull) (it : Item) (j : Nat) : Int :=
  match it.reach with
  | .spread first last =>
    let n : Int := (last + 1 - first : Nat)
    if first ≤ j ∧ j ≤ last then it.w / n + (if ((j - first : Nat) : Int) < it.w % n then 1 else 0) else 0
  | .point => if (j = 0 ∨ h.station j ≤ it.pos.x) ∧ (j = 19 ∨ it.pos.x < h.station (j + 1)) then it.w else 0
  | .arrayed => nth h.segments j

theorem Item.share_eq_part {h : Hull} (hstaged : h.staged) (hlbp : 0 ≤ h.lbp) (it : Item) {j : Nat} (hj : j < 20) :
    it.share h j = h.part it j := by
  unfold Item.share Hull.part
  cases it.reach with
  | spread first last => rfl
  | point => simp only [hstaged.segmentOf_eq_iff hlbp _ hj]
  | arrayed => rfl

/-- An item's shares add up to its weight. -/
theorem Item.sum_share {h : Hull} {it : Item} (hlength : h.segments.length = 20) (hweight : sumOf h.segments = h.weight)
    (hit : it.sharedBy h) : ∑ j ∈ Finset.range 20, it.share h j = it.w := by
  unfold Item.sharedBy at hit
  unfold Item.share
  cases hreach : it.reach with
  | spread first last =>
    rw [hreach] at hit
    obtain ⟨hle, hlast⟩ := hit
    exact sum_spreadShare it.w hle hlast
  | point =>
    have hmem : segmentOf h.stations it.pos.x ∈ Finset.range 20 :=
      Finset.mem_range.2 (Nat.lt_succ_of_le (segmentOf_le _ _))
    dsimp only
    rw [Finset.sum_ite_eq, if_pos hmem]
  | arrayed =>
    rw [hreach] at hit
    dsimp only at hit ⊢
    rw [hit, ← hweight, ← sum_nth, hlength]

/-- The weights of the segments. -/
def Hull.weightOn (h : Hull) (items : List Item) (j : Nat) : Int := sumOf (items.map fun it => h.part it j)

theorem segmentWeights_eq {h : Hull} (hstaged : h.staged) (hlbp : 0 ≤ h.lbp) (items : List Item) :
    segmentWeights h items = (List.range 20).map (h.weightOn items) := by
  refine List.map_congr_left fun j hj => congrArg sumOf (List.map_congr_left fun it _ => ?_)
  exact it.share_eq_part hstaged hlbp (List.mem_range.1 hj)

/-- The weights of the segments add up to Δ. -/
theorem sumOf_segmentWeights {h : Hull} (hlength : h.segments.length = 20) (hweight : sumOf h.segments = h.weight)
    {items : List Item} (hitems : ∀ it ∈ items, it.sharedBy h) : sumOf (segmentWeights h items) = dispOf items := by
  unfold segmentWeights dispOf
  rw [sumOf_map_range]
  simp only [sumOf_eq_sum]
  induction items with
  | nil => simp
  | cons it items ih =>
    simp only [List.map_cons, List.sum_cons, Finset.sum_add_distrib]
    rw [Item.sum_share hlength hweight (hitems it (by simp)), ih fun i hi => hitems i (by simp [hi])]

/-! ### The items of the passes (R52 to R57) -/

theorem reach_of_mem_structureItem {t : Tables} {c : Crane} {q : Pos} {it : Item} (hit : it ∈ structureItem t c q) :
    it.reach = .point := by
  unfold structureItem at hit
  split at hit
  · rw [List.mem_singleton.1 hit]
  · cases hit

section
variable {sc : Scene} {t : Tables} {recs : PerCrane LiftRec} {hooks : PerCrane Hook} {structs : PerCrane (Option Pos)}
  {it : Item}

/-- A crane's items are point items (R54). -/
theorem Scene.reach_of_mem_craneItems {c : Crane} (hit : it ∈ sc.craneItems t recs hooks structs c) :
    it.reach = .point := by
  unfold Scene.craneItems at hit
  rcases List.mem_append.1 hit with hload | hplace
  · split at hload
    · rw [List.mem_singleton.1 hload]
      rfl
    · cases hload
  · split at hplace
    · exact reach_of_mem_structureItem hplace
    · cases hplace

/-- The items of a crane adrift are point items (R117). -/
theorem Scene.reach_of_mem_adriftItems {side : Int} {c : Crane} (hit : it ∈ sc.adriftItems t recs hooks side c) :
    it.reach = .point := by
  unfold Scene.adriftItems at hit
  split at hit
  · rcases List.mem_cons.1 hit with rfl | hstructure
    · rfl
    · exact reach_of_mem_structureItem hstructure
  · cases hit

variable {h : Hull} (hwf : t.wf) (hhull : t.hull = some h)

section
include hhull

theorem sharedBy_of_mem_lightship (hit : it ∈ lightship t) : it.sharedBy h := by
  unfold lightship at hit
  rw [hhull] at hit
  rw [List.mem_singleton.1 hit]
  exact (rfl : h.weight = h.weight)

/-- Every item of a test condition with well-formed spans is shared whole (R57). -/
theorem sharedBy_of_mem_testItems {tc : TestCondition}
    (hspans : ∀ i ∈ tc.items, ∀ f l, i.span = some (f, l) → f ≤ l ∧ l ≤ 19) (hit : it ∈ testItems t tc) :
    it.sharedBy h := by
  unfold testItems at hit
  rcases List.mem_append.1 hit with hlight | htest
  · exact sharedBy_of_mem_lightship hhull hlight
  · obtain ⟨i, hi, rfl⟩ := List.mem_map.1 htest
    cases hspan : i.span with
    | none => exact Item.sharedBy_of_point rfl h
    | some span => exact hspans i hi span.1 span.2 hspan

end

include hwf

/-- The span at every address is a span of the ship (R7). -/
theorem Tables.span_wf (a : Nat) : (t.span a).1 ≤ (t.span a).2 ∧ (t.span a).2 ≤ 19 := by
  obtain ⟨-, -, -, -, hcomps, -, -⟩ := hwf
  unfold Tables.span
  cases hcomp : t.comp a with
  | none => decide
  | some e =>
    obtain ⟨entry, hentry, rfl⟩ := Option.map_eq_some_iff.1 hcomp
    obtain ⟨-, -, -, hle, hlast, -⟩ := hcomps entry (List.mem_of_find?_eq_some hentry)
    exact ⟨hle, hlast⟩

theorem sharedBy_spreadItem (a : Nat) (w : Int) (q : Pos) : (spreadItem t a w q).sharedBy h := Tables.span_wf hwf a

include hhull

/-- The items that no hook places are shared whole (R52, R53, R66 to R68). -/
theorem Scene.sharedBy_of_mem_fixed (hhung : ∀ i ∈ sc.hung, i.reach = .point) (hit : it ∈ sc.fixed t) :
    it.sharedBy h := by
  unfold Scene.fixed at hit
  simp only [List.mem_append, List.mem_map, List.mem_flatMap] at hit
  obtain ((((hlight | ⟨l, -, rfl⟩) | ⟨e, -, htank⟩) | ⟨e, -, rfl⟩) | ⟨f, -, rfl⟩) | hhang := hit
  · exact sharedBy_of_mem_lightship hhull hlight
  · exact sharedBy_spreadItem hwf _ _ _
  · unfold tankItem at htank
    split at htank
    · rw [List.mem_singleton.1 htank]
      exact sharedBy_spreadItem hwf _ _ _
    · cases htank
  · exact sharedBy_spreadItem hwf _ _ _
  · exact Item.sharedBy_of_point rfl h
  · exact Item.sharedBy_of_point (hhung it hhang) h

/-- Every item of an image is shared whole. -/
theorem Scene.sharedBy_of_mem_items (hhung : ∀ i ∈ sc.hung, i.reach = .point)
    (hit : it ∈ sc.items t recs hooks structs) : it.sharedBy h := by
  unfold Scene.items Scene.rest at hit
  simp only [List.mem_append, List.mem_flatMap] at hit
  obtain (hfixed | ⟨c, -, hcrane⟩) | ⟨c, -, hadrift⟩ := hit
  · exact Scene.sharedBy_of_mem_fixed hwf hhull hhung hfixed
  · exact Item.sharedBy_of_point (Scene.reach_of_mem_craneItems hcrane) h
  · exact Item.sharedBy_of_point (Scene.reach_of_mem_adriftItems hadrift) h

end

/-! ### The nearest row and the buoyancies (R69, R70) -/

/-- A row comes before another: nearer to a displacement, or as near and not above it (R69). -/
def HydroRow.comesBefore (a b : HydroRow) (disp : Int) : Prop :=
  mag (disp - a.disp) < mag (disp - b.disp) ∨ (mag (disp - a.disp) = mag (disp - b.disp) ∧ a.disp ≤ b.disp)

theorem HydroRow.comesBefore.trans {a b c : HydroRow} {disp : Int} (hab : a.comesBefore b disp)
    (hbc : b.comesBefore c disp) : a.comesBefore c disp := by
  unfold HydroRow.comesBefore at *
  omega

/-- The nearest of rising rows is one of them that comes before every other. -/
theorem nearestRow_spec (disp : Int) (best : HydroRow) (rest : List HydroRow)
    (hrise : ((best :: rest).map HydroRow.disp).Pairwise (· < ·)) :
    nearestRow disp best rest ∈ best :: rest ∧
      ∀ x ∈ best :: rest, (nearestRow disp best rest).comesBefore x disp := by
  induction rest generalizing best with
  | nil =>
    refine ⟨List.mem_singleton_self _, fun x hx => ?_⟩
    rw [List.mem_singleton.1 hx]
    exact .inr ⟨rfl, le_rfl⟩
  | cons r rest ih =>
    simp only [List.map_cons, List.pairwise_cons, List.mem_cons, forall_eq_or_imp] at hrise
    obtain ⟨⟨hbest, hbests⟩, hr, hrest⟩ := hrise
    unfold nearestRow
    split
    next hnear =>
      obtain ⟨hmem, hbefore⟩ := ih r (List.pairwise_cons.2 ⟨hr, hrest⟩)
      refine ⟨List.mem_cons_of_mem _ hmem, fun x hx => ?_⟩
      rcases List.mem_cons.1 hx with rfl | hx
      · exact (hbefore r (by simp)).trans (.inl hnear)
      · exact hbefore x hx
    next hfar =>
      obtain ⟨hmem, hbefore⟩ := ih best (List.pairwise_cons.2 ⟨hbests, hrest⟩)
      refine ⟨?_, fun x hx => ?_⟩
      · rcases List.mem_cons.1 hmem with hmem | hmem <;> simp [hmem]
      · rcases List.mem_cons.1 hx with rfl | hx
        · exact hbefore x (by simp)
        · rcases List.mem_cons.1 hx with rfl | hx
          · refine (hbefore best (by simp)).trans ?_
            unfold HydroRow.comesBefore
            omega
          · exact hbefore x (by simp [hx])

/-- The buoyancy of a segment: floored, the last taking what is left (R70). -/
def segmentBuoyancy (disp : Int) (shares : List Int) (j : Nat) : Int :=
  if j < 19 then disp * nth shares j / 1000
  else disp - sumOf ((List.range 19).map fun i => disp * nth shares i / 1000)

theorem buoyancies_eq (disp : Int) (shares : List Int) :
    buoyancies disp shares = (List.range 20).map (segmentBuoyancy disp shares) := by
  rw [List.range_succ, List.map_append]
  refine congrArg₂ (· ++ ·) (List.map_congr_left fun j hj => ?_) rfl
  exact (if_pos (List.mem_range.1 hj)).symm

/-- The buoyancies add up to Δ. -/
theorem sumOf_buoyancies (disp : Int) (shares : List Int) : sumOf (buoyancies disp shares) = disp := by
  unfold buoyancies
  rw [sumOf_append, sumOf_singleton]
  omega

/-! ### Shear force and bending moment (R71, R72) -/

/-- The net loads, segment by segment. -/
theorem netLoads_map_range (b w : Nat → Int) :
    netLoads ((List.range 20).map b) ((List.range 20).map w) = (List.range 20).map fun j => b j - w j := by
  refine List.map_congr_left fun j hj => ?_
  rw [nth_map_range b (List.mem_range.1 hj), nth_map_range w (List.mem_range.1 hj)]

/-- The shear force is the sum of the net loads aft (R71). -/
theorem shearAt_map_range (n : Nat → Int) {k : Nat} (hk : k ≤ 20) :
    shearAt ((List.range 20).map n) k = sumOf ((List.range k).map n) := by
  unfold shearAt
  rw [← List.map_take, List.take_range, min_eq_left hk]

/-- The raw moment sums the net loads aft, each with its lever (R72). -/
theorem rawMoment_map_range {h : Hull} (hstaged : h.staged) (n : Nat → Int) {k : Nat} (hk : k ≤ 20) :
    rawMoment h ((List.range 20).map n) k =
      sumOf ((List.range k).map fun j => n j * (h.station k - h.middle j)) := by
  refine congrArg sumOf (List.map_congr_left fun j hj => ?_)
  have hj' : j < 20 := by have := List.mem_range.1 hj; omega
  rw [nth_map_range n hj', hstaged.nth_stations hk, hstaged.nth_mids hj']

/-- The closing error is spread so that no moment is left at either end (R72). -/
theorem momentAt_ends (h : Hull) (net : List Int) : momentAt h net 0 = 0 ∧ momentAt h net 20 = 0 := by
  constructor
  · show 0 - rdiv (rawMoment h net 20 * 0) 20 = 0
    rw [Int.mul_zero]
    decide
  · show rawMoment h net 20 - rdiv (rawMoment h net 20 * 20) 20 = 0
    rw [rdiv_mul_twenty]
    omega

/-! ### Utilisation and the worst stations (R74 to R76) -/

theorem allowableAt_of_getElem? {l : List Allowable} {k : Nat} {a : Allowable} (h : l[k]? = some a) :
    allowableAt l k = a := by
  rw [allowableAt, List.getD_eq_getElem?_getD, h]
  rfl

theorem innerStation_iff (k : Nat) : innerStation k = true ↔ 1 ≤ k ∧ k ≤ 19 := decide_eq_true_iff

theorem innerStation_ends {k : Nat} (hk : k = 0 ∨ k = 20) : ¬ innerStation k = true := by
  rw [innerStation_iff]
  omega

theorem shearPm_inner {l : List Allowable} {k : Nat} {a : Allowable} (hk : 1 ≤ k ∧ k ≤ 19) (ha : l[k]? = some a)
    (sf : Int) : shearPm l sf k = min 9999 (mag sf * 1000 / a.sf) := by
  rw [shearPm, if_pos ((innerStation_iff k).2 hk), allowableAt_of_getElem? ha]
  rfl

theorem bendingPm_inner {l : List Allowable} {k : Nat} {a : Allowable} (hk : 1 ≤ k ∧ k ≤ 19) (ha : l[k]? = some a)
    (bm : Int) : bendingPm l bm k = min 9999 (mag bm * 1000 / ((if 0 ≤ bm then a.hog else a.sag) * 10000)) := by
  rw [bendingPm, if_pos ((innerStation_iff k).2 hk), allowableAt_of_getElem? ha]
  rfl

/-- A station of the highest value, the lowest of them on a tie (R76). -/
def isWorst (l : List Int) (best : Nat × Int) : Prop :=
  best.1 < l.length ∧ nth l best.1 = best.2 ∧ (∀ j, j < l.length → nth l j ≤ best.2) ∧
    ∀ j, j < best.1 → nth l j < best.2

/-- One more station takes over only with a higher value. -/
theorem isWorst_concat {l : List Int} {best : Nat × Int} (h : isWorst l best) (v : Int) :
    isWorst (l ++ [v]) (if best.2 < v then (l.length, v) else best) := by
  obtain ⟨hlt, hat, hall, hbelow⟩ := h
  have hlength : (l ++ [v]).length = l.length + 1 := by simp
  have hbound {x : Int} (hx : best.2 ≤ x) (hv : v ≤ x) (j : Nat) (hj : j < (l ++ [v]).length) :
      nth (l ++ [v]) j ≤ x := by
    rcases Nat.lt_or_ge j l.length with hjl | hjl
    · rw [nth_append_left hjl]
      exact (hall j hjl).trans hx
    · obtain rfl : j = l.length := by omega
      rwa [nth_append_length]
  split
  next hover =>
    refine ⟨by omega, nth_append_length l v, hbound hover.le le_rfl, fun j hj => ?_⟩
    rw [nth_append_left hj]
    exact (hall j hj).trans_lt hover
  next hnot =>
    refine ⟨by omega, ?_, hbound le_rfl (by omega), fun j hj => ?_⟩
    · rwa [nth_append_left hlt]
    · rw [nth_append_left (hj.trans hlt)]
      exact hbelow j hj

theorem isWorst_worstFrom (rest : List Int) {seen : List Int} {best : Nat × Int} (h : isWorst seen best) :
    isWorst (seen ++ rest) (worstFrom best seen.length rest) := by
  induction rest generalizing seen best with
  | nil => rwa [List.append_nil]
  | cons v rest ih =>
    have hnext := ih (isWorst_concat h v)
    rwa [List.append_assoc, List.length_append, List.length_singleton] at hnext

theorem isWorst_worstOf {l : List Int} (hl : l ≠ []) : isWorst l (worstOf l) := by
  cases l with
  | nil => exact absurd rfl hl
  | cons v rest =>
    refine isWorst_worstFrom rest (seen := [v]) ⟨Nat.one_pos, rfl, fun j hj => ?_, nofun⟩
    obtain rfl : j = 0 := Nat.lt_one_iff.1 hj
    exact le_rfl

/-- The worst of the 21 stations. -/
theorem worstOf_stations (pm : Nat → Int) :
    let l := (List.range 21).map pm
    (worstOf l).1 ≤ 20 ∧ nth l (worstOf l).1 = (worstOf l).2 ∧ (∀ j, j ≤ 20 → nth l j ≤ (worstOf l).2) ∧
      ∀ j, j < (worstOf l).1 → nth l j < (worstOf l).2 := by
  intro l
  have hlength : l.length = 21 := by simp [l]
  obtain ⟨hlt, hat, hall, hbelow⟩ := isWorst_worstOf (l := l) (List.ne_nil_of_length_pos (by omega))
  exact ⟨by omega, hat, fun j hj => hall j (by omega), hbelow⟩

/-! ### A pass (R71 to R76) -/

/-- A pass over an image or a test condition gives the strength of its items, each shared whole. -/
theorem strength_of_pass {tb : Tables} {img : Image} {h : Hull} {rows : List HydroRow} {st : StrengthTable}
    {items : List Item} {r : Result} (hwf : tb.wf) (hhull : tb.hull = some h) (hhydro : tb.hydro = some rows)
    (hst : tb.strength = some st)
    (hpass : (∃ candidate sc, passOver tb img candidate sc = some r ∧ (∀ it ∈ sc.hung, it.reach = .point) ∧
        items = sc.items tb img.recs img.hooks img.table.structs) ∨
      ∃ tc, testPass tb img tc = some r ∧ (∀ it ∈ tc.items, ∀ f l, it.span = some (f, l) → f ≤ l ∧ l ≤ 19) ∧
        items = testItems tb tc) :
    r.disp = dispOf items ∧ r.strength = strengthOf h rows st img.strength r.disp items ∧
      ∀ it ∈ items, it.sharedBy h := by
  obtain ⟨candidate, sc, hr, hhung, rfl⟩ | ⟨tc, hr, hspans, rfl⟩ := hpass
  · unfold passOver at hr
    rw [hhull, hhydro, hst] at hr
    cases hr
    exact ⟨rfl, rfl, fun it hit => Scene.sharedBy_of_mem_items hwf hhull hhung hit⟩
  · unfold testPass at hr
    rw [hhull, hhydro, hst] at hr
    cases hr
    exact ⟨rfl, rfl, fun it hit => sharedBy_of_mem_testItems hhull hspans hit⟩

/-- The strength fields that net loads give (R71 to R76). -/
def Strength.ofNet (h : Hull) (l : List Allowable) (set : StrengthSet) (net : List Int) : Strength :=
  let sf := (List.range 21).map (shearAt net)
  let bm := (List.range 21).map (momentAt h net)
  let sfPm := (List.range 21).map fun k => shearPm l (nth sf k) k
  let bmPm := (List.range 21).map fun k => bendingPm l (nth bm k) k
  ⟨sf, bm, sfPm, bmPm, (worstOf sfPm).1, (worstOf sfPm).2, (worstOf bmPm).1, (worstOf bmPm).2, set⟩

section
variable (h : Hull) (l : List Allowable) (set : StrengthSet) (net : List Int) {k : Nat} (hk : k ≤ 20)
include hk

theorem Strength.nth_ofNet_sf : nth (Strength.ofNet h l set net).sf k = shearAt net k := nth_map_range _ (by omega)

theorem Strength.nth_ofNet_bm : nth (Strength.ofNet h l set net).bm k = momentAt h net k := nth_map_range _ (by omega)

theorem Strength.nth_ofNet_sfPm :
    nth (Strength.ofNet h l set net).sfPm k = shearPm l (nth (Strength.ofNet h l set net).sf k) k :=
  nth_map_range (fun k => shearPm l (nth (Strength.ofNet h l set net).sf k) k) (by omega)

theorem Strength.nth_ofNet_bmPm :
    nth (Strength.ofNet h l set net).bmPm k = bendingPm l (nth (Strength.ofNet h l set net).bm k) k :=
  nth_map_range (fun k => bendingPm l (nth (Strength.ofNet h l set net).bm k) k) (by omega)

end

/-- The net loads are the buoyancies by the row that comes before every other (R69) less the weights of the segments. -/
theorem strengthOf_eq {h : Hull} (hstaged : h.staged) (hlbp : 0 ≤ h.lbp) {rows : List HydroRow} (hrows : rows ≠ [])
    (hrise : (rows.map HydroRow.disp).Pairwise (· < ·)) (st : StrengthTable) (set : StrengthSet) (disp : Int)
    (items : List Item) : ∃ row ∈ rows, (∀ x ∈ rows, row.comesBefore x disp) ∧
      strengthOf h rows st set disp items = .ofNet h (st.of set) set
        ((List.range 20).map fun j => segmentBuoyancy disp row.shares j - h.weightOn items j) := by
  cases rows with
  | nil => exact absurd rfl hrows
  | cons first rest =>
    obtain ⟨hmem, hbefore⟩ := nearestRow_spec disp first rest hrise
    refine ⟨_, hmem, hbefore, ?_⟩
    unfold strengthOf
    dsimp only
    rw [buoyancies_eq, segmentWeights_eq hstaged hlbp, netLoads_map_range]
    rfl

/-- Settles O60: the items' shares and the buoyancies add up to Δ, and each figure of the strength follows. -/
theorem strengthFollowsTheLoads : Obligations.StrengthFollowsTheLoads := by
  intro tb img h rows st items r hwf hhull hhydro hst hpass station middle part w
  obtain ⟨hdisp, hstrength, hshared⟩ := strength_of_pass hwf hhull hhydro hst hpass
  obtain ⟨hhullWf, hhydroWf, -⟩ := hwf
  obtain ⟨hlength, hweight, hlow, -, hstaged⟩ := hhullWf h hhull
  obtain ⟨hcount, -, hrise, -⟩ := hhydroWf rows hhydro
  have hlbp : 0 ≤ h.lbp := by omega
  obtain ⟨row, hrow, hbefore, hnet⟩ := strengthOf_eq hstaged hlbp (List.ne_nil_of_length_pos (by omega)) hrise st
    img.strength r.disp items
  refine ⟨row, hrow, hbefore, ?_⟩
  rw [hstrength, hnet]
  intro share b raw sf bm worst
  have hsumW : sumOf ((List.range 20).map w) = r.disp :=
    calc sumOf ((List.range 20).map w) = sumOf (segmentWeights h items) :=
          congrArg sumOf (segmentWeights_eq hstaged hlbp items).symm
      _ = r.disp := (sumOf_segmentWeights hlength hweight hshared).trans hdisp.symm
  have hsumB : sumOf ((List.range 20).map b) = r.disp :=
    calc sumOf ((List.range 20).map b) = sumOf (buoyancies r.disp row.shares) :=
          congrArg sumOf (buoyancies_eq r.disp row.shares).symm
      _ = r.disp := sumOf_buoyancies r.disp row.shares
  have hclosed : sumOf ((List.range 20).map fun j => b j - w j) = 0 := by
    rw [sumOf_map_range] at hsumW hsumB ⊢
    rw [Finset.sum_sub_distrib, hsumW, hsumB, Int.sub_self]
  have hsf (k : Nat) (hk : k ≤ 20) : sf k = sumOf ((List.range k).map fun j => b j - w j) :=
    (Strength.nth_ofNet_sf _ _ _ _ hk).trans (shearAt_map_range _ hk)
  have hbm (k : Nat) (hk : k ≤ 20) : bm k = momentAt h ((List.range 20).map fun j => b j - w j) k :=
    Strength.nth_ofNet_bm _ _ _ _ hk
  have hraw (k : Nat) (hk : k ≤ 20) : rawMoment h ((List.range 20).map fun j => b j - w j) k = raw k :=
    rawMoment_map_range hstaged _ hk
  obtain ⟨hbmAft, hbmFwd⟩ := momentAt_ends h ((List.range 20).map fun j => b j - w j)
  refine ⟨hsumW, hsumB, by simp [Strength.ofNet], by simp [Strength.ofNet], fun k hk => ⟨hsf k hk, ?_⟩,
    hsf 0 (by omega), (hsf 20 le_rfl).trans hclosed, (hbm 0 (by omega)).trans hbmAft, (hbm 20 le_rfl).trans hbmFwd,
    rfl, by simp [Strength.ofNet], by simp [Strength.ofNet], fun k a haft hfwd ha => ⟨?_, ?_⟩,
    fun k hend => ⟨?_, ?_⟩, worstOf_stations _, worstOf_stations _⟩
  · rw [hbm k hk, momentAt, hraw k hk, hraw 20 le_rfl]
    rfl
  · exact (Strength.nth_ofNet_sfPm _ _ _ _ (by omega)).trans (shearPm_inner ⟨haft, hfwd⟩ ha _)
  · exact (Strength.nth_ofNet_bmPm _ _ _ _ (by omega)).trans (bendingPm_inner ⟨haft, hfwd⟩ ha _)
  · exact (Strength.nth_ofNet_sfPm _ _ _ _ (by omega)).trans (if_neg (innerStation_ends hend))
  · exact (Strength.nth_ofNet_bmPm _ _ _ _ (by omega)).trans (if_neg (innerStation_ends hend))

end Sys2Proof.Machine
end

section
/-!
The ends of a request or permit without a lift: LIFT_CANCEL and RESERVATION_EXPIRY (R92, R93, R106); and the end of a
tank's hold (R130).
-/

namespace Sys2Proof.Machine

set_option Elab.async false

/-! ### A lift frame at a crane's port (R106, R174) -/

/-- PORT_PAIRED on a paired upper port, whatever the frame would do (R106). -/
theorem serveLift_paired {s : State} {c : Crane} {k : Byte} {p : List Byte}
    {handle : List Byte → State → State × Reply} (h : s.takesAt c k p) (hl : lengthOk k p = true)
    (hu : s.upperPaired c = true) : serveLift c k handle s = s.replied (portOf c) (.refused k .portPaired) := by
  have hc : ¬ ((s.pull (portOf c)).tables.crane c).isNone = true := by
    simpa [Option.isSome_iff_ne_none] using h.2
  have hu' : (s.pull (portOf c)).upperPaired c = true := hu
  unfold serveLift serveCrane
  exact serve_answers h.1 hl ((if_neg hc).trans (if_pos hu'))

/-- A lift frame answered at a port that is no paired upper one, its handling making `u` of the state. -/
theorem serveLift_answers {s u : State} {c : Crane} {k : Byte} {p : List Byte} {m : OutMsg}
    {handle : List Byte → State → State × Reply} (h : s.takesAt c k p) (hl : lengthOk k p = true)
    (hu : s.upperPaired c = false) (hm : handle p (s.pull (portOf c)) = (u.pull (portOf c), .say m)) :
    serveLift c k handle s = u.replied (portOf c) m := by
  unfold serveLift serveCrane
  exact serve_answers h.1 hl (liftHandled h.2 hu hm)

/-! ### LIFT_CANCEL (R93) -/

/-- The LCU after a request or permit ends without a message: the request leaves the queue, the discard mark being set
when it is under evaluation (R85, R93, R94, R96). -/
def Lcu.dropped (u : Lcu) (c : Crane) : Lcu :=
  match u.recs.get c with
  | .pending _ _ => { u with
      recs := u.recs.set c .idle
      queue := u.queue.erase c
      inHand := u.inHand.map fun (h : Crane × Bool) => if h.1 = c then (c, true) else h }
  | .granted _ _ _ _ => { u with recs := u.recs.set c .idle }
  | _ => u

theorem State.dropRequest_eq (s : State) (c : Crane) : s.dropRequest c = s.withCtLcu s.ct (s.lcu.dropped c) := by
  have hmark : (fun h : Crane × Bool => if h.1 = c then (h.1, true) else h) =
      fun h => if h.1 = c then (c, true) else h :=
    funext fun h => by by_cases hc : h.1 = c <;> simp [hc]
  unfold State.dropRequest State.leaveQueue State.lift Lcu.dropped
  rw [hmark]
  cases s.lcu.recs.get c <;> rfl

theorem Lcu.dropped_recs (u : Lcu) (c k : Crane) : (u.dropped c).recs.get k =
    if k = c then (match u.recs.get c with
      | .pending _ _ | .granted _ _ _ _ => .idle
      | r => r)
    else u.recs.get k := by
  unfold Lcu.dropped
  cases hrec : u.recs.get c <;> by_cases hk : k = c <;> simp [hk, hrec]

theorem Lcu.dropped_queue (u : Lcu) (c : Crane) :
    (u.dropped c).queue = if (u.recs.get c).isPending = true then u.queue.erase c else u.queue := by
  unfold Lcu.dropped
  cases hrec : u.recs.get c <;> simp [LiftRec.isPending]

theorem Lcu.dropped_inHand (u : Lcu) (c : Crane) : (u.dropped c).inHand =
    if (u.recs.get c).isPending = true then
      u.inHand.map fun (h : Crane × Bool) => if h.1 = c then (c, true) else h
    else u.inHand := by
  unfold Lcu.dropped
  cases hrec : u.recs.get c <;> simp [LiftRec.isPending]

theorem Lcu.dropped_rest (u : Lcu) (c : Crane) : u.dropped c = { u with
    recs := (u.dropped c).recs
    queue := (u.dropped c).queue
    inHand := (u.dropped c).inHand } := by
  unfold Lcu.dropped
  split <;> rfl

@[simp] theorem Lcu.dropped_hooks (u : Lcu) (c : Crane) : (u.dropped c).hooks = u.hooks := by
  rw [Lcu.dropped_rest]

/-- Any other record stays. -/
theorem Lcu.dropped_of_none {u : Lcu} {c : Crane} (hpending : (u.recs.get c).isPending = false)
    (hgranted : (u.recs.get c).permit = none) : u.dropped c = u := by
  unfold Lcu.dropped
  cases hrec : u.recs.get c <;> simp [hrec, LiftRec.isPending, LiftRec.permit] at hpending hgranted ⊢

/-- Settles O43: PORT_PAIRED, or the record's state decides. -/
theorem cancelEndsARequestOrPermit : Obligations.CancelEndsARequestOrPermit := by
  intro s c n hn ht
  have hlen : lengthOk kLiftCancel (octetsN 1 n) = true := by simp [lengthOk, fixedLength]
  have hexec : exec (.liftCancel c) s = .next (serveLift c kLiftCancel (liftCancelReply c) s) := rfl
  have hfield : field (octetsN 1 n) 0 1 = n := field_octetsN 1 n hn
  rw [hexec]
  by_cases hpaired : (isUpper c && s.lcu.paired c) = true
  · rw [if_pos hpaired, serveLift_paired ht hlen hpaired]
  rw [if_neg hpaired]
  have hu : s.upperPaired c = false := Bool.eq_false_iff.2 hpaired
  have hlift : (s.pull (portOf c)).lift c = s.lift c := rfl
  congr 1
  cases hrec : s.lift c with
  | pending r attempts =>
    have hdropped : (s.pull (portOf c)).lcu.dropped c = { s.lcu with
        recs := s.lcu.recs.set c .idle
        queue := s.lcu.queue.erase c
        inHand := s.lcu.inHand.map fun (h : Crane × Bool) => if h.1 = c then (c, true) else h } := by
      have hrec' : (s.pull (portOf c)).lcu.recs.get c = .pending r attempts := hrec
      unfold Lcu.dropped
      rw [hrec']
      rfl
    refine serveLift_answers ht hlen hu ?_
    rw [liftCancelReply, State.dropRequest_eq, hlift, hrec, hdropped]
    rfl
  | granted r m slot deadline =>
    have hdropped : (s.pull (portOf c)).lcu.dropped c = { s.lcu with recs := s.lcu.recs.set c .idle } := by
      have hrec' : (s.pull (portOf c)).lcu.recs.get c = .granted r m slot deadline := hrec
      unfold Lcu.dropped
      rw [hrec']
      rfl
    dsimp only
    split
    next hm =>
      refine serveLift_answers ht hlen hu ?_
      rw [liftCancelReply, State.dropRequest_eq, hlift, hrec, hdropped]
      dsimp only
      rw [hfield, if_pos hm]
      rfl
    next hm =>
      refine serveLift_answers ht hlen hu ?_
      rw [liftCancelReply, hlift, hrec]
      dsimp only
      rw [hfield, if_neg hm]
      rfl
  | _ =>
    refine serveLift_answers ht hlen hu ?_
    rw [liftCancelReply, hlift, hrec]
    rfl

/-! ### The two deadlines (R92, R130) -/

/-- Settles O44: with no timer running there is no event; at its deadline the reservation ends, or SENSOR_LOST is
raised. -/
theorem reservationAndHoldEndAtTheirDeadlines : Obligations.ReservationAndHoldEndAtTheirDeadlines := by
  refine ⟨fun s c => ?_, fun s a => ⟨fun h => ?_, fun deadline h => ?_⟩⟩
  · show Host.Outcome.next _ = _
    cases s.lift c <;> rfl
  · show Host.Outcome.next _ = _
    rw [h]
  · refine ⟨_, rfl, ?_, ?_⟩
    · rw [h, State.mem_held_raise]
      exact .inr rfl
    · rw [h]
      rfl

end Sys2Proof.Machine
end

section
/-!
LIFT_REQUEST (R82 to R85, R107, R108): its payload read back, its eleven checks in their order, and the record that an
accepted request makes.
-/

namespace Sys2Proof.Machine

set_option Elab.async false

/-! ### The payload (R82, R107, R179) -/

/-- What a LIFT_REQUEST carries: without the tandem flag, none of the fields that only a tandem request has. -/
def LiftAsk.carried (a : LiftAsk) : LiftAsk :=
  if a.flag = 1 then a else { a with permille := 0, matePickup := ⟨0, 0⟩, mateSetDown := ⟨0, 0⟩ }

theorem LiftAsk.carried_tandem (a : LiftAsk) : a.carried.tandem = (a.flag == 1) := by
  unfold LiftAsk.carried
  split <;> rfl

/-- The fields before the tandem ones are carried always. -/
theorem LiftAsk.carried_eq (a : LiftAsk) : a.carried =
    { a with
      permille := a.carried.permille
      matePickup := a.carried.matePickup
      mateSetDown := a.carried.mateSetDown } := by
  unfold LiftAsk.carried
  split <;> rfl

theorem LiftAsk.payload_flag {a : LiftAsk} (h : a.onWire) : field a.payload 26 1 = a.flag := by
  obtain ⟨-, -, -, -, -, -, -, -, -, hflag, -⟩ := h
  simp [LiftAsk.payload, field_append_right, field_octetsN_append, hflag]

theorem LiftAsk.payload_length (a : LiftAsk) : a.payload.length = if a.flag = 1 then 41 else 27 := by
  unfold LiftAsk.payload
  split <;> simp

theorem LiftAsk.payload_lengthOk {a : LiftAsk} (h : a.onWire) : lengthOk kLiftRequest a.payload = true := by
  have hlength := a.payload_length
  unfold lengthOk
  rw [if_pos rfl, LiftAsk.payload_flag h, hlength]
  by_cases hflag : a.flag = 1 <;> simp [hflag]

/-- Past the end of a payload there is nothing to read. -/
theorem field_of_length_le {p : List Byte} {off : Nat} (h : p.length ≤ off) (n : Nat) : field p off n = 0 := by
  simp [field, List.drop_eq_nil_of_le h]

theorem fieldPt_of_length_le {p : List Byte} {off : Nat} (h : p.length ≤ off) : fieldPt p off = ⟨0, 0⟩ := by
  unfold fieldPt fieldS fieldU
  rw [field_of_length_le h, field_of_length_le (by omega)]
  rfl

/-- A LIFT_REQUEST reads back what it carries. -/
theorem liftAsk_payload {a : LiftAsk} (h : a.onWire) : liftAsk a.payload = a.carried := by
  obtain ⟨hlot, hweight, horigin, hdest, hpickup, hdown, hside, hout, hsusp, hflag, hpermille, hmate, hmateDown⟩ := h
  unfold liftAsk LiftAsk.carried LiftAsk.payload
  by_cases htandem : a.flag = 1
  · simp [htandem, field_append_right, fieldU_append_right, fieldPt_append_right, field_octetsN_append, hlot, horigin,
      hdest, hside, hpermille, fieldU_octets _ _ hweight, fieldU_octets _ _ hout, fieldU_octets _ _ hsusp,
      fieldPt_ptOctets _ _ hpickup, fieldPt_ptOctets _ _ hdown, fieldPt_ptOctets _ _ hmate,
      fieldPt_ptOctets_end _ hmateDown]
    rw [← htandem]
  · simp [htandem, field_append_right, fieldU_append_right, fieldPt_append_right, field_octetsN_append, hlot, horigin,
      hdest, hside, fieldU_octets _ _ hweight, fieldU_octets _ _ hout, fieldU_octets _ _ hsusp,
      fieldPt_ptOctets _ _ hpickup, fieldPt_ptOctets _ _ hdown, field_octetsN 1 a.flag hflag, field_of_length_le,
      fieldPt_of_length_le]

/-! ### The checks (R83, R107) -/

/-- Check 6 (R82, R107). -/
theorem LiftAsk.inRange_carried {a : LiftAsk} (h : a.onWire) : a.carried.inRange = false ↔ a.outOfRange := by
  obtain ⟨-, -, horigin, hdest, -, -, -, hout, hsusp, -⟩ := h
  have hadmits {o : Nat} (ho : o < 256) : notAddress o = false ↔ (128 ≤ o → o = 254) := by
    rw [notAddress_eq ho, decide_eq_false_iff_not]
    omega
  rw [← not_iff_not, Bool.not_eq_false]
  unfold LiftAsk.inRange LiftAsk.outOfRange
  rw [LiftAsk.carried_tandem]
  unfold LiftAsk.carried
  by_cases htandem : a.flag = 1
  · simp [htandem, hadmits horigin, hadmits hdest, lotWeight, within, hout.1, hsusp.1, and_assoc,
      Nat.one_le_iff_ne_zero]
  · simp [htandem, hadmits horigin, hadmits hdest, lotWeight, within, hout.1, hsusp.1, and_assoc]

/-- Check 7 (R83): an end is QUAY or a defined CARGO space. -/
theorem Tables.isEnd_liftEnd (t : Tables) (o : Nat) : t.isEnd (liftEnd o) = false ↔ o ≠ 254 ∧ t.cargo o = none := by
  unfold liftEnd
  by_cases h : o = 254 <;> simp [h, Tables.isEnd]

/-- Check 8 (R83). -/
theorem State.lotCode_liftEnd (s : State) (n o : Nat) : s.lotCode n (liftEnd o) =
    if o = 254 ∧ (s.ct.lot n ≠ none ∨ s.liftNames n = true) then some .duplicateLot
    else if o ≠ 254 ∧ (s.ct.lot n).map Lot.loc ≠ some o then some .noSuchLot else none := by
  unfold liftEnd
  by_cases h : o = 254
  · simp [h, State.lotCode, Option.isSome_iff_ne_none]
  · cases hl : s.ct.lot n with
    | none => simp [h, State.lotCode, hl]
    | some l => by_cases hloc : l.loc = o <;> simp [h, State.lotCode, hl, hloc]

/-- The evaluated weight (R84). -/
theorem State.evaluated_eq (s : State) (a : LiftAsk) : s.evaluated a = match s.ct.lot a.lot with
    | some l => if a.origin = 254 then a.weight else max a.weight l.weight
    | none => a.weight := by
  unfold State.evaluated liftEnd
  cases s.ct.lot a.lot <;> by_cases h : a.origin = 254 <;> simp [h]

theorem LiftAsk.carried_evaluated (s : State) (a : LiftAsk) : s.evaluated a.carried = s.evaluated a := by
  rw [State.evaluated_eq, State.evaluated_eq, LiftAsk.carried_eq]

/-- Check 9 (R83, R107, assumption 18). -/
theorem State.overSwl_eq {s : State} {c : Crane} {d : CraneDef} (hd : s.tables.crane c = some d) (a : LiftAsk)
    (w : Int) :
    s.overSwl c (a.carried.shares w) w =
      if a.flag == 1 then
        decide (d.swl < rdiv (w * a.permille) 1000) ||
          (s.tables.crane (mate c)).any fun k => decide (k.swl < w - rdiv (w * a.permille) 1000)
      else decide (d.swl < w) := by
  unfold State.overSwl LiftAsk.shares
  rw [LiftAsk.carried_tandem]
  by_cases htandem : a.flag = 1
  · have hcarried : a.carried = a := if_pos htandem
    rw [hcarried]
    cases hm : s.tables.crane (mate c) <;> simp [htandem, sharesOf, hd, hm]
  · simp [htandem, hd]

/-- A point beyond the maximum outreach of a crane (R3). -/
def CraneDef.beyond (k : CraneDef) (q : Pt) : Bool :=
  decide (k.outreach * k.outreach < (q.x - k.px) * (q.x - k.px) + (q.y - k.py) * (q.y - k.py))

theorem CraneDef.not_reaches (k : CraneDef) (q : Pt) : (!k.reaches q) = k.beyond q := by
  unfold CraneDef.reaches CraneDef.beyond CraneDef.distSq
  rw [← decide_not]
  exact decide_eq_decide.2 Int.not_le

/-- Check 10 for one crane (R3, R83); an undefined one passes (assumption 18). -/
theorem State.not_reaches (s : State) (c : Crane) (pickup setDown : Pt) (out : Int) :
    (!s.reaches c pickup setDown out) = (s.tables.crane c).any fun k =>
      k.beyond pickup || k.beyond setDown || decide (k.outreach < out) := by
  unfold State.reaches
  cases s.tables.crane c with
  | none => rfl
  | some k =>
    have hout : (!decide (out ≤ k.outreach)) = decide (k.outreach < out) := by
      rw [← decide_not]
      exact decide_eq_decide.2 Int.not_le
    simp only [Bool.not_and, CraneDef.not_reaches, hout, Option.any_some]

/-- Check 10 (R83, R107). -/
theorem State.inReach_eq {s : State} {c : Crane} {d : CraneDef} (hd : s.tables.crane c = some d) (a : LiftAsk) :
    (!s.inReach c a.carried) = (d.beyond a.pickup || d.beyond a.setDown || decide (d.outreach < a.out) ||
      (a.flag == 1 && (s.tables.crane (mate c)).any fun k =>
        k.beyond a.matePickup || k.beyond a.mateSetDown || decide (k.outreach < a.out))) := by
  unfold State.inReach
  rw [Bool.not_and, Bool.not_or, Bool.not_not, State.not_reaches, State.not_reaches, LiftAsk.carried_tandem, hd]
  unfold LiftAsk.carried
  by_cases htandem : a.flag = 1
  · simp [htandem]
  · simp [htandem, beq_false_of_ne htandem]

/-- The eleven checks in their order (R83, R107). -/
theorem State.requestCode_eq (s : State) (c : Crane) {a : LiftAsk} (h : a.onWire) : s.requestCode c a.carried =
    if s.hds.mode ≠ .service then some .notInService
    else if (isUpper c && s.lcu.paired c) = true then some .portPaired
    else if s.lift c ≠ .idle then some .craneBusy
    else if s.lmn.stop ≠ none then some .stopped
    else if 8 ≤ s.lcu.queue.length then some .queueFull
    else if a.outOfRange then some .badField
    else if (a.origin ≠ 254 ∧ s.tables.cargo a.origin = none) ∨ (a.dest ≠ 254 ∧ s.tables.cargo a.dest = none) then
      some .badSpace
    else if a.origin = 254 ∧ (s.ct.lot a.lot ≠ none ∨ s.liftNames a.lot = true) then some .duplicateLot
    else if a.origin ≠ 254 ∧ (s.ct.lot a.lot).map Lot.loc ≠ some a.origin then some .noSuchLot
    else if s.overSwl c (a.carried.shares (s.evaluated a)) (s.evaluated a) = true then some .overSwl
    else if (!s.inReach c a.carried) = true then some .outOfReach
    else if (a.flag == 1) = true ∧ (s.lcu.paired c = false ∨ s.lift (mate c) ≠ .idle) then some .portPaired
    else none := by
  have hends : (s.tables.isEnd (liftEnd a.origin) && s.tables.isEnd (liftEnd a.dest)) = false ↔
      (a.origin ≠ 254 ∧ s.tables.cargo a.origin = none) ∨ (a.dest ≠ 254 ∧ s.tables.cargo a.dest = none) := by
    rw [Bool.and_eq_false_iff, Tables.isEnd_liftEnd, Tables.isEnd_liftEnd]
  have hpair : (a.carried.tandem && (!s.lcu.paired c || s.lift (mate c) != .idle)) = true ↔
      (a.flag == 1) = true ∧ (s.lcu.paired c = false ∨ s.lift (mate c) ≠ .idle) := by
    rw [LiftAsk.carried_tandem]
    simp
  have horigin : a.carried.origin = a.origin := by rw [LiftAsk.carried_eq]
  have hdest : a.carried.dest = a.dest := by rw [LiftAsk.carried_eq]
  have hlot : a.carried.lot = a.lot := by rw [LiftAsk.carried_eq]
  unfold State.requestCode
  simp only [LiftAsk.inRange_carried h, horigin, hdest, hlot, hends, LiftAsk.carried_evaluated, hpair,
    State.lotCode_liftEnd, Option.isSome_iff_ne_none, Bool.not_eq_true', State.upperPaired]
  congr 7
  split_ifs <;> rfl

/-! ### The record (R84, R85, R107, R108) -/

/-- A crane's extreme point (R84), the origin of the frame for an undefined one (assumption 18). -/
theorem State.extreme_eq (s : State) (c : Crane) (side out : Int) :
    s.extreme c side out = match s.tables.crane c with
      | some k => ⟨k.px, k.py + side * out⟩
      | none => ⟨0, 0⟩ := by
  unfold State.extreme
  cases s.tables.crane c <;> rfl

/-- The candidates of a request read back (R84, R108). -/
theorem State.candidates_carried (s : State) (c : Crane) (a : LiftAsk) : s.candidates c a.carried =
    let point (own other : Pt) : Candidate := ⟨own, if (a.flag == 1) = true then some other else none⟩
    [point a.pickup a.matePickup, point a.setDown a.mateSetDown]
      ++ (if a.side = 0 ∨ a.side = 2 then [point (s.extreme c (-1) a.out) (s.extreme (mate c) (-1) a.out)] else [])
      ++ (if a.side = 1 ∨ a.side = 2 then [point (s.extreme c 1 a.out) (s.extreme (mate c) 1 a.out)] else []) := by
  unfold State.candidates LiftAsk.candidate
  rw [LiftAsk.carried_tandem]
  unfold LiftAsk.carried
  by_cases htandem : a.flag = 1
  · rw [if_pos htandem]
  · simp [htandem]

/-- The shares of a tandem request read back (R107). -/
theorem LiftAsk.carried_shares (a : LiftAsk) (w : Int) : a.carried.shares w =
    if (a.flag == 1) = true then
      some ⟨a.permille, rdiv (w * a.permille) 1000, w - rdiv (w * a.permille) 1000⟩ else none := by
  unfold LiftAsk.shares
  rw [LiftAsk.carried_tandem]
  by_cases htandem : a.flag = 1
  · have hcarried : a.carried = a := if_pos htandem
    rw [hcarried]
    rfl
  · simp [htandem]

/-- What becomes of a request that passes its checks, or fails one of them (R83, R84). -/
def State.requestAnswered (s : State) (c : Crane) (r : Request) : Option Code → State
  | some e => s.replied (portOf c) (.refused kLiftRequest e)
  | none => { s.setLink (portOf c) { s.link (portOf c) with inbound := (s.link (portOf c)).inbound.tail } with
      lcu.recs := s.lcu.recs.set c (.pending r 0)
      lcu.queue := s.lcu.queue ++ [c] }

theorem execLiftRequest_eq {s : State} {c : Crane} {a : LiftAsk} (h : a.onWire)
    (ht : s.takesAt c kLiftRequest a.payload) : exec (.liftRequest c) s =
      .next (s.requestAnswered c (s.requestOf c a.carried) (s.requestCode c a.carried)).takeJob := by
  have hexec : exec (.liftRequest c) s =
    .next (serveCrane c kLiftRequest (liftRequestReply c) s).takeJob := rfl
  have hcode : (s.pull (portOf c)).requestCode c a.carried = s.requestCode c a.carried := rfl
  rw [hexec, serveCrane_takes ht (LiftAsk.payload_lengthOk h)]
  congr 2
  unfold liftRequestReply
  rw [liftAsk_payload h]
  dsimp only
  rw [hcode]
  cases s.requestCode c a.carried with
  | some e => exact s.answer_pull (portOf c) _
  | none =>
    have hlink : ((s.pull (portOf c)).link (portOf c)).release =
        { s.link (portOf c) with inbound := (s.link (portOf c)).inbound.tail } := by
      rw [State.pull, State.link_setLink, if_pos rfl]
      rfl
    have hset : (s.pull (portOf c)).setLink (portOf c) ((s.pull (portOf c)).link (portOf c)).release =
        s.setLink (portOf c) { s.link (portOf c) with inbound := (s.link (portOf c)).inbound.tail } := by
      rw [hlink, State.pull, State.setLink_setLink]
    exact congrArg (fun u : State => { u with
      lcu.recs := s.lcu.recs.set c (.pending (s.requestOf c a.carried) 0)
      lcu.queue := s.lcu.queue ++ [c] }) hset

/-- A chain of checks and what follows from its outcome. -/
theorem ite_of_check {α : Type} {code first rest : α} {cond P Q : Prop} [Decidable cond]
    (h : code = if cond then first else rest) (hfirst : code = first → P) (hrest : code = rest → Q) :
    if cond then P else Q := by
  by_cases hc : cond
  · rw [if_pos hc] at h ⊢
    exact hfirst h
  · rw [if_neg hc] at h ⊢
    exact hrest h

/-- Settles O42: the checks in their order, and the record. -/
theorem liftRequestIsCheckedAndQueued : Obligations.LiftRequestIsCheckedAndQueued := by
  intro s c ask d hask hd ht refused tandem partner lot w lower far point extreme
  have hexec := execLiftRequest_eq hask ⟨ht, by rw [hd]; rfl⟩
  have hrefused {e : Code} (hcode : s.requestCode c ask.carried = some e) : refused e := by
    rw [hcode] at hexec
    exact hexec
  have hw : s.evaluated ask = w := s.evaluated_eq ask
  have hcode := s.requestCode_eq c hask
  rw [hw, State.overSwl_eq hd, State.inReach_eq hd] at hcode
  refine ⟨fun hmode => hrefused (hcode.trans (if_pos hmode)), fun hmode => ?_⟩
  rw [if_neg (not_not_intro hmode)] at hcode
  refine ite_of_check hcode hrefused fun hcode => ite_of_check hcode hrefused fun hcode =>
    ite_of_check hcode hrefused fun hcode => ite_of_check hcode hrefused fun hcode => ?_
  refine ⟨fun hrange => hrefused (hcode.trans (if_pos hrange)), fun hrange => ?_⟩
  rw [if_neg hrange] at hcode
  refine ite_of_check hcode hrefused fun hcode => ite_of_check hcode hrefused fun hcode =>
    ite_of_check hcode hrefused fun hcode => ite_of_check hcode hrefused fun hcode =>
    ite_of_check hcode hrefused fun hcode => ite_of_check hcode hrefused fun hcode => ?_
  have hrecord : s.requestOf c ask.carried =
      { lot := ask.lot
        weight := w
        origin := if ask.origin = 254 then .quay else .space ask.origin
        dest := if ask.dest = 254 then .quay else .space ask.dest
        cands := [point ask.pickup ask.matePickup, point ask.setDown ask.mateSetDown]
          ++ (if ask.side = 0 ∨ ask.side = 2 then [extreme (-1)] else [])
          ++ (if ask.side = 1 ∨ ask.side = 2 then [extreme 1] else [])
        susp := ask.susp
        tandem := if tandem then some ⟨ask.permille, lower, w - lower⟩ else none } := by
    unfold State.requestOf
    rw [State.candidates_carried, LiftAsk.carried_evaluated, LiftAsk.carried_shares, hw, State.extreme_eq,
      State.extreme_eq, State.extreme_eq, State.extreme_eq, hd, LiftAsk.carried_eq]
    rfl
  rw [hexec, hcode, hrecord]
  rfl

end Sys2Proof.Machine
end

section
/-!
A hook that goes UNKNOWN (R116, R117), and LINK_BREAK (R94, R175, R177): the flush of the port, the end of its crane's
request or permit, and the loss of its hook.
-/

namespace Sys2Proof.Machine

set_option Elab.async false

/-! ### A hook that goes UNKNOWN (R116, R117) -/

/-- The structures with a crane's moved to the worst point of its hook; an undefined crane's stays (R116). -/
def State.structsToWorst (s : State) (c : Crane) : PerCrane (Option Pos) :=
  match s.tables.crane c with
  | some d => s.ct.structs.set c (some (s.worstCentroid s.lcu.hooks d))
  | none => s.ct.structs

theorem State.structsToWorst_other (s : State) {c k : Crane} (h : k ≠ c) :
    (s.structsToWorst c).get k = s.ct.structs.get k := by
  unfold State.structsToWorst
  split
  · simp [h]
  · rfl

theorem State.structsToWorst_self {s : State} {c : Crane} {d : CraneDef} (h : s.tables.crane c = some d) :
    (s.structsToWorst c).get c = some (s.worstCentroid s.lcu.hooks d) := by
  unfold State.structsToWorst
  rw [h]
  simp

theorem State.structsToWorst_undefined {s : State} {c : Crane} (h : s.tables.crane c = none) :
    s.structsToWorst c = s.ct.structs := by
  unfold State.structsToWorst
  rw [h]

theorem State.structureToWorst_eq (s : State) (c : Crane) :
    s.structureToWorst c = s.withCtLcu { s.ct with structs := s.structsToWorst c } s.lcu := by
  unfold State.structureToWorst State.moveStructure State.structsToWorst
  cases h : s.tables.crane c with
  | none => rfl
  | some d =>
    dsimp only
    rw [← State.centroid_worst]
    rfl

/-- The LCU with the source of a crane's hook UNKNOWN, the held position kept (R116). -/
def Lcu.hookGone (u : Lcu) (c : Crane) : Lcu :=
  { u with hooks := u.hooks.set c { u.hooks.get c with source := .unknown } }

/-- The structures after a crane's hook has gone UNKNOWN. -/
def State.structsGone (s : State) (c : Crane) : PerCrane (Option Pos) :=
  (s.withCtLcu s.ct (s.lcu.hookGone c)).structsToWorst c

/-- The loss of a position, and the structure moved to match (R116). -/
theorem State.losePosition_toWorst (s : State) (c : Crane) : (s.losePosition c).structureToWorst c =
    (s.raise ⟨.positionUnknown, .crane c⟩).withCtLcu { s.ct with structs := s.structsGone c } (s.lcu.hookGone c) := by
  have hlost : s.losePosition c = (s.raise ⟨.positionUnknown, .crane c⟩).withCtLcu s.ct (s.lcu.hookGone c) :=
    State.raise_withCtLcu s s.ct (s.lcu.hookGone c) _
  have hstructs : ((s.raise ⟨.positionUnknown, .crane c⟩).withCtLcu s.ct (s.lcu.hookGone c)).structsToWorst c =
      s.structsGone c := by
    have htables : ((s.raise ⟨.positionUnknown, .crane c⟩).withCtLcu s.ct (s.lcu.hookGone c)).tables = s.tables :=
      State.raise_tables s _
    unfold State.structsGone State.structsToWorst State.worstCentroid
    rw [htables]
    rfl
  rw [State.structureToWorst_eq, hlost, hstructs]
  rfl

/-- Whether a crane's hook carries a load and is REPORTED, so that a break or a silence loses it (R116). -/
def State.losesHook (s : State) (c : Crane) : Bool := (s.lift c).holdsLoad && (s.hook c).source == .reported

theorem State.losesHook_iff (s : State) (c : Crane) :
    s.losesHook c = true ↔ (s.lift c).holdsLoad = true ∧ (s.hook c).source = .reported := by simp [State.losesHook]

/-- A hook that carries a load and is REPORTED goes UNKNOWN as one operation; any other stays (R116). -/
theorem State.hookUnknown_eq (s : State) (c : Crane) : s.hookUnknown c =
    if s.losesHook c = true then
      (s.raise ⟨.positionUnknown, .crane c⟩).withCtLcu
        { s.ct with structs := s.structsGone c, serial := s.ct.serial + 1 } (s.lcu.hookGone c)
    else s := by
  unfold State.hookUnknown
  rw [State.losePosition_toWorst]
  rfl

/-- What a raise makes of the alarm list is read from the list and the clock. -/
theorem State.raise_als_congr {s t : State} (hals : t.als = s.als) (hseconds : t.seconds = s.seconds) (k : AlarmKey) :
    (t.raise k).als = (s.raise k).als := by
  unfold State.raise
  rw [State.alarm_als, State.alarm_als, hals, hseconds]

/-- The loss of the hook of the only crane concerned, or of none. -/
theorem State.hookLost_of_eq {s t : State} {c : Crane} {lost : Crane → Prop} (hlost : ∀ k, lost k ↔ k = c)
    (hct : t.ct.structs = if s.losesHook c = true then s.structsGone c
      else s.ct.structs)
    (hserial : t.ct.serial = if s.losesHook c = true then s.ct.serial + 1
      else s.ct.serial)
    (hhooks : t.lcu.hooks = if s.losesHook c = true then
      (s.lcu.hookGone c).hooks else s.lcu.hooks)
    (hals : t.als = if s.losesHook c = true then
      (s.raise ⟨.positionUnknown, .crane c⟩).als else s.als) : s.hookLost t lost := by
  unfold State.hookLost
  intro loses
  have hother {k : Crane} (hk : k ≠ c) : t.hook k = s.hook k ∧ t.ct.structs.get k = s.ct.structs.get k := by
    unfold State.hook
    rw [hhooks, hct]
    split
    · exact ⟨by simp [Lcu.hookGone, hk], State.structsToWorst_other _ hk⟩
    · exact ⟨rfl, rfl⟩
  by_cases h : s.losesHook c = true
  · have hc : loses c := ⟨(hlost c).2 rfl, (s.losesHook_iff c).1 h⟩
    rw [if_pos h] at hct hserial hhooks hals
    refine ⟨fun k hk => ?_, fun k hk => hother fun he => hk (he ▸ hc), fun hnone => absurd hc (hnone c)⟩
    obtain rfl := (hlost k).1 hk.1
    refine ⟨?_, ?_, fun hd => ?_, fun d hd => ?_, hserial, hals⟩
    · unfold State.hook
      rw [hhooks]
      simp [Lcu.hookGone]
    · rw [hals, State.mem_held_raise]
      exact .inr rfl
    · rw [hct]
      exact congrArg (PerCrane.get · k) (State.structsToWorst_undefined hd)
    · rw [hct, hhooks]
      exact State.structsToWorst_self hd
  · have hnone (k : Crane) : ¬ loses k := fun hk => h ((s.losesHook_iff c).2 ((hlost k).1 hk.1 ▸ hk.2))
    rw [if_neg h] at hct hserial hhooks hals
    refine ⟨fun k hk => absurd hk (hnone k), fun k _ => ?_, fun _ => ⟨hserial, hals⟩⟩
    exact ⟨congrArg (PerCrane.get · k) hhooks, by rw [hct]⟩

/-- What is lost is read from the hooks, the structures, the serial and the alarm list alone. -/
theorem State.hookLost.of_same {s t u : State} {lost : Crane → Prop} (h : s.hookLost t lost)
    (hct : u.ct = t.ct) (hhooks : u.lcu.hooks = t.lcu.hooks) (hals : u.als = t.als) : s.hookLost u lost := by
  unfold State.hookLost State.hook at h ⊢
  rwa [hct, hhooks, hals]

/-! ### LINK_BREAK (R94, R175, R177) -/

theorem Link.broken_eq (l : Link) : l.broken = { l with
    state := .restarting
    inbound := []
    queue := []
    sending := if l.slot.isSome then some .order else none } := by
  unfold Link.broken Link.start
  cases l.slot <;> rfl

/-- The state `z` that a break on a port makes of `s` before the evaluator chooses. -/
structure State.Broken (s z : State) (q : Port) : Prop where
  noted : ((s.setLink q (s.link q).broken).withCtLcu z.ct z.lcu).Noted z
  table : z.ct = { s.ct with structs := z.ct.structs, serial := z.ct.serial }
  unit : z.lcu = { s.lcu with
    recs := z.lcu.recs
    queue := z.lcu.queue
    hooks := z.lcu.hooks
    inHand := s.lcu.inHand.map fun (h : Crane × Bool) =>
      if portOf h.1 = q ∧ (s.lift h.1).isPending = true then (h.1, true) else h }
  record : ∀ c, z.lift c = if portOf c = q then (match s.lift c with
    | .pending _ _ | .granted _ _ _ _ => .idle
    | r => r) else s.lift c
  queue : z.lcu.queue = (match craneOfPort q with
    | some c => if (s.lift c).isPending then s.lcu.queue.erase c else s.lcu.queue
    | none => s.lcu.queue)
  hooks : s.hookLost z fun c => portOf c = q

theorem craneOfPort_eq_some {q : Port} {c : Crane} : craneOfPort q = some c ↔ portOf c = q := by
  cases q <;> cases c <;> decide

/-- A record that holds a load is no request or permit that a break could end. -/
theorem Lcu.dropped_of_holdsLoad {u : Lcu} {c : Crane} (h : (u.recs.get c).holdsLoad = true) : u.dropped c = u := by
  cases hrec : u.recs.get c <;> simp [hrec, LiftRec.holdsLoad] at h <;>
    exact Lcu.dropped_of_none (by rw [hrec]; rfl) (by rw [hrec]; rfl)

/-- The crane's part of a break: a lost hook, or the end of a request or permit. -/
theorem State.craneBreak_eq (s : State) {q : Port} {c : Crane} (hq : craneOfPort q = some c) (l : Link) :
    (s.setLink q l).craneBreak q = if s.losesHook c = true then
        ((s.setLink q l).raise ⟨.positionUnknown, .crane c⟩).withCtLcu
          { s.ct with structs := s.structsGone c, serial := s.ct.serial + 1 } (s.lcu.hookGone c)
      else (s.setLink q l).withCtLcu s.ct (s.lcu.dropped c) := by
  have hloses : ((s.setLink q l).dropRequest c).losesHook c = s.losesHook c := by
    rw [State.dropRequest_eq]
    unfold State.losesHook State.lift State.hook State.withCtLcu
    dsimp only
    rw [State.setLink_lcu, Lcu.dropped_hooks, Lcu.dropped_recs, if_pos rfl]
    cases s.lcu.recs.get c <;> rfl
  unfold State.craneBreak
  rw [hq]
  dsimp only
  rw [State.hookUnknown_eq, hloses, State.dropRequest_eq]
  by_cases h : s.losesHook c = true
  · have hdropped : (s.setLink q l).lcu.dropped c = s.lcu := Lcu.dropped_of_holdsLoad ((s.losesHook_iff c).1 h).1
    rw [if_pos h, if_pos h, hdropped]
    rfl
  · rw [if_neg h, if_neg h]
    rfl

/-- The request under evaluation, when it is the broken port's. -/
theorem discardMark_eq (s : State) (c : Crane) (inHand : Option (Crane × Bool)) :
    (inHand.map fun (h : Crane × Bool) =>
      if portOf h.1 = portOf c ∧ (s.lift h.1).isPending = true then (h.1, true) else h) =
    if (s.lift c).isPending = true then inHand.map fun (h : Crane × Bool) => if h.1 = c then (c, true) else h
    else inHand := by
  cases inHand with
  | none => simp
  | some h =>
    have hport : portOf h.1 = portOf c ↔ h.1 = c := by
      rw [← craneOfPort_eq_some, craneOfPort_portOf, Option.some.injEq, eq_comm]
    by_cases hc : h.1 = c
    · subst hc
      by_cases hp : (s.lift h.1).isPending = true <;> simp [hp]
    · simp [hport, hc]

theorem State.craneBreak_broken (s : State) (q : Port) :
    s.Broken ((s.setLink q (s.link q).broken).craneBreak q) q := by
  cases hq : craneOfPort q with
  | none =>
    have hport (c : Crane) : portOf c ≠ q := fun h => by
      rw [craneOfPort_eq_some.2 h] at hq
      cases hq
    have hbreak : (s.setLink q (s.link q).broken).craneBreak q = s.setLink q (s.link q).broken := by
      unfold State.craneBreak
      rw [hq]
    rw [hbreak]
    refine ⟨State.Noted.refl _, rfl, ?_, fun c => (if_neg (hport c)).symm, by rw [hq]; rfl, ?_⟩
    · have hmark : (s.lcu.inHand.map fun (h : Crane × Bool) =>
          if portOf h.1 = q ∧ (s.lift h.1).isPending = true then (h.1, true) else h) = s.lcu.inHand := by
        simp [hport]
      rw [hmark]
      rfl
    · exact ⟨fun c hc => absurd hc.1 (hport c), fun c _ => ⟨rfl, rfl⟩, fun _ => ⟨rfl, rfl⟩⟩
  | some c =>
    obtain rfl := craneOfPort_eq_some.1 hq
    have hport (k : Crane) : portOf k = portOf c ↔ k = c := by
      rw [← craneOfPort_eq_some, hq, Option.some.injEq, eq_comm]
    rw [State.craneBreak_eq s hq]
    by_cases h : s.losesHook c = true
    · have hloads := ((s.losesHook_iff c).1 h).1
      have hpending : (s.lift c).isPending = false := by
        cases hrec : s.lift c <;> simp [hrec, LiftRec.holdsLoad, LiftRec.isPending] at hloads ⊢
      rw [if_pos h]
      refine ⟨(State.Noted.raise _ _).withCtLcu _ _, rfl, ?_, fun k => ?_,
        by simp [hq, hpending, State.withCtLcu, Lcu.hookGone],
        State.hookLost_of_eq hport (if_pos h).symm (if_pos h).symm (if_pos h).symm ?_⟩
      · rw [discardMark_eq, hpending]
        rfl
      · split
        next hk =>
          obtain rfl := (hport k).1 hk
          show s.lift k = _
          cases hrec : s.lift k <;> simp [hrec, LiftRec.holdsLoad] at hloads ⊢
        next => rfl
      · rw [if_pos h]
        exact State.raise_als_congr (s := s) (t := s.setLink (portOf c) (s.link (portOf c)).broken) rfl rfl _
    · rw [if_neg h]
      refine ⟨State.Noted.refl _, rfl, ?_, fun k => ?_, ?_, State.hookLost_of_eq hport (if_neg h).symm
        (if_neg h).symm ((s.lcu.dropped_hooks c).trans (if_neg h).symm) (if_neg h).symm⟩
      · rw [discardMark_eq]
        show s.lcu.dropped c = { s.lcu with
          recs := (s.lcu.dropped c).recs
          queue := (s.lcu.dropped c).queue
          hooks := (s.lcu.dropped c).hooks
          inHand := if (s.lcu.recs.get c).isPending = true then
              s.lcu.inHand.map fun (h : Crane × Bool) => if h.1 = c then (c, true) else h
            else s.lcu.inHand }
        rw [← Lcu.dropped_inHand, Lcu.dropped_hooks]
        exact s.lcu.dropped_rest c
      · rw [if_congr (hport k) rfl rfl]
        refine (s.lcu.dropped_recs c k).trans ?_
        by_cases hk : k = c
        · subst hk
          rfl
        · rw [if_neg hk, if_neg hk]
          rfl
      · rw [hq]
        exact s.lcu.dropped_queue c

/-- Settles O17: the flush of the port, then its crane's part, then the evaluator's choice. -/
theorem breakFlushesThePort : Obligations.BreakFlushesThePort := by
  intro s q comm hrun hrestart
  obtain ⟨hnoted, htable, hunit, hrecord, hqueue, hhooks⟩ := s.craneBreak_broken q
  have hexec : exec (.linkBreak q comm) s = .next ((s.setLink q (s.link q).broken).craneBreak q).takeJob := by
    have hpending : ¬ (q = .p ∧ s.csv.restartPending = true) := fun h => by simp [hrestart h.1] at h
    show Host.Outcome.next _ = _
    rw [if_pos hrun, State.breakPort, if_neg hpending]
  generalize (s.setLink q (s.link q).broken).craneBreak q = z at hexec hnoted htable hunit hrecord hqueue hhooks
  refine ⟨z.takeJob, hexec, ?_, fun c => ?_, ?_, hhooks.of_same z.takeJob_ct z.takeJob_lcu_hooks z.takeJob_als⟩
  · have hx : (({ s with
        lcu.recs := z.takeJob.lcu.recs
        lcu.queue := z.takeJob.lcu.queue
        lcu.inHand := s.lcu.inHand.map fun (h : Crane × Bool) =>
          if portOf h.1 = q ∧ (s.lift h.1).isPending = true then (h.1, true) else h
        lcu.hooks := z.takeJob.lcu.hooks
        ct.structs := z.takeJob.ct.structs
        ct.serial := z.takeJob.ct.serial } : State).setLink q { s.link q with
          state := .restarting
          inbound := []
          queue := []
          sending := if (s.link q).slot.isSome then some .order else none }) =
        (s.setLink q (s.link q).broken).withCtLcu z.ct z.lcu := by
      rw [← Link.broken_eq, State.takeJob_lcu_recs, State.takeJob_lcu_queue, State.takeJob_lcu_hooks, State.takeJob_ct,
        htable, hunit]
      rfl
    rw [hx, ← hnoted.eq_noting z.takeJob_als (by rw [State.takeJob_link])]
  · rw [State.takeJob_lift]
    exact hrecord c
  · rw [State.takeJob_lcu_queue]
    exact hqueue

end Sys2Proof.Machine
end

section
/-!
Whom a stop and a resume reach at a live result (R95, R143 to R145, R149): each crane port, port B and the permit queue.
-/

namespace Sys2Proof.Machine

set_option Elab.async false

/-! ### Folds of which one step alone is seen -/

/-- What only the step of `k` changes is, after a fold over distinct steps, what that step made of it. -/
theorem foldl_at {α β : Type} [DecidableEq α] (view : State → β) {f : State → α → State} {g : β → β} {k : α}
    (hself : ∀ s, view (f s k) = g (view s)) (hother : ∀ s i, i ≠ k → view (f s i) = view s) {l : List α}
    (hl : l.Nodup) (s : State) : view (l.foldl f s) = if k ∈ l then g (view s) else view s := by
  induction l generalizing s with
  | nil => rfl
  | cons i l ih =>
    obtain ⟨hi, hl⟩ := List.nodup_cons.1 hl
    rw [List.foldl_cons, ih hl]
    by_cases hik : i = k
    · subst hik
      rw [if_neg hi, if_pos List.mem_cons_self, hself]
    · have hk : k ∈ i :: l ↔ k ∈ l := by simp [Ne.symm hik]
      rw [hother s i hik, if_congr hk rfl rfl]

theorem portOf_injective {c k : Crane} (h : portOf c = portOf k) : c = k := by
  have hk := craneOfPort_portOf k
  rw [← h, craneOfPort_portOf] at hk
  exact Option.some.inj hk

theorem portOf_ne_b (c : Crane) : portOf c ≠ .b := by cases c <;> decide

/-! ### A crane at a stop's issue (R95, R144) -/

/-- What a stop's issue reads and changes of a crane: its record, its port's link and stop state, and the end of a
window that runs from now. -/
structure Seat where
  record : LiftRec
  link : Link
  stop : StopPort
  window : Nat

def State.seat (s : State) (c : Crane) : Seat :=
  ⟨s.lift c, s.link (portOf c), s.stopPort (portOf c), s.now + s.settings.ackWindow * 100⟩

/-- A permit withdrawn (R95). -/
def Seat.withdrawn (v : Seat) (criterion : Criterion) : Seat :=
  match v.record with
  | .granted _ n _ _ => { v with record := .idle, link := v.link.offer (.liftWithdrawn n criterion) }
  | _ => v

/-- A request refused (R95). -/
def Seat.refused (v : Seat) : Seat :=
  { v with record := .idle, link := v.link.offer (.refused kLiftRequest .stopped) }

/-- The order sent to a port (R143, R146). -/
def Seat.sentStop (v : Seat) (c : Criterion) (n : Serial) : Seat :=
  { v with link := v.link.placeOrder (.stop c n), stop := ⟨.sent, some v.window⟩ }

/-- A request or a permit ends at a stop's issue, and a load is sent the order (R95, R144). -/
def Seat.stopped (v : Seat) (c : Criterion) (n : Serial) : Seat :=
  match v.record with
  | .pending _ _ => v.refused
  | .granted _ _ _ _ => v.withdrawn c
  | .hooked _ | .partner _ _ => v.sentStop c n
  | .idle | .unfiled _ _ => v

theorem State.seat_setLift (s : State) (i k : Crane) (r : LiftRec) :
    (s.setLift i r).seat k = if k = i then { s.seat k with record := r } else s.seat k := by
  unfold State.seat
  rw [State.lift_setLift]
  split <;> rfl

theorem State.seat_offer (s : State) (q : Port) (m : OutMsg) (k : Crane) :
    (s.offer q m).seat k = if portOf k = q then { s.seat k with link := (s.seat k).link.offer m } else s.seat k := by
  unfold State.seat State.offer
  rw [State.link_setLink]
  split
  next h => subst h; rfl
  next h => rfl

theorem State.seat_sendStop (s : State) (q : Port) (c : Criterion) (n : Serial) (k : Crane) :
    (s.sendStop q c n).seat k = if portOf k = q then (s.seat k).sentStop c n else s.seat k := by
  unfold State.seat State.sendStop State.placeOrder
  rw [State.link_setStopPort, State.link_setLink, State.stopPort_setStopPort]
  split
  next h => subst h; rfl
  next h => rfl

/-- The crane's part in the withdrawal of every permit. -/
theorem State.seat_withdraw (s : State) (c : Criterion) (i k : Crane) :
    (s.withdraw c i).seat k = if i = k then (s.seat k).withdrawn c else s.seat k := by
  unfold State.withdraw
  by_cases hik : i = k
  · subst hik
    have hrecord : (s.seat i).record = s.lift i := rfl
    rw [if_pos rfl, Seat.withdrawn, hrecord]
    cases s.lift i with
    | granted r n slot deadline =>
      dsimp only
      rw [State.seat_offer, if_pos rfl, State.seat_setLift, if_pos rfl]
    | _ => rfl
  · rw [if_neg hik]
    cases s.lift i with
    | granted r n slot deadline =>
      dsimp only
      rw [State.seat_offer, if_neg fun h => hik (portOf_injective h).symm, State.seat_setLift, if_neg (Ne.symm hik)]
    | _ => rfl

theorem State.seat_refuseStopped (s : State) (i k : Crane) :
    (s.refuseStopped i).seat k = if i = k then (s.seat k).refused else s.seat k := by
  unfold State.refuseStopped
  by_cases hik : i = k
  · subst hik
    rw [if_pos rfl, State.seat_offer, if_pos rfl, State.seat_setLift, if_pos rfl]
    rfl
  · rw [if_neg hik, State.seat_offer, if_neg fun h => hik (portOf_injective h).symm, State.seat_setLift,
      if_neg (Ne.symm hik)]

/-- Every crane's record and port after the withdrawal (R95). -/
theorem State.seat_withdrawAll {s : State} (hqueue : s.queueWf) (c : Criterion) (k : Crane) :
    (s.withdrawAll c).seat k = if (s.lift k).isPending = true then ((s.seat k).withdrawn c).refused
      else (s.seat k).withdrawn c := by
  obtain ⟨hnodup, hmem⟩ := hqueue
  have hall : (cranes.foldl (State.withdraw c) s).seat k = (s.seat k).withdrawn c :=
    (foldl_at (State.seat · k) (g := (Seat.withdrawn · c)) (fun u => (u.seat_withdraw c k k).trans (if_pos rfl))
      (fun u i hi => (u.seat_withdraw c i k).trans (if_neg hi)) (by decide) s).trans (if_pos (mem_cranes k))
  have hlist : (cranes.foldl (State.withdraw c) s).lcu.queue = s.lcu.queue :=
    foldl_keeps (·.lcu.queue) (fun u i => by unfold State.withdraw; split <;> rfl) cranes s
  have hrefused := foldl_at (State.seat · k) (fun u => (u.seat_refuseStopped k k).trans (if_pos rfl))
    (fun u i hi => (u.seat_refuseStopped i k).trans (if_neg hi)) hnodup (cranes.foldl (State.withdraw c) s)
  have hdone : (s.withdrawAll c).seat k =
      (s.lcu.queue.foldl State.refuseStopped (cranes.foldl (State.withdraw c) s)).seat k := by
    rw [← hlist]
    rfl
  rw [hdone, hrefused, hall, if_congr (hmem k (mem_cranes k)) rfl rfl]

/-- Every crane's record and port after a stop's issue (R95, R143, R144). -/
theorem State.seat_issueStop {s : State} (hqueue : s.queueWf) (r : Result) (c : Criterion) (k : Crane) :
    (s.issueStop r c).seat k = (s.seat k).stopped c r.serial := by
  have hballast (u : State) : (u.stopBallast r).seat k = u.seat k := by
    unfold State.stopBallast
    split
    · exact (u.seat_sendStop _ _ _ k).trans (if_neg (portOf_ne_b k))
    · rfl
  have hcranes (u : State) : (u.stopCranes c r.serial).seat k =
      if (u.seat k).record.holdsLoad = true then (u.seat k).sentStop c r.serial else u.seat k := by
    refine (foldl_at (State.seat · k) (g := fun v => if v.record.holdsLoad = true then v.sentStop c r.serial else v)
      (fun w => ?_) (fun w i hi => ?_) (by decide) u).trans (if_pos (mem_cranes k))
    · show State.seat (if (w.lift k).holdsLoad = true then _ else _) k =
        if (w.lift k).holdsLoad = true then _ else _
      split
      · exact (w.seat_sendStop _ _ _ k).trans (if_pos rfl)
      · rfl
    · split
      · exact (w.seat_sendStop _ _ _ k).trans (if_neg fun h => hi (portOf_injective h).symm)
      · rfl
  have hwithdrawn : (State.withdrawAll { s with lmn.stop := some (c, r.serial) } c).seat k =
      if (s.lift k).isPending = true then ((s.seat k).withdrawn c).refused else (s.seat k).withdrawn c :=
    State.seat_withdrawAll (s := { s with lmn.stop := some (c, r.serial) }) hqueue c k
  have hrecord : (s.seat k).record = s.lift k := rfl
  unfold State.issueStop
  rw [hballast, hcranes, hwithdrawn, ← hrecord]
  generalize s.seat k = v
  obtain ⟨record, link, stop, window⟩ := v
  cases record <;> rfl

/-! ### Port B at an issue and at a later test (R144, R145) -/

/-- What the test of port B changes: its link and its stop state. -/
def State.ballastPort (s : State) : Link × StopPort := (s.link .b, s.stopPort .b)

/-- Port B sent a stop, or as it was. -/
theorem State.stopBallast_ballastPort (s : State) (r : Result) : (s.stopBallast r).ballastPort =
    match s.ballastTest r with
    | some c => ((s.link .b).placeOrder (.stop c r.serial), ⟨.sent, some (s.now + s.settings.ackWindow * 100)⟩)
    | none => s.ballastPort := by
  unfold State.stopBallast
  cases s.ballastTest r <;> rfl

theorem State.Ordered.ballastTest {s t : State} (h : s.Ordered t) (r : Result) : t.ballastTest r = s.ballastTest r :=
  h.keeps (State.ballastTest · r) fun _ _ _ _ _ _ _ => rfl

/-- A withdrawal and the orders to the cranes leave port B as it was. -/
theorem State.issueStop_ballastPort (s : State) (r : Result) (c : Criterion) :
    (s.issueStop r c).ballastPort = (s.stopBallast r).ballastPort := by
  have hlink {u : State} (k : Crane) (l : Link) : (u.setLink (portOf k) l).ballastPort = u.ballastPort := by
    unfold State.ballastPort
    rw [State.link_setLink, if_neg (portOf_ne_b k).symm]
    rfl
  have hwithdraw (u : State) (k : Crane) : (u.withdraw c k).ballastPort = u.ballastPort := by
    unfold State.withdraw
    split
    · exact hlink k _
    · rfl
  have hstop (u : State) (k : Crane) :
      (if (u.lift k).holdsLoad then u.sendStop (portOf k) c r.serial else u).ballastPort = u.ballastPort := by
    split
    · refine Eq.trans ?_ (hlink (u := u) k ((u.link (portOf k)).placeOrder (.stop c r.serial)))
      unfold State.sendStop State.ballastPort
      rw [State.stopPort_setStopPort, if_neg (portOf_ne_b k).symm]
      rfl
    · rfl
  have hordered : s.Ordered ((State.withdrawAll { s with lmn.stop := some (c, r.serial) } c).stopCranes c r.serial) :=
    ((State.Ordered.setStop s _).trans (State.Ordered.withdrawAll _ c)).trans (State.Ordered.stopCranes _ c r.serial)
  have hport : ((State.withdrawAll { s with lmn.stop := some (c, r.serial) } c).stopCranes c r.serial).ballastPort =
      s.ballastPort := by
    have hcranes (u : State) : (u.stopCranes c r.serial).ballastPort = u.ballastPort :=
      foldl_keeps State.ballastPort hstop cranes u
    have hall (u : State) : (u.withdrawAll c).ballastPort = u.ballastPort :=
      (foldl_keeps State.ballastPort (g := State.refuseStopped) (fun w k => hlink k _) _ _).trans
        (foldl_keeps State.ballastPort hwithdraw cranes u)
    rw [hcranes, hall]
    rfl
  have hnow := hordered.keeps State.now fun _ _ _ _ _ _ _ => rfl
  have hset := hordered.keeps State.settings fun _ _ _ _ _ _ _ => rfl
  unfold State.issueStop
  rw [State.stopBallast_ballastPort, State.stopBallast_ballastPort, hordered.ballastTest, hnow, hset, hport]
  have hlinkB := congrArg Prod.fst hport
  unfold State.ballastPort at hlinkB
  dsimp only at hlinkB
  rw [hlinkB]

/-! ### A port at the resume (R149) -/

/-- What a resume changes of a port, and how often its STOP_UNANSWERED is held. -/
def State.orderedPort (s : State) (q : Port) : Link × StopPort × Nat :=
  (s.link q, s.stopPort q, s.als.held.count ⟨.stopUnanswered, .port q⟩)

/-- RESUME placed at a port with an order outstanding, and its condition cleared (R149). -/
def resumedPort (n : Serial) (v : Link × StopPort × Nat) : Link × StopPort × Nat :=
  if v.2.1.state = .none then v else (v.1.placeOrder (.resume n), ⟨.none, none⟩, v.2.2 - 1)

theorem State.resumePort_orderedPort {s : State} {q : Port} (hq : q ≠ .p) (n : Serial) (i : Port) :
    (s.resumePort n i).orderedPort q = if i = q then resumedPort n (s.orderedPort q) else s.orderedPort q := by
  unfold State.resumePort
  by_cases hnone : (s.stopPort i).state = .none
  · rw [if_pos hnone]
    by_cases h : i = q
    · subst h
      exact ((if_pos rfl).trans (if_pos hnone)).symm
    · exact (if_neg h).symm
  · rw [if_neg hnone]
    unfold State.orderedPort
    rw [State.clear_link _ _ q hq, State.clear_stopPort, State.clear_held, State.link_setStopPort,
      State.stopPort_setStopPort, State.placeOrder, State.link_setLink]
    by_cases h : i = q
    · subst h
      rw [if_pos rfl, if_pos rfl, if_pos rfl, List.count_erase_self]
      exact (if_neg hnone).symm
    · rw [if_neg (Ne.symm h), if_neg (Ne.symm h), if_neg h,
        List.count_erase_of_ne fun he => h (by simpa using he.symm)]
      rfl

/-- The stop is no part of a port. -/
theorem State.withStop_orderedPort (s : State) (stop : Option (Criterion × Serial)) (q : Port) :
    State.orderedPort { s with lmn.stop := stop } q = s.orderedPort q := rfl

theorem State.resume_orderedPort (s : State) (r : Result) {q : Port} (hq : q ≠ .p) :
    (s.resume r).orderedPort q = resumedPort r.serial (s.orderedPort q) := by
  have hself (u : State) : (u.resumePort r.serial q).orderedPort q = resumedPort r.serial (u.orderedPort q) :=
    (State.resumePort_orderedPort hq r.serial q).trans (if_pos rfl)
  have hother (u : State) (i : Port) (hi : i ≠ q) : (u.resumePort r.serial i).orderedPort q = u.orderedPort q :=
    (State.resumePort_orderedPort hq r.serial i).trans (if_neg hi)
  have hports : ports.Nodup := by decide
  have hq' : q ∈ ports := by cases q <;> decide
  unfold State.resume
  rw [State.withStop_orderedPort, foldl_at (State.orderedPort · q) hself hother hports, if_pos hq']

/-- Every port but P after a resume: RESUME in its slot, NONE, and its condition cleared, where an order was
outstanding. -/
theorem State.resume_port {s : State} (hnodup : s.als.held.Nodup) (r : Result) {q : Port} (hq : q ≠ .p) :
    (s.resume r).link q = (if (s.stopPort q).state = .none then s.link q
      else (s.link q).placeOrder (.resume r.serial)) ∧
    ((s.stopPort q).state ≠ .none → (s.resume r).stopPort q = ⟨.none, none⟩ ∧
      (⟨.stopUnanswered, .port q⟩ : AlarmKey) ∉ (s.resume r).als.held) := by
  have hview := s.resume_orderedPort r hq
  unfold State.orderedPort resumedPort at hview
  dsimp only at hview
  by_cases hnone : (s.stopPort q).state = .none
  · rw [if_pos hnone] at hview
    rw [if_pos hnone]
    exact ⟨congrArg Prod.fst hview, fun h => absurd hnone h⟩
  · rw [if_neg hnone] at hview
    obtain ⟨hlink, hview⟩ := Prod.mk.inj hview
    obtain ⟨hstop, hcount⟩ := Prod.mk.inj hview
    have hone := List.nodup_iff_count_le_one.1 hnodup ⟨.stopUnanswered, .port q⟩
    rw [if_neg hnone]
    exact ⟨hlink, fun _ => ⟨hstop, List.count_eq_zero.1 (by omega)⟩⟩

/-- A resume leaves the LCU as it was. -/
theorem State.resume_lcu (s : State) (r : Result) : (s.resume r).lcu = s.lcu := by
  have hstop (u : State) : State.lcu { u with lmn.stop := none } = u.lcu := rfl
  unfold State.resume
  rw [hstop]
  refine foldl_keeps State.lcu (fun u q => ?_) ports s
  unfold State.resumePort
  split
  · rfl
  · rw [State.clear_lcu]
    rfl

/-! ### The three outcomes of a judgement (R140, R143, R145, R149) -/

/-- The state in which a live result's stop is judged: its alarms are in line (R46, R141, R142). -/
def State.liveAlarms (s : State) (r : Result) : State := (s.liveHeld r).alarmsJudged r

theorem State.liveAlarms_keeps {β : Type} (f : State → β)
    (hf : ∀ (s : State) (l : Link) (a : Als), f { s.setLink .p l with als := a } = f s) (s : State) (r : Result)
    (hlive : f { s with sev.live := some r } = f s) : f (s.liveAlarms r) = f s :=
  ((State.Noted.alarmsJudged _ r).keeps f hf).trans (s.liveHeld_keeps f hf r hlive)

theorem State.liveAlarms_held_nodup {s : State} (h : s.als.held.Nodup) (r : Result) :
    (s.liveAlarms r).als.held.Nodup := by
  have hlimits : ((s.liveHeld r).limitAlarms r).als.held.Nodup := by
    rw [State.limitAlarms_eq]
    exact State.keepAll_held_nodup (State.liveHeld_held_nodup h r) _
  exact State.judge_held_nodup (State.judge_held_nodup hlimits _ _) _ _

theorem State.liveAlarms_link (s : State) (r : Result) {q : Port} (hq : q ≠ .p) :
    (s.liveAlarms r).link q = s.link q :=
  s.liveAlarms_keeps (·.link q) (fun u l _ => (u.link_setLink .p q l).trans (if_neg hq)) r rfl

theorem State.liveAlarms_lcu (s : State) (r : Result) : (s.liveAlarms r).lcu = s.lcu :=
  s.liveAlarms_keeps State.lcu (fun _ _ _ => rfl) r rfl

theorem State.liveAlarms_stopPort (s : State) (r : Result) (q : Port) : (s.liveAlarms r).stopPort q = s.stopPort q :=
  s.liveAlarms_keeps (·.stopPort q) (fun _ _ _ => rfl) r rfl

theorem State.liveAlarms_stop (s : State) (r : Result) : (s.liveAlarms r).lmn.stop = s.lmn.stop :=
  s.liveAlarms_keeps (·.lmn.stop) (fun _ _ _ => rfl) r rfl

theorem State.liveAlarms_seat (s : State) (r : Result) (c : Crane) : (s.liveAlarms r).seat c = s.seat c := by
  refine s.liveAlarms_keeps (·.seat c) (fun u l _ => ?_) r rfl
  show State.seat (u.setLink .p l) c = u.seat c
  unfold State.seat
  rw [State.link_setLink, if_neg (portOf_ne_p c)]
  rfl

theorem State.liveAlarms_ballastPort (s : State) (r : Result) : (s.liveAlarms r).ballastPort = s.ballastPort :=
  Prod.ext (s.liveAlarms_link r (q := .b) (by decide)) (s.liveAlarms_stopPort r .b)

/-- What port B would be sent is decided by what the alarms leave as it was. -/
theorem State.liveAlarms_stopBallast (s : State) (r : Result) :
    ((s.liveAlarms r).stopBallast r).ballastPort = (s.stopBallast r).ballastPort := by
  have htest : (s.liveAlarms r).ballastTest r = s.ballastTest r :=
    s.liveAlarms_keeps (State.ballastTest · r) (fun _ _ _ => rfl) r rfl
  have hnow : (s.liveAlarms r).now = s.now := s.liveAlarms_keeps State.now (fun _ _ _ => rfl) r rfl
  have hset : (s.liveAlarms r).settings = s.settings := s.liveAlarms_keeps State.settings (fun _ _ _ => rfl) r rfl
  rw [State.stopBallast_ballastPort, State.stopBallast_ballastPort, htest, hnow, hset, State.liveAlarms_ballastPort,
    s.liveAlarms_link r (by decide)]

/-- The judgement of a live result, the alarms in line. -/
theorem State.installLive_of_none {s : State} (h : s.lmn.stop = none) {r : Result} {c : Criterion}
    (hc : criteria.find? (meets s.tables.limits s.settings.draughtLimit r) = some c) :
    s.installLive r = (s.liveAlarms r).issueStop r c := by
  have htables := s.liveHeld_keeps State.tables (fun _ _ _ => rfl) r rfl
  have hset := s.liveHeld_keeps State.settings (fun _ _ _ => rfl) r rfl
  have hstop := (s.liveHeld_keeps (·.lmn.stop) (fun _ _ _ => rfl) r rfl).trans h
  rw [State.installLive_eq, State.judgeLive_of_none hstop, htables, hset, hc]
  rfl

theorem State.installLive_of_some {s : State} (h : s.lmn.stop ≠ none) (r : Result) :
    s.installLive r = if liftable s.tables.limits s.settings.draughtLimit r then (s.liveAlarms r).resume r
      else (s.liveAlarms r).retestBallast r := by
  have htables := s.liveHeld_keeps State.tables (fun _ _ _ => rfl) r rfl
  have hset := s.liveHeld_keeps State.settings (fun _ _ _ => rfl) r rfl
  have hstop : (s.liveHeld r).lmn.stop ≠ none := by
    rwa [s.liveHeld_keeps (·.lmn.stop) (fun _ _ _ => rfl) r rfl]
  rw [State.installLive_eq, State.judgeLive_of_some hstop, htables, hset]
  rfl

/-- The issue: the queue emptied, the evaluation marked, each crane and port B by its test. -/
theorem State.installLive_issues {s : State} (hqueue : s.queueWf) (h : s.lmn.stop = none) {r : Result} {c : Criterion}
    (hc : criteria.find? (meets s.tables.limits s.settings.draughtLimit r) = some c) :
    (s.installLive r).lmn.stop = some (c, r.serial) ∧ (s.installLive r).lcu.queue = [] ∧
    (∀ k b, (s.installLive r).lcu.inHand = some (k, b) → b = true) ∧
    (∀ k, (s.installLive r).seat k = (s.seat k).stopped c r.serial) ∧
    (s.installLive r).ballastPort = (s.stopBallast r).ballastPort := by
  have hlcu : ((s.liveAlarms r).issueStop r c).lcu =
      (State.withdrawAll { s.liveAlarms r with lmn.stop := some (c, r.serial) } c).lcu := by
    have hballast (u : State) : (u.stopBallast r).lcu = u.lcu := by
      unfold State.stopBallast
      split <;> rfl
    unfold State.issueStop
    rw [hballast, State.stopCranes_keeps State.lcu fun _ _ _ => rfl]
  have hqueue' : (s.liveAlarms r).queueWf := by
    unfold State.queueWf State.lift
    rw [State.liveAlarms_lcu]
    exact hqueue
  rw [State.installLive_of_none h hc]
  refine ⟨State.issueStop_stop _ r c, by rw [hlcu]; rfl, fun k b hk => ?_, fun k => ?_, ?_⟩
  · rw [hlcu] at hk
    obtain ⟨x, -, hx⟩ := Option.map_eq_some_iff.1 hk
    exact (Prod.mk.inj hx).2.symm
  · rw [State.seat_issueStop hqueue', State.liveAlarms_seat]
  · rw [State.issueStop_ballastPort, State.liveAlarms_stopBallast]

/-- A later live result while the stop stands: port B is tested again, and nothing else of a port changes. -/
theorem State.installLive_retests {s : State} (h : s.lmn.stop ≠ none) {r : Result}
    (hlift : liftable s.tables.limits s.settings.draughtLimit r = false) :
    (s.installLive r).lmn.stop = s.lmn.stop ∧ (s.installLive r).lcu = s.lcu ∧
    (∀ k, (s.installLive r).seat k = s.seat k) ∧
    (s.installLive r).ballastPort =
      if (s.stopPort .b).state = .none then (s.stopBallast r).ballastPort else s.ballastPort := by
  have hretest (u : State) (k : Crane) : (u.retestBallast r).lcu = u.lcu ∧ (u.retestBallast r).seat k = u.seat k := by
    unfold State.retestBallast State.stopBallast
    split
    · split
      · exact ⟨rfl, (u.seat_sendStop _ _ _ k).trans (if_neg (portOf_ne_b k))⟩
      · exact ⟨rfl, rfl⟩
    · exact ⟨rfl, rfl⟩
  rw [State.installLive_of_some h, if_neg (by simp [hlift])]
  refine ⟨?_, ?_, fun k => ?_, ?_⟩
  · rw [State.retestBallast_stop, State.liveAlarms_stop]
  · rw [(hretest _ .k1).1, State.liveAlarms_lcu]
  · rw [(hretest _ k).2, State.liveAlarms_seat]
  · unfold State.retestBallast
    rw [State.liveAlarms_stopPort]
    split
    · exact s.liveAlarms_stopBallast r
    · exact s.liveAlarms_ballastPort r

/-- The resume at every port but P. -/
theorem State.installLive_resumes {s : State} (hnodup : s.als.held.Nodup) (h : s.lmn.stop ≠ none) {r : Result}
    (hlift : liftable s.tables.limits s.settings.draughtLimit r = true) :
    (s.installLive r).lcu = s.lcu ∧
    ∀ q, q ≠ .p → (s.installLive r).link q = (if (s.stopPort q).state = .none then s.link q
        else (s.link q).placeOrder (.resume r.serial)) ∧
      ((s.stopPort q).state ≠ .none → (s.installLive r).stopPort q = ⟨.none, none⟩ ∧
        (⟨.stopUnanswered, .port q⟩ : AlarmKey) ∉ (s.installLive r).als.held) := by
  rw [State.installLive_of_some h, if_pos hlift]
  refine ⟨by rw [State.resume_lcu, State.liveAlarms_lcu], fun q hq => ?_⟩
  have hport := State.resume_port (State.liveAlarms_held_nodup hnodup r) r hq
  rwa [State.liveAlarms_stopPort, s.liveAlarms_link r hq] at hport

/-! ### After the job (R42, R185) -/

/-- With no request queued the evaluator takes no permit, and the evaluation in hand stays. -/
theorem State.afterLive_inHand {s : State} (h : s.lcu.queue = []) : s.afterLive.lcu.inHand = s.lcu.inHand := by
  have htake (u : State) : (fun v : State => if v.lcu.queue = [] then v.lcu.inHand else none) u.takeJob =
      if u.lcu.queue = [] then u.lcu.inHand else none := by
    dsimp only
    rcases u.takeJob_cases with hu | ⟨-, -, hu | ⟨c, rest, hqueue, hu⟩ | hu⟩
    · rw [hu]
    · rw [hu]
      rfl
    · rw [State.takeJob_lcu_queue, hqueue]
      rfl
    · rw [hu]
      rfl
  have hqueue : s.afterLive.lcu.queue = s.lcu.queue :=
    s.afterLive_keeps (·.lcu.queue) State.takeJob_lcu_queue (fun _ _ => rfl) (fun _ _ => rfl) rfl
  have hkept := s.afterLive_keeps (fun v : State => if v.lcu.queue = [] then v.lcu.inHand else none) htake
    (fun _ _ => rfl) (fun _ _ => rfl) rfl
  rwa [hqueue, if_pos h, if_pos h] at hkept

theorem State.afterLive_link (s : State) {q : Port} (hq : q ≠ .p) : s.afterLive.link q = s.link q :=
  s.afterLive_keeps (·.link q) (fun u => u.takeJob_link q)
    (fun u _ => (u.link_setLink .p q _).trans (if_neg hq)) (fun _ _ => rfl) rfl

/-- What an installation leaves of cranes, stop, alarms and port B stands after the job. -/
theorem State.afterLive_lmn (s : State) : s.afterLive.lmn = s.lmn :=
  s.afterLive_keeps State.lmn State.takeJob_lmn (fun _ _ => rfl) (fun _ _ => rfl) rfl

theorem State.afterLive_als (s : State) : s.afterLive.als = s.als :=
  s.afterLive_keeps State.als State.takeJob_als (fun _ _ => rfl) (fun _ _ => rfl) rfl

theorem State.afterLive_recs (s : State) : s.afterLive.lcu.recs = s.lcu.recs :=
  s.afterLive_keeps (·.lcu.recs) State.takeJob_lcu_recs (fun _ _ => rfl) (fun _ _ => rfl) rfl

theorem State.afterLive_queue (s : State) : s.afterLive.lcu.queue = s.lcu.queue :=
  s.afterLive_keeps (·.lcu.queue) State.takeJob_lcu_queue (fun _ _ => rfl) (fun _ _ => rfl) rfl

/-! ### The first criterion and the test of port B as the statement has them -/

/-- The first criterion met, the list cut before it. -/
theorem find_criterion {m : Criterion → Bool} {c : Criterion} {before after : List Criterion}
    (hlist : criteria = before ++ c :: after) (hc : m c = true) (hbefore : ∀ e ∈ before, ¬ m e = true) :
    criteria.find? m = some c :=
  List.find?_eq_some_iff_append.2 ⟨hc, before, after, hlist, fun e he => by simpa using hbefore e he⟩

/-- Port B at a test (R144): HEEL for a transfer that worsens the heel, else DRAUGHT for one that takes in water. -/
theorem State.stopBallast_cases (s : State) (r : Result) {heel draught : Prop}
    (hheel : heel ↔ meets s.tables.limits s.settings.draughtLimit r .heel = true ∧
      s.tgt.transfers.any (worsens s.tables r.heel) = true)
    (hdraught : draught ↔ meets s.tables.limits s.settings.draughtLimit r .draught = true ∧
      s.tgt.transfers.any (fun tr => tr.src == .sea) = true) :
    (heel → (s.stopBallast r).ballastPort =
      ((s.link .b).placeOrder (.stop .heel r.serial), ⟨.sent, some (s.now + s.settings.ackWindow * 100)⟩)) ∧
    (¬ heel → draught → (s.stopBallast r).ballastPort =
      ((s.link .b).placeOrder (.stop .draught r.serial), ⟨.sent, some (s.now + s.settings.ackWindow * 100)⟩)) ∧
    (¬ heel → ¬ draught → (s.stopBallast r).ballastPort = s.ballastPort) := by
  have htest : s.ballastTest r = if meets s.tables.limits s.settings.draughtLimit r .heel = true ∧
        s.tgt.transfers.any (worsens s.tables r.heel) = true then some .heel
      else if meets s.tables.limits s.settings.draughtLimit r .draught = true ∧
        s.tgt.transfers.any (fun tr => tr.src == .sea) = true then some .draught
      else none := by
    unfold State.ballastTest
    simp only [Bool.and_eq_true]
  rw [State.stopBallast_ballastPort, htest]
  refine ⟨fun h => by rw [if_pos (hheel.1 h)],
    fun h h' => by rw [if_neg fun hd => h (hheel.2 hd), if_pos (hdraught.1 h')], fun h h' => ?_⟩
  rw [if_neg fun hd => h (hheel.2 hd), if_neg fun hd => h' (hdraught.2 hd)]

/-- A transfer that worsens the heel, by the y of its ends (R144). -/
theorem worsens_iff (t : Tables) (heel : Int) (tr : Transfer) : worsens t heel tr = true ↔
    (endY t tr.src < endY t tr.dst ∧ 0 < heel) ∨ (endY t tr.dst < endY t tr.src ∧ heel < 0) := by
  unfold worsens
  dsimp only
  rw [Bool.or_eq_true, Bool.and_eq_true, Bool.and_eq_true, decide_eq_true_iff, decide_eq_true_iff, decide_eq_true_iff,
    decide_eq_true_iff, sub_pos, sub_neg]

/-- The order to a crane's port and its record, by the record before the issue (R95, R144). -/
theorem Seat.stopped_cases (v : Seat) (c : Criterion) (n : Serial) :
    (v.stopped c n).record = (match v.record with
      | .pending _ _ | .granted _ _ _ _ => .idle
      | other => other) ∧
    (v.stopped c n).link = (match v.record with
      | .pending _ _ => v.link.offer (.refused kLiftRequest .stopped)
      | .granted _ m _ _ => v.link.offer (.liftWithdrawn m c)
      | .hooked _ | .partner _ _ => v.link.placeOrder (.stop c n)
      | .idle | .unfiled _ _ => v.link) ∧
    (v.stopped c n).stop = if v.record.holdsLoad then ⟨.sent, some v.window⟩ else v.stop := by
  obtain ⟨record, link, stop, window⟩ := v
  cases record <;> exact ⟨rfl, rfl, rfl⟩

/-- Settles O57: the state after the judgement by its three outcomes, which the evaluator's next choice and the mode
entry leave as they are. -/
theorem stopReachesItsTargets : Obligations.StopReachesItsTargets := by
  intro s img r hnodup hqueue _ hbusy hkind hr met y worsened intake sent
  have hexec := execLiveJobComplete_eq hbusy hkind hr
  have hstop := s.installLive_stop r
  generalize hw : (s.installLive r).jobDone .live = w at hexec
  have hwlcu : w.lcu = (s.installLive r).lcu := by rw [← hw]; rfl
  have hwlmn : w.lmn = (s.installLive r).lmn := by rw [← hw]; rfl
  have hwals : w.als = (s.installLive r).als := by rw [← hw]; rfl
  have hwlink (q : Port) : w.link q = (s.installLive r).link q := by rw [← hw]; rfl
  have hrecs : w.afterLive.lcu.recs = (s.installLive r).lcu.recs := by rw [w.afterLive_recs, hwlcu]
  have hlist : w.afterLive.lcu.queue = (s.installLive r).lcu.queue := by rw [w.afterLive_queue, hwlcu]
  have hlmn : w.afterLive.lmn = (s.installLive r).lmn := by rw [w.afterLive_lmn, hwlmn]
  have hals : w.afterLive.als = (s.installLive r).als := by rw [w.afterLive_als, hwals]
  have hlink {q : Port} (hq : q ≠ .p) : w.afterLive.link q = (s.installLive r).link q := by
    rw [w.afterLive_link hq, hwlink]
  have hport (q : Port) : w.afterLive.stopPort q = (s.installLive r).stopPort q := by
    unfold State.stopPort
    rw [hlmn]
  have hmet (c : Criterion) : met c ↔ meets s.tables.limits s.settings.draughtLimit r c = true := by
    cases c with
    | heel => exact (meets_heel_iff _ _ r).symm
    | gm => exact (meets_gm_iff _ _ r).symm
    | draught => exact (draughtAbove_iff _ r).symm
    | shear => exact (anyBreach_iff _).symm
    | bending => exact (anyBreach_iff _).symm
  have hy (e : TransferEnd) : endY s.tables e = y e := by
    cases e with
    | sea => rfl
    | tank a =>
      show (match s.tables.tank a with | some d => d.cy | none => 0) = ((s.tables.tank a).map TankDef.cy).getD 0
      cases s.tables.tank a <;> rfl
  have hworsened : worsened ↔ s.tgt.transfers.any (worsens s.tables r.heel) = true := by
    simp only [List.any_eq_true, worsens_iff, hy]
    rfl
  have hintake : intake ↔ s.tgt.transfers.any (fun tr => tr.src == .sea) = true := by
    simp only [List.any_eq_true, beq_iff_eq]
    rfl
  obtain ⟨hheelB, hdraughtB, hneitherB⟩ := s.stopBallast_cases r (and_congr (hmet .heel) hworsened)
    (and_congr (hmet .draught) hintake)
  have hballast {v : Link × StopPort} (h : (s.installLive r).ballastPort = v) :
      w.afterLive.stopPort .b = v.2 ∧ w.afterLive.link .b = v.1 := by
    rw [hport, hlink (by decide), ← h]
    exact ⟨rfl, rfl⟩
  refine ⟨w.afterLive, hexec, fun crit before after hnone hcut hcrit hbefore => ?_, fun hsome hstands => ?_,
    fun hsome hlifted => ?_⟩
  · have hfind := find_criterion (m := meets s.tables.limits s.settings.draughtLimit r) hcut ((hmet crit).1 hcrit)
      fun e he h => hbefore e he ((hmet e).2 h)
    obtain ⟨hissued, hempty, hmarked, hseat, hb⟩ := State.installLive_issues hqueue hnone hfind
    refine ⟨by rw [hlmn, hissued], by rw [hlist, hempty], fun k b hk => ?_, fun c => ?_,
      fun h hw => hballast (hb.trans (hheelB ⟨h, hw⟩)),
      fun h hd hi => hballast (hb.trans (hdraughtB h ⟨hd, hi⟩)),
      fun h hd => hballast (hb.trans (hneitherB h hd))⟩
    · rw [State.afterLive_inHand (by rw [hwlcu, hempty]), hwlcu] at hk
      exact hmarked k b hk
    · obtain ⟨hrecord, hlinkC, hstopC⟩ := (s.seat c).stopped_cases crit r.serial
      rw [← hseat c] at hrecord hlinkC hstopC
      refine ⟨?_, (hlink (portOf_ne_p c)).trans hlinkC, (hport _).trans hstopC⟩
      exact (congrArg (PerCrane.get · c) hrecs).trans hrecord
  · have hlift : liftable s.tables.limits s.settings.draughtLimit r = false := by
      obtain ⟨st, hst⟩ := Option.ne_none_iff_exists'.1 hsome
      rw [hlmn, hstop, hst] at hstands
      dsimp only at hstands
      exact Bool.eq_false_iff.2 fun h => hstands (if_pos h)
    obtain ⟨hkept, hlcu, hseat, hb⟩ := State.installLive_retests hsome hlift
    refine ⟨by rw [hlmn, hkept], by rw [hrecs, hlcu], by rw [hlist, hlcu], fun c => ?_, fun hn h hw => ?_,
      fun hn h hd hi => ?_, fun h => ?_⟩
    · exact ⟨(hport _).trans (congrArg Seat.stop (hseat c)),
        (hlink (portOf_ne_p c)).trans (congrArg Seat.link (hseat c))⟩
    · exact hballast ((hb.trans (if_pos hn)).trans (hheelB ⟨h, hw⟩))
    · exact hballast ((hb.trans (if_pos hn)).trans (hdraughtB h ⟨hd, hi⟩))
    · refine hballast (v := s.ballastPort) (hb.trans ?_)
      split
      next hn =>
        obtain ⟨hh, hd⟩ := h.resolve_left fun hne => hne hn
        exact hneitherB hh hd
      next => rfl
  · have hlift : liftable s.tables.limits s.settings.draughtLimit r = true := by
      obtain ⟨st, hst⟩ := Option.ne_none_iff_exists'.1 hsome
      rw [hlmn, hstop, hst] at hlifted
      dsimp only at hlifted
      split at hlifted
      next h => exact h
      next => cases hlifted
    obtain ⟨hlcu, hresumed⟩ := State.installLive_resumes hnodup hsome hlift
    refine ⟨fun q hq => ?_, by rw [hrecs, hlcu], by rw [hlist, hlcu]⟩
    rw [hlink hq, hport, hals]
    exact hresumed q hq

end Sys2Proof.Machine
end

section
/-!
What the removal of a lot changes (R18, R21, R23, R99, R100): the table and the records with their alarms, the judgement
of a space, and the places in which a lot number is held.
-/

namespace Sys2Proof.Machine

set_option Elab.async false

/-! ### The judgement of a space (R18) -/

/-- A space judged: its capacity state, and its alarm when that state changes. -/
theorem State.judgeSpace_of_cargo {s : State} {a : Nat} {box : Box} {capacity : Int}
    (h : s.tables.cargo a = some (box, capacity)) : s.judgeSpace a =
      (s.capacityAlarm a (lookup s.ct.spaces a) (capStateOf (s.ct.load a) capacity)).withCtLcu
        { s.ct with spaces := (s.judgeSpace a).ct.spaces } s.lcu := by
  have hjudged := State.judgeSpace_withCtLcu h s.ct s.lcu
  rw [State.withCtLcu_self] at hjudged
  unfold State.capacityAlarm
  split
  next hsame =>
    rw [if_pos hsame] at hjudged
    rw [hjudged]
    rfl
  next hsame =>
    rw [if_neg hsame] at hjudged
    rw [hjudged]
    rfl

theorem State.judgeSpace_of_none {s : State} {a : Nat} (h : s.tables.cargo a = none) : s.judgeSpace a = s := by
  unfold State.judgeSpace
  rw [h]

@[simp] theorem State.judgeSpace_load (s : State) (a b : Nat) : (s.judgeSpace a).ct.load b = s.ct.load b := by
  simp only [CondTable.load, CondTable.total, CondTable.stow, State.judgeSpace_ct_lots, State.judgeSpace_ct_filing]

/-! ### Changes of lots, records and hooks with their alarms -/

/-- `t` is `s` with other lots, filing list, capacity states, structures and serial, other records and hooks, and a
changed alarm list with its notices. -/
structure State.LotMoved (s t : State) : Prop where
  noted : (s.withCtLcu t.ct t.lcu).Noted t
  table : t.ct = { s.ct with
    lots := t.ct.lots
    filing := t.ct.filing
    spaces := t.ct.spaces
    structs := t.ct.structs
    serial := t.ct.serial }
  unit : t.lcu = { s.lcu with recs := t.lcu.recs, hooks := t.lcu.hooks }

namespace State.LotMoved

theorem of_noted {s e : State} (h : s.Noted e) {ct : CondTable} {lcu : Lcu}
    (hct : ct = { s.ct with
      lots := ct.lots, filing := ct.filing, spaces := ct.spaces, structs := ct.structs, serial := ct.serial })
    (hlcu : lcu = { s.lcu with recs := lcu.recs, hooks := lcu.hooks }) : s.LotMoved (e.withCtLcu ct lcu) :=
  ⟨h.withCtLcu ct lcu, hct, hlcu⟩

theorem refl (s : State) : s.LotMoved s := of_noted (State.Noted.refl s) rfl rfl

theorem trans {s t u : State} (h : s.LotMoved t) (h' : t.LotMoved u) : s.LotMoved u where
  noted := (h.noted.withCtLcu u.ct u.lcu).trans h'.noted
  table := by
    rw [h'.table, h.table]
  unit := by
    rw [h'.unit, h.unit]

theorem alarms {s e : State} (h : s.Noted e) : s.LotMoved e := by
  have hct := h.ct_eq
  have hlcu : e.lcu = s.lcu := h.keeps State.lcu fun _ _ _ => rfl
  refine ⟨?_, by rw [hct], by rw [hlcu]⟩
  rw [hct, hlcu]
  exact h

/-- What is read of none of these stays. -/
theorem keeps {β : Type} (f : State → β)
    (hf : ∀ (s : State) (l : Link) (a : Als) (ct : CondTable) (lcu : Lcu),
      f { s.setLink .p l with als := a, ct := ct, lcu := lcu } = f s)
    {s t : State} (h : s.LotMoved t) : f t = f s := by
  obtain ⟨ms, -, ht⟩ := h.noted
  rw [ht]
  exact hf s _ _ _ _

theorem tables {s t : State} (h : s.LotMoved t) : t.tables = s.tables :=
  h.keeps State.tables fun _ _ _ _ _ => rfl

theorem seconds {s t : State} (h : s.LotMoved t) : t.seconds = s.seconds :=
  h.keeps State.seconds fun _ _ _ _ _ => rfl

theorem setLift (s : State) (c : Crane) (r : LiftRec) : s.LotMoved (s.setLift c r) :=
  of_noted (State.Noted.refl s) (ct := s.ct) (lcu := { s.lcu with recs := s.lcu.recs.set c r }) rfl rfl

theorem bump (s : State) : s.LotMoved s.bump :=
  of_noted (State.Noted.refl s) (ct := { s.ct with serial := s.ct.serial + 1 }) (lcu := s.lcu) rfl rfl

theorem putHook (s : State) (c : Crane) (q : Pt) (h : Int) : s.LotMoved (s.putHook c q h) := by
  unfold State.putHook State.moveStructure
  split
  · exact of_noted (State.Noted.refl s) (ct := { s.ct with structs := _ })
      (lcu := { s.lcu with hooks := s.lcu.hooks.set c ⟨q.x, q.y, h, .reported⟩ }) rfl rfl
  · exact of_noted (State.Noted.refl s) (ct := s.ct)
      (lcu := { s.lcu with hooks := s.lcu.hooks.set c ⟨q.x, q.y, h, .reported⟩ }) rfl rfl

/-- The capacity state of a space and its alarm (R18). -/
theorem judgeSpace (s : State) (a : Nat) : s.LotMoved (s.judgeSpace a) := by
  cases ha : s.tables.cargo a with
  | none =>
    rw [State.judgeSpace_of_none ha]
    exact refl s
  | some e =>
    obtain ⟨box, capacity⟩ := e
    rw [State.judgeSpace_of_cargo ha]
    exact of_noted (State.Noted.capacityAlarm s _ _ _) rfl rfl

end State.LotMoved

/-! ### The judgement of a space after its load has changed (R18) -/

/-- A space judged in a state `x` whose capacity states are those of `s`. -/
theorem State.judgeSpace_capacityJudged {s x : State} (htables : x.tables = s.tables)
    (hspaces : x.ct.spaces = s.ct.spaces) (hnodup : s.als.held.Nodup → x.als.held.Nodup) (a : Nat) :
    s.capacityJudged (x.judgeSpace a) a := by
  intro box capacity before ha hbefore
  have ha' : x.tables.cargo a = some (box, capacity) := by rw [htables, ha]
  have hself (h : (lookup s.ct.spaces a).isSome = true) :
      lookup (x.judgeSpace a).ct.spaces a = some (capStateOf ((x.judgeSpace a).ct.load a) capacity) := by
    rw [State.judgeSpace_load]
    exact State.judgeSpace_self x a box capacity ha' (by rw [hspaces]; exact h)
  have hals : (x.judgeSpace a).als =
      (x.capacityAlarm a (lookup s.ct.spaces a) (capStateOf ((x.judgeSpace a).ct.load a) capacity)).als := by
    rw [State.judgeSpace_load, ← hspaces]
    exact (congrArg State.als (State.judgeSpace_of_cargo ha')).trans rfl
  exact State.capacityJudged_of_alarm ha hself hals hnodup box capacity before ha hbefore

/-- What a judgement says of a space is read from its capacity state, its load and its condition. -/
theorem State.capacityJudged.of_same {s t u : State} {a : Nat} (h : s.capacityJudged t a)
    (hspace : lookup u.ct.spaces a = lookup t.ct.spaces a) (hload : u.ct.load a = t.ct.load a)
    (hheld : (⟨.overCapacity, .addr a⟩ : AlarmKey) ∈ u.als.held ↔ (⟨.overCapacity, .addr a⟩ : AlarmKey) ∈ t.als.held) :
    s.capacityJudged u a := by
  intro box capacity before ha hbefore
  rw [hspace, hload, hheld]
  exact h box capacity before ha hbefore

/-- A judgement leaves every condition but its own as it was. -/
theorem State.mem_held_judgeSpace_of_ne {s : State} {a : Nat} {j : AlarmKey} (h : j.kind ≠ .overCapacity) :
    j ∈ (s.judgeSpace a).als.held ↔ j ∈ s.als.held := by
  cases ha : s.tables.cargo a with
  | none => rw [State.judgeSpace_of_none ha]
  | some e =>
    rw [State.judgeSpace_of_cargo ha]
    exact State.mem_held_capacityAlarm_of_ne (fun hj => h (by rw [hj])) _ _

theorem State.judgeSpace_held_nodup {s : State} (h : s.als.held.Nodup) (a : Nat) :
    (s.judgeSpace a).als.held.Nodup := by
  cases ha : s.tables.cargo a with
  | none => rwa [State.judgeSpace_of_none ha]
  | some e =>
    rw [State.judgeSpace_of_cargo ha]
    unfold State.capacityAlarm
    split
    · exact h
    · exact State.keep_held_nodup h _ _

/-! ### The places of a lot number (R16) -/

/-- The records that hold a lot on the hooks: HOOKED with it, or its tandem's partner. -/
def LiftRec.hangs (r : LiftRec) (n : Nat) : Prop := r.hookedLot = some n ∨ ∃ lower, r = .partner n lower

theorem LiftRec.hookedLot_eq_some {r : LiftRec} {n : Nat} : r.hookedLot = some n ↔ ∃ l, r = .hooked l ∧ l.lot = n := by
  cases r <;> simp [LiftRec.hookedLot]

/-- Where a lot may be held when crane `c` lifts one off: each number in one place, the filing list full of the records
that wait, the records of a tandem lift together, and no load on the crane's own hook (R15, R16, R23, R105). -/
structure State.Liftable (s : State) (c : Crane) : Prop where
  lots : s.heldLots.Nodup
  pool : s.poolWf
  waiting : s.filingWf
  partner : ∀ k n j, s.lift k = .partner n j → j = mate k ∧ (s.lift j).tandemLot = some n
  tandem : ∀ k l, s.lift k = .hooked l → l.tandem.isSome = true → s.lift (mate k) = .partner l.lot k
  free : (s.lift c).holdsLoad = false

/-- The places of a lot number exclude each other (R16). -/
structure State.OnePlace (s : State) (n : Nat) : Prop where
  lots : (s.ct.lots.map Lot.num).Nodup
  filing : (s.ct.filing.map Filing.num).Nodup
  stowed : ∀ l ∈ s.ct.lots, l.num = n → (∀ k, (s.lift k).hookedLot ≠ some n) ∧ ∀ f ∈ s.ct.filing, f.num ≠ n
  hooked : ∀ k, (s.lift k).hookedLot = some n →
    (∀ f ∈ s.ct.filing, f.num ≠ n) ∧ ∀ j, (s.lift j).hookedLot = some n → j = k

theorem State.onePlace {s : State} (h : s.heldLots.Nodup) (n : Nat) : s.OnePlace n := by
  obtain ⟨hleft, hfiling, hapart⟩ := List.nodup_append.1 h
  obtain ⟨hlots, hhooked, hstow⟩ := List.nodup_append.1 hleft
  have hmem {k : Crane} (hk : (s.lift k).hookedLot = some n) :
      n ∈ cranes.filterMap fun c => (s.lift c).hookedLot := List.mem_filterMap.2 ⟨k, mem_cranes k, hk⟩
  refine ⟨hlots, hfiling, fun l hl hn => ⟨fun k hk => ?_, fun f hf hfn => ?_⟩,
    fun k hk => ⟨fun f hf hfn => ?_, fun j hj => ?_⟩⟩
  · exact hstow _ (List.mem_map_of_mem hl) _ (hmem hk) hn
  · exact hapart _ (List.mem_append_left _ (List.mem_map_of_mem hl)) _ (List.mem_map_of_mem hf) (hn.trans hfn.symm)
  · exact hapart _ (List.mem_append_right _ (hmem hk)) _ (List.mem_map_of_mem hf) hfn.symm
  · by_contra hne
    have hdistinct := List.pairwise_filterMap.1 hhooked
    have hsymm : Std.Symm fun a b : Crane => ∀ m, (s.lift a).hookedLot = some m →
        ∀ m', (s.lift b).hookedLot = some m' → m ≠ m' := ⟨fun a b hab m hm m' hm' => (hab m' hm' m hm).symm⟩
    exact hdistinct.forall (mem_cranes j) (mem_cranes k) hne n hj n hk rfl

/-- Of entries with different numbers, the one of a number is the only one. -/
theorem eraseP_num_eq_filter {α : Type} {num : α → Nat} {l : List α} (h : (l.map num).Nodup) (n : Nat) :
    (l.eraseP fun e => num e == n) = l.filter fun e => num e != n := by
  induction l with
  | nil => rfl
  | cons a rest ih =>
    obtain ⟨hfresh, hrest⟩ := List.nodup_cons.1 h
    by_cases ha : num a = n
    · have hall : rest.filter (fun e => num e != n) = rest := List.filter_eq_self.2 fun e he => by
        simp only [bne_iff_ne, ne_eq]
        exact fun hen => hfresh (ha.trans hen.symm ▸ List.mem_map_of_mem he)
      rw [List.eraseP_cons_of_pos (by simpa using ha), List.filter_cons_of_neg (by simpa using ha), hall]
    · rw [List.eraseP_cons_of_neg (by simpa using ha), List.filter_cons_of_pos (by simpa using ha), ih hrest]

end Sys2Proof.Machine
end

section
/-!
A lot taken from where it is held (R21, R23, R99, R100, R111): its stow list, another port's hook, or the filing list.
-/

namespace Sys2Proof.Machine

set_option Elab.async false

/-! ### Where a lot may be held -/

theorem LiftRec.hookedLot_of_tandemLot {r : LiftRec} {n : Nat} (h : r.tandemLot = some n) : r.hookedLot = some n := by
  cases r with
  | hooked l =>
    simp only [LiftRec.tandemLot] at h
    split at h
    · exact h
    · cases h
  | _ => simp [LiftRec.tandemLot] at h

theorem LiftRec.holdsLoad_of_hangs {r : LiftRec} {n : Nat} (h : r.hangs n) : r.holdsLoad = true := by
  rcases h with h | ⟨lower, rfl⟩
  · obtain ⟨l, rfl, -⟩ := LiftRec.hookedLot_eq_some.1 h
    rfl
  · rfl

namespace State.Liftable

variable {s : State} {c : Crane}

/-- A lot on the hooks is on a HOOKED record's. -/
theorem hooked_of_hangs (h : s.Liftable c) {k : Crane} {n : Nat} (hk : (s.lift k).hangs n) :
    ∃ j, (s.lift j).hookedLot = some n := by
  rcases hk with hk | ⟨lower, hk⟩
  · exact ⟨k, hk⟩
  · exact ⟨lower, LiftRec.hookedLot_of_tandemLot (h.partner k n lower hk).2⟩

/-- The cranes of a HOOKED record's lift. -/
theorem hangs_iff (h : s.Liftable c) {j : Crane} {l : Load} (hj : s.lift j = .hooked l) (k : Crane) :
    (s.lift k).hangs l.lot ↔ k = j ∨ (k = mate j ∧ l.tandem.isSome = true) := by
  have honly := (State.onePlace h.lots l.lot).hooked j (by rw [hj]; rfl)
  constructor
  · rintro (hk | ⟨lower, hk⟩)
    · exact .inl (honly.2 k hk)
    · obtain ⟨hmate, htandem⟩ := h.partner k _ lower hk
      obtain rfl := honly.2 lower (LiftRec.hookedLot_of_tandemLot htandem)
      rw [hj] at htandem
      refine .inr ⟨by rw [hmate, mate_mate], ?_⟩
      by_contra hnone
      simp [LiftRec.tandemLot, hnone] at htandem
  · rintro (rfl | ⟨rfl, ht⟩)
    · exact .inl (by rw [hj]; rfl)
    · exact .inr ⟨j, h.tandem j l hj ht⟩

/-- A LANDED_UNFILED record has its entry in the filing list. -/
theorem filed_of_unfiled (h : s.Liftable c) {k : Crane} {n : Nat} (hk : (s.lift k).unfiledLot = some n) :
    ∃ f ∈ s.ct.filing, f.num = n ∧ f.crane = k := by
  rw [h.waiting.2 k (mem_cranes k)] at hk
  obtain ⟨f, hf, hn⟩ := Option.map_eq_some_iff.1 hk
  exact ⟨f, List.mem_of_find?_eq_some hf, hn, by simpa using List.find?_some hf⟩

/-- Every entry of the filing list is its crane's LANDED_UNFILED record's. -/
theorem unfiled_of_filed (h : s.Liftable c) {f : Filing} (hf : f ∈ s.ct.filing) :
    (s.lift f.crane).unfiledLot = some f.num := by
  rw [h.waiting.2 f.crane (mem_cranes _)]
  cases hg : s.ct.filing.find? fun g => g.crane == f.crane with
  | none => exact absurd (List.find?_eq_none.1 hg f hf) (by simp)
  | some g =>
    have hcrane : g.crane = f.crane := by simpa using List.find?_some hg
    rw [List.inj_on_of_nodup_map h.waiting.1 (List.mem_of_find?_eq_some hg) hf hcrane]
    rfl

end State.Liftable

/-! ### What the removal of a lot leaves -/

/-- `t` is `s` with lot `n` held nowhere: no stow list and no filing list entry has it, the records that held it are
IDLE with their UNKNOWN hooks settled and their conditions cleared, the space that it lay in or waited for is judged,
and nothing else has changed. -/
structure State.LotTaken (s t : State) (n : Nat) : Prop where
  moved : s.LotMoved t
  lots : t.ct.lots = s.ct.lots.filter fun l => l.num != n
  filing : t.ct.filing = s.ct.filing.filter fun f => f.num != n
  serial : t.ct.serial = s.ct.serial
  judged : ∀ a, ((∃ l ∈ s.ct.lots, l.num = n ∧ l.loc = a) ∨ ∃ f ∈ s.ct.filing, f.num = n ∧ f.dest = a) →
    s.capacityJudged t a
  unjudged : ∀ a, ¬ ((∃ l ∈ s.ct.lots, l.num = n ∧ l.loc = a) ∨ ∃ f ∈ s.ct.filing, f.num = n ∧ f.dest = a) →
    lookup t.ct.spaces a = lookup s.ct.spaces a
  ended : ∀ k, (s.lift k).hangs n ∨ (s.lift k).unfiledLot = some n → t.lift k = .idle
  kept : ∀ k, ¬ ((s.lift k).hangs n ∨ (s.lift k).unfiledLot = some n) → t.lift k = s.lift k
  settled : ∀ k, (s.lift k).hangs n → (s.hook k).source = .unknown → ∀ d, s.tables.crane k = some d →
    t.hook k = ⟨d.px, d.py, 0, .reported⟩ ∧ t.ct.structs.get k = some (d.centroid ⟨d.px, d.py⟩)
  still : ∀ k, ¬ (s.lift k).hangs n ∨ (s.hook k).source = .reported →
    t.hook k = s.hook k ∧ t.ct.structs.get k = s.ct.structs.get k
  nodup : s.als.held.Nodup → t.als.held.Nodup
  quiet : s.als.held.Nodup → ∀ k, (s.lift k).hangs n →
    (⟨.unpermittedLift, .crane k⟩ : AlarmKey) ∉ t.als.held ∧ (⟨.positionUnknown, .crane k⟩ : AlarmKey) ∉ t.als.held
  filed : s.als.held.Nodup → ∀ k, (s.lift k).unfiledLot = some n →
    (⟨.landedUnfiled, .crane k⟩ : AlarmKey) ∉ t.als.held

/-- A lot that is held nowhere. -/
theorem State.LotTaken.of_nowhere {s : State} {c : Crane} (h : s.Liftable c) {n : Nat}
    (hlots : ∀ l ∈ s.ct.lots, l.num ≠ n) (hhooks : ∀ k, (s.lift k).hookedLot ≠ some n)
    (hfiling : ∀ f ∈ s.ct.filing, f.num ≠ n) : s.LotTaken s n := by
  have hhangs (k : Crane) : ¬ (s.lift k).hangs n := fun hk =>
    let ⟨j, hj⟩ := h.hooked_of_hangs hk
    hhooks j hj
  have hunfiled (k : Crane) : (s.lift k).unfiledLot ≠ some n := fun hk =>
    let ⟨f, hf, hn, _⟩ := h.filed_of_unfiled hk
    hfiling f hf hn
  exact {
    moved := State.LotMoved.refl s
    lots := (List.filter_eq_self.2 fun l hl => by simpa using hlots l hl).symm
    filing := (List.filter_eq_self.2 fun f hf => by simpa using hfiling f hf).symm
    serial := rfl
    judged := fun a ha => by
      rcases ha with ⟨l, hl, hn, -⟩ | ⟨f, hf, hn, -⟩
      · exact absurd hn (hlots l hl)
      · exact absurd hn (hfiling f hf)
    unjudged := fun _ _ => rfl
    ended := fun k hk => hk.elim (fun hk => absurd hk (hhangs k)) fun hk => absurd hk (hunfiled k)
    kept := fun _ _ => rfl
    settled := fun k hk => absurd hk (hhangs k)
    still := fun _ _ => ⟨rfl, rfl⟩
    nodup := id
    quiet := fun _ k hk => absurd hk (hhangs k)
    filed := fun _ k hk => absurd hk (hunfiled k) }

/-! ### From its stow list (R21) -/

theorem CondTable.lot_eq_some {t : CondTable} (hnodup : (t.lots.map Lot.num).Nodup) {l : Lot} (hl : l ∈ t.lots) :
    t.lot l.num = some l := by
  unfold CondTable.lot
  cases hm : t.lots.find? fun m => m.num == l.num with
  | none => exact absurd (List.find?_eq_none.1 hm l hl) (by simp)
  | some m =>
    have hnum : m.num = l.num := by simpa using List.find?_some hm
    rw [List.inj_on_of_nodup_map hnodup (List.mem_of_find?_eq_some hm) hl hnum]

theorem CondTable.lot_eq_none {t : CondTable} {n : Nat} : t.lot n = none ↔ ∀ l ∈ t.lots, l.num ≠ n := by
  simp [CondTable.lot]

theorem State.takeLot_of_none {s : State} {n : Nat} (h : ∀ l ∈ s.ct.lots, l.num ≠ n) : s.takeLot n = s := by
  unfold State.takeLot
  rw [CondTable.lot_eq_none.2 h]

theorem State.takeLot_taken {s : State} {c : Crane} (h : s.Liftable c) {l : Lot} (hl : l ∈ s.ct.lots) :
    s.LotTaken (s.takeLot l.num) l.num := by
  have hplace := State.onePlace h.lots l.num
  obtain ⟨hhooks, hfiling⟩ := hplace.stowed l hl rfl
  have hhangs (k : Crane) : ¬ (s.lift k).hangs l.num := fun hk =>
    let ⟨j, hj⟩ := h.hooked_of_hangs hk
    hhooks j hj
  have hunfiled (k : Crane) : (s.lift k).unfiledLot ≠ some l.num := fun hk =>
    let ⟨f, hf, hn, _⟩ := h.filed_of_unfiled hk
    hfiling f hf hn
  have hsame {m : Lot} (hm : m ∈ s.ct.lots) (hn : m.num = l.num) : m = l :=
    List.inj_on_of_nodup_map hplace.lots hm hl hn
  obtain ⟨x, hx⟩ : ∃ x, x = s.withCtLcu { s.ct with lots := s.ct.lots.filter fun m => m.num != l.num } s.lcu :=
    ⟨_, rfl⟩
  have htaken : s.takeLot l.num = x.judgeSpace l.loc := by
    unfold State.takeLot
    rw [CondTable.lot_eq_some hplace.lots hl, hx, ← eraseP_num_eq_filter hplace.lots]
    rfl
  have hmoved : s.LotMoved x := hx ▸ State.LotMoved.of_noted (State.Noted.refl s) rfl rfl
  have hals : x.als = s.als := by rw [hx]; rfl
  have hspaces : x.ct.spaces = s.ct.spaces := by rw [hx]; rfl
  rw [htaken]
  exact {
    moved := hmoved.trans (State.LotMoved.judgeSpace x _)
    lots := by
      rw [State.judgeSpace_ct_lots, hx]
      rfl
    filing := by
      rw [State.judgeSpace_ct_filing, hx]
      exact (List.filter_eq_self.2 fun f hf => by simpa using hfiling f hf).symm
    serial := by
      rw [State.judgeSpace_ct_serial, hx]
      rfl
    judged := fun a ha => by
      rcases ha with ⟨m, hm, hn, rfl⟩ | ⟨f, hf, hn, -⟩
      · rw [hsame hm hn]
        exact State.judgeSpace_capacityJudged hmoved.tables hspaces (by rw [hals]; exact id) l.loc
      · exact absurd hn (hfiling f hf)
    unjudged := fun a ha => by
      rw [State.judgeSpace_other _ _ _ fun he => ha (.inl ⟨l, hl, rfl, he.symm⟩), hspaces]
    ended := fun k hk => hk.elim (fun hk => absurd hk (hhangs k)) fun hk => absurd hk (hunfiled k)
    kept := fun k _ => by
      unfold State.lift
      rw [State.judgeSpace_lcu, hx]
      rfl
    settled := fun k hk => absurd hk (hhangs k)
    still := fun k _ => by
      unfold State.hook
      rw [State.judgeSpace_lcu, State.judgeSpace_ct_structs, hx]
      exact ⟨rfl, rfl⟩
    nodup := fun hn => State.judgeSpace_held_nodup (by rwa [hals]) _
    quiet := fun _ k hk => absurd hk (hhangs k)
    filed := fun _ k hk => absurd hk (hunfiled k) }

/-! ### From another port's hook (R100, R111) -/

theorem State.hookedElsewhere_eq_some {s : State} {c k : Crane} {n : Nat} {l : Load}
    (h : s.hookedElsewhere c n = some (k, l)) : s.lift k = .hooked l ∧ l.lot = n ∧ k ≠ c := by
  obtain ⟨j, -, hj⟩ := List.exists_of_findSome?_eq_some h
  cases hrec : s.lift j with
  | hooked m =>
    rw [hrec] at hj
    dsimp only at hj
    split at hj
    next hm =>
      cases hj
      exact ⟨hrec, hm⟩
    next => cases hj
  | _ => simp [hrec] at hj

theorem State.hookedElsewhere_eq_none {s : State} {c : Crane} {n : Nat} :
    s.hookedElsewhere c n = none ↔ ∀ k, k ≠ c → (s.lift k).hookedLot ≠ some n := by
  unfold State.hookedElsewhere
  rw [List.findSome?_eq_none_iff]
  refine ⟨fun h k hk hlot => ?_, fun h k _ => ?_⟩
  · obtain ⟨l, hl, hn⟩ := LiftRec.hookedLot_eq_some.1 hlot
    have := h k (mem_cranes k)
    simp [hl, hn, hk] at this
  · cases hrec : s.lift k with
    | hooked l =>
      have := h k
      rw [hrec] at this
      dsimp only
      rw [if_neg]
      exact fun hl => this hl.2 (congrArg some hl.1)
    | _ => rfl

theorem State.removeHooked_of_none {s : State} {c : Crane} {n : Nat}
    (h : ∀ k, k ≠ c → (s.lift k).hookedLot ≠ some n) : s.removeHooked c n = s := by
  unfold State.removeHooked
  rw [State.hookedElsewhere_eq_none.2 h]

/-- The hooks of a lift that is removed (R100, R111). -/
structure State.LiftSettled (s t : State) (c : Crane) (l : Load) : Prop where
  rest : t = s.withCtLcu { s.ct with structs := t.ct.structs } { s.lcu with hooks := t.lcu.hooks }
  settled : ∀ k, k = c ∨ (k = mate c ∧ l.tandem.isSome = true) → (s.hook k).source = .unknown →
    ∀ d, s.tables.crane k = some d →
      t.hook k = ⟨d.px, d.py, 0, .reported⟩ ∧ t.ct.structs.get k = some (d.centroid ⟨d.px, d.py⟩)
  still : ∀ k, ¬ (k = c ∨ (k = mate c ∧ l.tandem.isSome = true)) ∨ (s.hook k).source = .reported →
    t.hook k = s.hook k ∧ t.ct.structs.get k = s.ct.structs.get k

theorem State.settleLift_settled (s : State) (c : Crane) (l : Load) : s.LiftSettled (s.settleLift c l) c l := by
  have hown := s.settleHook_settled c
  unfold State.settleLift
  by_cases ht : l.tandem.isSome = true
  · rw [if_pos ht]
    have hmate := (s.settleHook c).settleHook_settled (mate c)
    have htables : (s.settleHook c).tables = s.tables := by rw [hown.rest]; rfl
    obtain ⟨hbefore, hbefore'⟩ := hown.other (mate c) (mate_ne c)
    obtain ⟨hafter, hafter'⟩ := hmate.other c (mate_ne c).symm
    refine ⟨?_, fun k hk hu d hd => ?_, fun k hk => ?_⟩
    · rw [hmate.rest, hown.rest]
      rfl
    · rcases hk with rfl | ⟨rfl, -⟩
      · rw [hafter, hafter']
        exact hown.unknown hu d hd
      · exact hmate.unknown (by rw [hbefore]; exact hu) d (by rw [htables]; exact hd)
    · by_cases hkc : k = c
      · subst hkc
        rw [hafter, hafter']
        exact hown.reported (hk.resolve_left fun h => h (.inl rfl))
      · by_cases hkm : k = mate c
        · subst hkm
          rw [← hbefore, ← hbefore']
          refine hmate.reported ?_
          rw [hbefore]
          exact hk.resolve_left fun h => h (.inr ⟨rfl, ht⟩)
        · obtain ⟨h1, h2⟩ := hmate.other k hkm
          obtain ⟨h3, h4⟩ := hown.other k hkc
          exact ⟨h1.trans h3, h2.trans h4⟩
  · rw [if_neg ht]
    refine ⟨hown.rest, fun k hk hu d hd => ?_, fun k hk => ?_⟩
    · obtain rfl := hk.resolve_right fun h => ht h.2
      exact hown.unknown hu d hd
    · by_cases hkc : k = c
      · subst hkc
        exact hown.reported (hk.resolve_left fun h => h (.inl rfl))
      · exact hown.other k hkc

theorem State.loadAlarmsCleared_held_nodup {s : State} (h : s.als.held.Nodup) (c : Crane) (l : Load) :
    (s.loadAlarmsCleared c l).als.held.Nodup := by
  unfold State.loadAlarmsCleared State.clearLoadAlarms
  split
  · exact State.clear_held_nodup (State.clear_held_nodup (State.clear_held_nodup (State.clear_held_nodup h _) _) _) _
  · exact State.clear_held_nodup (State.clear_held_nodup h _) _

theorem State.removeHooked_taken {s : State} {c k : Crane} (h : s.Liftable c) {l : Load}
    (hk : s.lift k = .hooked l) (hkc : k ≠ c) : s.LotTaken (s.removeHooked c l.lot) l.lot := by
  have hlot : (s.lift k).hookedLot = some l.lot := by rw [hk]; rfl
  have hplace := State.onePlace h.lots l.lot
  obtain ⟨hfiling, honly⟩ := hplace.hooked k hlot
  have hlots (m : Lot) (hm : m ∈ s.ct.lots) (hn : m.num = l.lot) : False := (hplace.stowed m hm hn).1 k hlot
  have hunfiled (j : Crane) : (s.lift j).unfiledLot ≠ some l.lot := fun hj =>
    let ⟨f, hf, hn, _⟩ := h.filed_of_unfiled hj
    hfiling f hf hn
  have hfound : s.hookedElsewhere c l.lot = some (k, l) := by
    cases hf : s.hookedElsewhere c l.lot with
    | none => exact absurd hlot (State.hookedElsewhere_eq_none.1 hf k hkc)
    | some e =>
      obtain ⟨j, m⟩ := e
      obtain ⟨hj, hm, -⟩ := State.hookedElsewhere_eq_some hf
      obtain rfl := honly j (by rw [hj, ← hm]; rfl)
      rw [hk] at hj
      cases hj
      rfl
  have hremoved : s.removeHooked c l.lot =
      ((s.loadAlarmsCleared k l).withCtLcu s.ct (s.lcu.liftEnded k l .idle)).settleLift k l := by
    unfold State.removeHooked
    rw [hfound, ← State.endLift_eq]
  have hnoted := State.Noted.loadAlarmsCleared s k l
  have hsettled := State.settleLift_settled ((s.loadAlarmsCleared k l).withCtLcu s.ct (s.lcu.liftEnded k l .idle)) k l
  have htables : ((s.loadAlarmsCleared k l).withCtLcu s.ct (s.lcu.liftEnded k l .idle)).tables = s.tables :=
    hnoted.tables_eq
  rw [← hremoved] at hsettled
  have hrecord (j : Crane) : (s.removeHooked c l.lot).lift j =
      if j = mate k ∧ l.tandem.isSome = true then .idle else if j = k then .idle else s.lift j := by
    rw [hsettled.rest]
    exact s.lcu.liftEnded_get k l .idle j
  have hcleared (hn : s.als.held.Nodup) := State.loadAlarmsCleared_held_nodup hn k l
  have hals : (s.removeHooked c l.lot).als = (s.loadAlarmsCleared k l).als := by
    rw [hsettled.rest]
    rfl
  exact {
    moved := by
      rw [hsettled.rest]
      exact State.LotMoved.of_noted hnoted rfl rfl
    lots := by
      rw [hsettled.rest]
      exact (List.filter_eq_self.2 fun m hm => by simpa using hlots m hm).symm
    filing := by
      rw [hsettled.rest]
      exact (List.filter_eq_self.2 fun f hf => by simpa using hfiling f hf).symm
    serial := by
      rw [hsettled.rest]
      rfl
    judged := fun a ha => by
      rcases ha with ⟨m, hm, hn, -⟩ | ⟨f, hf, hn, -⟩
      · exact (hlots m hm hn).elim
      · exact absurd hn (hfiling f hf)
    unjudged := fun a _ => by
      rw [hsettled.rest]
      rfl
    ended := fun j hj => by
      have hj' := (h.hangs_iff hk j).1 (hj.resolve_right (hunfiled j))
      rw [hrecord]
      rcases hj' with rfl | hj'
      · simp
      · exact if_pos hj'
    kept := fun j hj => by
      have hj' := fun hh => hj (.inl ((h.hangs_iff hk j).2 hh))
      rw [hrecord, if_neg fun hh => hj' (.inr hh), if_neg fun hh => hj' (.inl hh)]
    settled := fun j hj hu d hd =>
      hsettled.settled j ((h.hangs_iff hk j).1 hj) hu d (by rw [htables]; exact hd)
    still := fun j hj => hsettled.still j (hj.imp_left (mt (h.hangs_iff hk j).2))
    nodup := fun hn => by
      rw [hals]
      exact hcleared hn
    quiet := fun hn j hj => by
      rw [hals]
      exact State.not_mem_held_loadAlarmsCleared hn ((h.hangs_iff hk j).1 hj)
    filed := fun _ j hj => absurd hj (hunfiled j) }

/-! ### From the filing list (R23, R100) -/

theorem State.removeFiled_of_none {s : State} {n : Nat} (h : ∀ f ∈ s.ct.filing, f.num ≠ n) : s.removeFiled n = s := by
  have hnone : (s.ct.filing.find? fun f => f.num == n) = none := by simpa using h
  unfold State.removeFiled
  rw [hnone]

theorem State.removeFiled_taken {s : State} {c : Crane} (h : s.Liftable c) {f : Filing} (hf : f ∈ s.ct.filing) :
    s.LotTaken (s.removeFiled f.num) f.num := by
  have hplace := State.onePlace h.lots f.num
  have hhooks (k : Crane) : (s.lift k).hookedLot ≠ some f.num := fun hk => (hplace.hooked k hk).1 f hf rfl
  have hlots (m : Lot) (hm : m ∈ s.ct.lots) (hn : m.num = f.num) : False := (hplace.stowed m hm hn).2 f hf rfl
  have hhangs (k : Crane) : ¬ (s.lift k).hangs f.num := fun hk =>
    let ⟨j, hj⟩ := h.hooked_of_hangs hk
    hhooks j hj
  have hsame {g : Filing} (hg : g ∈ s.ct.filing) (hn : g.num = f.num) : g = f :=
    List.inj_on_of_nodup_map hplace.filing hg hf hn
  have hunfiled (k : Crane) : (s.lift k).unfiledLot = some f.num ↔ k = f.crane := by
    refine ⟨fun hk => ?_, fun hk => hk ▸ h.unfiled_of_filed hf⟩
    obtain ⟨g, hg, hn, hcrane⟩ := h.filed_of_unfiled hk
    rw [← hcrane, hsame hg hn]
  have hfound : (s.ct.filing.find? fun g => g.num == f.num) = some f := by
    cases hg : s.ct.filing.find? fun g => g.num == f.num with
    | none => exact absurd (List.find?_eq_none.1 hg f hf) (by simp)
    | some g => rw [hsame (List.mem_of_find?_eq_some hg) (by simpa using List.find?_some hg)]
  obtain ⟨x, hx⟩ : ∃ x, x = (s.clear ⟨.landedUnfiled, .crane f.crane⟩).withCtLcu
      { s.ct with filing := s.ct.filing.filter fun g => g.num != f.num }
      { s.lcu with recs := s.lcu.recs.set f.crane .idle } := ⟨_, rfl⟩
  have hremoved : s.removeFiled f.num = x.judgeSpace f.dest := by
    unfold State.removeFiled
    rw [hfound, hx, ← eraseP_num_eq_filter hplace.filing, ← State.clear_withCtLcu]
    rfl
  have hmoved : s.LotMoved x := hx ▸ State.LotMoved.of_noted (State.Noted.clear s _) rfl rfl
  have hals : x.als = (s.clear ⟨.landedUnfiled, .crane f.crane⟩).als := by rw [hx]; rfl
  have hspaces : x.ct.spaces = s.ct.spaces := by rw [hx]; rfl
  have hnodup (hn : s.als.held.Nodup) : x.als.held.Nodup := by
    rw [hals]
    exact State.clear_held_nodup hn _
  have hrecord (k : Crane) : (x.judgeSpace f.dest).lift k = if k = f.crane then .idle else s.lift k := by
    unfold State.lift
    rw [State.judgeSpace_lcu, hx]
    exact PerCrane.get_set _ _ _ _
  rw [hremoved]
  exact {
    moved := hmoved.trans (State.LotMoved.judgeSpace x _)
    lots := by
      rw [State.judgeSpace_ct_lots, hx]
      exact (List.filter_eq_self.2 fun m hm => by simpa using hlots m hm).symm
    filing := by
      rw [State.judgeSpace_ct_filing, hx]
      rfl
    serial := by
      rw [State.judgeSpace_ct_serial, hx]
      rfl
    judged := fun a ha => by
      rcases ha with ⟨m, hm, hn, -⟩ | ⟨g, hg, hn, rfl⟩
      · exact (hlots m hm hn).elim
      · rw [hsame hg hn]
        exact State.judgeSpace_capacityJudged hmoved.tables hspaces hnodup f.dest
    unjudged := fun a ha => by
      rw [State.judgeSpace_other _ _ _ fun he => ha (.inr ⟨f, hf, rfl, he.symm⟩), hspaces]
    ended := fun k hk => by
      rw [hrecord, if_pos ((hunfiled k).1 (hk.resolve_left (hhangs k)))]
    kept := fun k hk => by
      rw [hrecord, if_neg fun he => hk (.inr ((hunfiled k).2 he))]
    settled := fun k hk => absurd hk (hhangs k)
    still := fun k _ => by
      unfold State.hook
      rw [State.judgeSpace_lcu, State.judgeSpace_ct_structs, hx]
      exact ⟨rfl, rfl⟩
    nodup := fun hn => State.judgeSpace_held_nodup (hnodup hn) _
    quiet := fun _ k hk => absurd hk (hhangs k)
    filed := fun hn k hk => by
      rw [(hunfiled k).1 hk, State.mem_held_judgeSpace_of_ne (by simp), hals]
      exact State.not_mem_held_clear _ hn }

end Sys2Proof.Machine
end

section
/-!
An entry of the alarm list while conditions of other keys are raised and cleared with room to spare (R152 to R154).
-/

namespace Sys2Proof.Machine

set_option Elab.async false

/-- The entry of `j` is the same in `b` as in `a`, and `b` has at most `n` more entries of the lower levels, provided
that the lower levels of `a` have room for `n` more (R154). -/
def Als.Spares (a b : Als) (j : AlarmKey) (n : Nat) : Prop :=
  a.lowerCount + n ≤ Config.lowerAlarms → b.find j = a.find j ∧ b.lowerCount ≤ a.lowerCount + n

namespace Als.Spares

variable {a b c : Als} {j k : AlarmKey} {n m : Nat}

theorem of_entries (h : b.entries = a.entries) : a.Spares b j 0 := by
  intro _
  unfold Als.find Als.lowerCount
  rw [h]
  exact ⟨rfl, le_rfl⟩

theorem trans (h : a.Spares b j n) (h' : b.Spares c j m) : a.Spares c j (n + m) := by
  intro hroom
  obtain ⟨hfind, hcount⟩ := h (by omega)
  obtain ⟨hfind', hcount'⟩ := h' (by omega)
  exact ⟨hfind'.trans hfind, by omega⟩

theorem mono (h : a.Spares b j n) (hnm : n ≤ m) : a.Spares b j m := by
  intro hroom
  obtain ⟨hfind, hcount⟩ := h (by omega)
  exact ⟨hfind, by omega⟩

end Als.Spares

/-! ### The changes of one entry (R152, R153) -/

/-- A change of an entry that keeps its key. -/
theorem Als.find_change (a : Als) (k j : AlarmKey) {f : AlarmEntry → AlarmEntry} (hf : ∀ e, (f e).key = e.key) :
    (a.change k f).find j = (a.find j).map fun e => if e.key = k then f e else e := by
  have hkey : ((fun e : AlarmEntry => e.key == j) ∘ fun e => if e.key = k then f e else e) = fun e => e.key == j := by
    funext e
    dsimp only [Function.comp]
    split
    · rw [hf]
    · rfl
  unfold Als.find Als.change
  rw [List.find?_map, hkey]

theorem Als.lowerCount_change (a : Als) (k : AlarmKey) {f : AlarmEntry → AlarmEntry} (hf : ∀ e, (f e).key = e.key) :
    (a.change k f).lowerCount = a.lowerCount := by
  unfold Als.lowerCount Als.change
  rw [List.countP_map]
  congr 1
  funext e
  dsimp only [Function.comp, AlarmEntry.level]
  split
  · rw [hf]
  · rfl

theorem Als.Spares.change {a : Als} {j k : AlarmKey} (h : k ≠ j) {f : AlarmEntry → AlarmEntry}
    (hf : ∀ e, (f e).key = e.key) : a.Spares (a.change k f) j 0 := by
  intro _
  refine ⟨?_, (a.lowerCount_change k hf).le⟩
  rw [Als.find_change a k j hf]
  cases hfind : a.find j with
  | none => rfl
  | some e =>
    have hkey : e.key = j := by simpa using List.find?_some hfind
    rw [Option.map_some, if_neg fun he => h (he.symm.trans hkey)]

/-- The removal of an entry that a search does not look for. -/
theorem find?_eraseP_of_disjoint {α : Type} {p q : α → Bool} (h : ∀ e, p e = true → q e = false) (l : List α) :
    (l.eraseP p).find? q = l.find? q := by
  induction l with
  | nil => rfl
  | cons e rest ih =>
    by_cases hp : p e = true
    · rw [List.eraseP_cons_of_pos hp, List.find?_cons_of_neg (by simp [h e hp])]
    · rw [List.eraseP_cons_of_neg hp, List.find?_cons, List.find?_cons, ih]

theorem Als.Spares.drop {a : Als} {j k : AlarmKey} (h : k ≠ j) : a.Spares (a.drop k) j 0 := by
  intro _
  refine ⟨find?_eraseP_of_disjoint (fun e he => ?_) _, List.Sublist.countP_le List.eraseP_sublist⟩
  simpa using fun hj => h ((by simpa using he : e.key = k).symm.trans hj)

/-- A new entry of another key, with room in the lower levels. -/
theorem Als.Spares.create {a : Als} {j k : AlarmKey} (h : k ≠ j) (st : EntryState) (now : Seconds) :
    a.Spares (a.create k st now).1 j 1 := by
  intro hroom
  unfold Als.create
  dsimp only
  rw [if_pos (.inr (by omega))]
  unfold Als.find Als.lowerCount
  rw [List.find?_append, List.countP_append]
  refine ⟨?_, ?_⟩
  · simp [h]
  · have hone := List.countP_le_length (p := fun e : AlarmEntry => e.level != .hard) (l := [⟨k, st, now⟩])
    rw [List.length_singleton] at hone
    exact Nat.add_le_add_left hone _

theorem Als.Spares.raise {a : Als} {j k : AlarmKey} (h : k ≠ j) (now : Seconds) : a.Spares (a.raise k now).1 j 1 := by
  unfold Als.raise
  split
  · exact Als.Spares.create h _ _
  · split
    · exact (Als.Spares.change h (f := fun e => { e with state := .activeUnack, raised := now })
        fun _ => rfl).mono (Nat.zero_le 1)
    · exact (Als.Spares.of_entries rfl).mono (Nat.zero_le 1)

theorem Als.Spares.clear {a : Als} {j k : AlarmKey} (h : k ≠ j) : a.Spares (a.clear k).1 j 0 := by
  unfold Als.clear
  split
  · exact Als.Spares.of_entries rfl
  · split
    · exact Als.Spares.change h (f := fun e => { e with state := .clearedUnack }) fun _ => rfl
    · refine (Als.Spares.drop h).trans (Als.Spares.of_entries ?_)
      unfold Als.unmark
      split <;> rfl
    · exact Als.Spares.of_entries rfl

/-- An event's entry stands CLEARED_UNACK with the time of the event (R153). -/
theorem Als.event_find {a : Als} {k : AlarmKey} {now : Seconds} (hroom : a.lowerCount + 1 ≤ Config.lowerAlarms) :
    (a.event k now).1.find k = some ⟨k, .clearedUnack, now⟩ ∧ (a.event k now).1.lowerCount ≤ a.lowerCount + 1 := by
  unfold Als.event
  cases hfind : a.find k with
  | none =>
    dsimp only
    unfold Als.create
    dsimp only
    rw [if_pos (.inr (by omega))]
    have hone := List.countP_le_length (p := fun e : AlarmEntry => e.level != .hard)
      (l := [⟨k, EntryState.clearedUnack, now⟩])
    rw [List.length_singleton] at hone
    unfold Als.find at hfind ⊢
    unfold Als.lowerCount
    rw [List.find?_append, List.countP_append, hfind]
    exact ⟨by simp, Nat.add_le_add_left hone _⟩
  | some e =>
    have hkey : e.key = k := by simpa using List.find?_some hfind
    dsimp only
    rw [Als.find_change a k k (f := fun e => { e with state := .clearedUnack, raised := now }) fun _ => rfl,
      Als.lowerCount_change a k (f := fun e => { e with state := .clearedUnack, raised := now }) fun _ => rfl, hfind,
      Option.map_some, if_pos hkey, hkey]
    exact ⟨rfl, Nat.le_succ _⟩

/-! ### The same of the state's alarm list -/

theorem Als.Spares.holding (a : Als) (held : List AlarmKey) (j : AlarmKey) : a.Spares { a with held := held } j 0 :=
  Als.Spares.of_entries rfl

theorem State.spares_raise {s : State} {j k : AlarmKey} (h : k ≠ j) : s.als.Spares (s.raise k).als j 1 := by
  unfold State.raise
  rw [State.alarm_als]
  exact (Als.Spares.holding s.als _ j).trans (Als.Spares.raise h _) |>.mono le_rfl

theorem State.spares_clear {s : State} {j k : AlarmKey} (h : k ≠ j) : s.als.Spares (s.clear k).als j 0 := by
  unfold State.clear
  split
  · rw [State.alarm_als]
    exact (Als.Spares.holding s.als _ j).trans (Als.Spares.clear h)
  · exact Als.Spares.of_entries rfl

theorem State.spares_keep {s : State} {j k : AlarmKey} (h : k ≠ j) (b : Bool) : s.als.Spares (s.keep k b).als j 1 := by
  unfold State.keep
  split
  · split
    · exact (Als.Spares.of_entries rfl).mono (Nat.zero_le 1)
    · exact State.spares_raise h
  · exact (State.spares_clear h).mono (Nat.zero_le 1)

theorem State.spares_judgeSpace {s : State} {j : AlarmKey} (h : j.kind ≠ .overCapacity) (a : Nat) :
    s.als.Spares (s.judgeSpace a).als j 1 := by
  cases ha : s.tables.cargo a with
  | none =>
    rw [State.judgeSpace_of_none ha]
    exact (Als.Spares.of_entries rfl).mono (Nat.zero_le 1)
  | some e =>
    have hals := congrArg State.als (State.judgeSpace_of_cargo ha)
    rw [hals]
    show s.als.Spares (s.capacityAlarm a _ _).als j 1
    unfold State.capacityAlarm
    split
    · exact (Als.Spares.of_entries rfl).mono (Nat.zero_le 1)
    · exact State.spares_keep (fun hj => h (by rw [← hj])) _

theorem State.spares_loadAlarmsCleared {s : State} {j : AlarmKey} (h : j.kind ≠ .unpermittedLift)
    (h' : j.kind ≠ .positionUnknown) (c : Crane) (l : Load) : s.als.Spares (s.loadAlarmsCleared c l).als j 0 := by
  have hone (u : State) (k : Crane) : u.als.Spares (u.clearLoadAlarms k).als j 0 :=
    (State.spares_clear fun hj => h (by rw [← hj])).trans (State.spares_clear fun hj => h' (by rw [← hj]))
  unfold State.loadAlarmsCleared
  split
  · exact (hone s c).trans (hone _ _)
  · exact hone s c

/-- The removals of a lot leave the entries of conditions that are none of theirs (R99, R100). -/
theorem State.spares_removals {s : State} {c : Crane} {n : Nat} {j : AlarmKey} (hj : j.kind = .lotRenumbered) :
    s.als.Spares (((s.takeLot n).removeHooked c n).removeFiled n).als j 2 := by
  have htake (u : State) : u.als.Spares (u.takeLot n).als j 1 := by
    unfold State.takeLot
    split
    · next l _ =>
      exact State.spares_judgeSpace (s := { u with ct.lots := u.ct.lots.eraseP fun e => e.num == n })
        (by rw [hj]; decide) l.loc
    · exact (Als.Spares.of_entries rfl).mono (Nat.zero_le 1)
  have hhooked (u : State) : u.als.Spares (u.removeHooked c n).als j 0 := by
    unfold State.removeHooked
    split
    · next k l _ =>
      have hals : ((u.endLift k l .idle).settleLift k l).als = (u.loadAlarmsCleared k l).als := by
        rw [(State.settleLift_settled (u.endLift k l .idle) k l).rest, State.endLift_eq]
        rfl
      rw [hals]
      exact State.spares_loadAlarmsCleared (by rw [hj]; decide) (by rw [hj]; decide) k l
    · exact Als.Spares.of_entries rfl
  have hfiled (u : State) : u.als.Spares (u.removeFiled n).als j 1 := by
    unfold State.removeFiled
    split
    · next f _ =>
      exact ((State.spares_clear (s := State.setLift { u with ct.filing := u.ct.filing.eraseP fun e => e.num == n }
        f.crane .idle) fun hk => by rw [← hk] at hj; cases hj).trans
        (State.spares_judgeSpace (by rw [hj]; decide) f.dest)).mono (by omega)
    · exact (Als.Spares.of_entries rfl).mono (Nat.zero_le 1)
  exact ((htake s).trans (hhooked _)).trans (hfiled _)

end Sys2Proof.Machine
end

section
/-!
The placement of a lot at a lift-off (R99, R100), and the waiting load that a freed record files (R21, R23).
-/

namespace Sys2Proof.Machine

set_option Elab.async false

/-! ### Lift records that agree (R105, R106) -/

theorem State.tandemOk_of_liftsWf {s : State} (h : s.liftsWf) (hrun : s.phase = .running) (c : Crane) :
    s.tandemOk c = true := by
  obtain ⟨-, -, -, -, hrecords⟩ := h
  have hc := hrecords c (mem_cranes c)
  rwa [if_pos hrun] at hc

theorem State.Liftable.of_liftsWf {s : State} (h : s.liftsWf) (hrun : s.phase = .running) {c : Crane}
    (hfree : (s.lift c).holdsLoad = false) : s.Liftable c where
  lots := h.1
  pool := h.2.1
  waiting := h.2.2.2.1
  partner k n j hk := by
    have hok := s.tandemOk_of_liftsWf h hrun k
    unfold State.tandemOk at hok
    rw [hk] at hok
    simp only [Bool.and_eq_true, decide_eq_true_eq] at hok
    exact ⟨hok.1.2, hok.2⟩
  tandem k l hk ht := by
    have hok := s.tandemOk_of_liftsWf h hrun k
    unfold State.tandemOk at hok
    rw [hk] at hok
    simp only [Bool.and_eq_true, Bool.or_eq_true, decide_eq_true_eq, Option.isNone_iff_eq_none] at hok
    exact (hok.2.resolve_left fun hnone => by simp [hnone] at ht).2
  free := hfree

/-- A record that holds no lot may change before the lift-off. -/
theorem State.Liftable.of_request {s x : State} {c : Crane} (h : s.Liftable c) (hct : x.ct = s.ct)
    (hother : ∀ k, k ≠ c → x.lift k = s.lift k) (hfree : (x.lift c).holdsLoad = false)
    (hunfiled : (x.lift c).unfiledLot = (s.lift c).unfiledLot) : x.Liftable c := by
  have hnone {y : State} (hy : (y.lift c).holdsLoad = false) : (y.lift c).hookedLot = none := by
    cases hrec : y.lift c <;> simp [hrec, LiftRec.holdsLoad, LiftRec.hookedLot] at hy ⊢
  have hhooked (k : Crane) : (x.lift k).hookedLot = (s.lift k).hookedLot := by
    by_cases hk : k = c
    · rw [hk, hnone hfree, hnone h.free]
    · rw [hother k hk]
  have hunfiled' (k : Crane) : (x.lift k).unfiledLot = (s.lift k).unfiledLot := by
    by_cases hk : k = c
    · rw [hk, hunfiled]
    · rw [hother k hk]
  have hloads {k : Crane} (hk : (s.lift k).holdsLoad = true) : x.lift k = s.lift k :=
    hother k fun he => by rw [he, h.free] at hk; cases hk
  have hloaded {k : Crane} (hk : (x.lift k).holdsLoad = true) : x.lift k = s.lift k :=
    hother k fun he => by rw [he, hfree] at hk; cases hk
  refine ⟨?_, ?_, ?_, fun k n j hk => ?_, fun k l hk ht => ?_, hfree⟩
  · unfold State.heldLots
    simp only [hct, hhooked]
    exact h.lots
  · unfold State.poolWf
    rw [hct]
    exact h.pool
  · unfold State.filingWf
    simp only [hct, hunfiled']
    exact h.waiting
  · obtain ⟨hmate, hlot⟩ := h.partner k n j ((hloaded (by rw [hk]; rfl)).symm.trans hk)
    refine ⟨hmate, ?_⟩
    rw [hloads (LiftRec.holdsLoad_of_hangs (.inl (LiftRec.hookedLot_of_tandemLot hlot))), hlot]
  · have hpartner := h.tandem k l ((hloaded (by rw [hk]; rfl)).symm.trans hk) ht
    rw [hloads (by rw [hpartner]; rfl), hpartner]

/-! ### The placement (R99, R100) -/

/-- A change of the alarm list that holds the same conditions may come first. -/
theorem State.LotTaken.of_event {s x t : State} {n : Nat} (hx : s.Noted x) (hheld : x.als.held = s.als.held)
    (h : x.LotTaken t n) : s.LotTaken t n := by
  have hct := hx.ct_eq
  have hlift (k : Crane) : x.lift k = s.lift k := hx.keeps (State.lift · k) fun _ _ _ => rfl
  have hhook (k : Crane) : x.hook k = s.hook k := hx.keeps (State.hook · k) fun _ _ _ => rfl
  have hjudged (a : Nat) (ha : x.capacityJudged t a) : s.capacityJudged t a := by
    unfold State.capacityJudged at ha ⊢
    rwa [hx.tables_eq, hct, hheld] at ha
  obtain ⟨moved, lots, filing, serial, judged, unjudged, ended, kept, settled, still, nodup, quiet, filed⟩ := h
  simp only [hlift, hhook, hct, hheld, hx.tables_eq]
    at lots filing serial judged unjudged ended kept settled still nodup quiet filed
  exact ⟨(State.LotMoved.alarms hx).trans moved, lots, filing, serial, fun a ha => hjudged a (judged a ha), unjudged,
    ended, kept, settled, still, nodup, quiet, filed⟩

/-- A removed lot is on no hook. -/
theorem State.LotTaken.not_hooked {s t : State} {n : Nat} (h : s.LotTaken t n) (k : Crane) :
    (t.lift k).hookedLot ≠ some n := by
  by_cases hk : (s.lift k).hangs n ∨ (s.lift k).unfiledLot = some n
  · rw [h.ended k hk]
    simp [LiftRec.hookedLot]
  · rw [h.kept k hk]
    exact fun hlot => hk (.inl (.inl hlot))

theorem State.LotTaken.not_filed {s t : State} {n : Nat} (h : s.LotTaken t n) : ∀ f ∈ t.ct.filing, f.num ≠ n := by
  intro f hf
  rw [h.filing] at hf
  simpa using (List.mem_filter.1 hf).2

theorem State.LotTaken.not_stowed {s t : State} {n : Nat} (h : s.LotTaken t n) : ∀ l ∈ t.ct.lots, l.num ≠ n := by
  intro l hl
  rw [h.lots] at hl
  simpa using (List.mem_filter.1 hl).2

/-- The removals, of which at most one finds the lot (R16). -/
theorem State.removals_taken {s : State} {c : Crane} (h : s.Liftable c) (n : Nat) :
    s.LotTaken (((s.takeLot n).removeHooked c n).removeFiled n) n := by
  have hplace := State.onePlace h.lots n
  by_cases hstowed : ∃ l ∈ s.ct.lots, l.num = n
  · obtain ⟨l, hl, rfl⟩ := hstowed
    have htaken := State.takeLot_taken h hl
    rwa [State.removeHooked_of_none fun k _ => htaken.not_hooked k, State.removeFiled_of_none htaken.not_filed]
  have hlots : ∀ l ∈ s.ct.lots, l.num ≠ n := fun l hl hn => hstowed ⟨l, hl, hn⟩
  rw [State.takeLot_of_none hlots]
  by_cases hhooked : ∃ k, (s.lift k).hookedLot = some n
  · obtain ⟨k, hk⟩ := hhooked
    obtain ⟨l, hl, rfl⟩ := LiftRec.hookedLot_eq_some.1 hk
    have htaken := State.removeHooked_taken h hl fun hkc => by
      have hfree := h.free
      rw [← hkc, hl] at hfree
      cases hfree
    rwa [State.removeFiled_of_none htaken.not_filed]
  have hhooks : ∀ k, (s.lift k).hookedLot ≠ some n := fun k hk => hhooked ⟨k, hk⟩
  rw [State.removeHooked_of_none fun k _ => hhooks k]
  by_cases hfiled : ∃ f ∈ s.ct.filing, f.num = n
  · obtain ⟨f, hf, rfl⟩ := hfiled
    exact State.removeFiled_taken h hf
  · have hfiling : ∀ f ∈ s.ct.filing, f.num ≠ n := fun f hf hn => hfiled ⟨f, hf, hn⟩
    rw [State.removeFiled_of_none hfiling]
    exact State.LotTaken.of_nowhere h hlots hhooks hfiling

/-- LOT_RENUMBERED told when the lot is held elsewhere than at the origin named (R99). -/
def State.toldElsewhere (s : State) (c : Crane) (n : Nat) (origin : LiftEnd) : State :=
  if s.heldElsewhere c n origin = true then s.event ⟨.lotRenumbered, .crane c⟩ else s

theorem State.placeLot_eq (s : State) (c : Crane) (n : Nat) (origin : LiftEnd) : s.placeLot c n origin =
    (((s.toldElsewhere c n origin).takeLot n).removeHooked c n).removeFiled n := rfl

theorem State.Noted.toldElsewhere (s : State) (c : Crane) (n : Nat) (origin : LiftEnd) :
    s.Noted (s.toldElsewhere c n origin) := by
  unfold State.toldElsewhere
  split
  · exact State.Noted.event s _
  · exact State.Noted.refl s

theorem State.placeLot_taken {s : State} {c : Crane} (h : s.Liftable c) (n : Nat) (origin : LiftEnd) :
    s.LotTaken (s.placeLot c n origin) n := by
  have hnoted := State.Noted.toldElsewhere s c n origin
  have hheld : (s.toldElsewhere c n origin).als.held = s.als.held := by
    unfold State.toldElsewhere
    split
    · rw [State.event_held]
    · rfl
  have hlift (k : Crane) : (s.toldElsewhere c n origin).lift k = s.lift k :=
    hnoted.keeps (State.lift · k) fun _ _ _ => rfl
  have hx : (s.toldElsewhere c n origin).Liftable c :=
    h.of_request hnoted.ct_eq (fun k _ => hlift k) (by rw [hlift]; exact h.free) (by rw [hlift])
  rw [State.placeLot_eq]
  exact State.LotTaken.of_event hnoted hheld (State.removals_taken hx n)

/-- A lot held elsewhere than at the origin that the lift-off names (R99). -/
theorem State.heldElsewhere_iff {s : State} (hlots : (s.ct.lots.map Lot.num).Nodup) (c : Crane) (n : Nat)
    (origin : LiftEnd) : s.heldElsewhere c n origin = true ↔
      (∃ l ∈ s.ct.lots, l.num = n ∧ origin ≠ .space l.loc) ∨ (∃ k, k ≠ c ∧ (s.lift k).hookedLot = some n) ∨
        ∃ f ∈ s.ct.filing, f.num = n ∧ f.crane ≠ c := by
  have hstow : (match s.ct.lot n with
      | some l => decide (origin ≠ .space l.loc)
      | none => false) = true ↔ ∃ l ∈ s.ct.lots, l.num = n ∧ origin ≠ .space l.loc := by
    constructor
    · intro h
      cases hl : s.ct.lot n with
      | none => simp [hl] at h
      | some l =>
        rw [hl] at h
        exact ⟨l, List.mem_of_find?_eq_some hl, by simpa using List.find?_some hl, of_decide_eq_true h⟩
    · rintro ⟨l, hl, rfl, hother⟩
      rw [CondTable.lot_eq_some hlots hl]
      exact decide_eq_true hother
  have hhooked : (s.hookedElsewhere c n).isSome = true ↔ ∃ k, k ≠ c ∧ (s.lift k).hookedLot = some n := by
    rw [← not_iff_not, Bool.not_eq_true, Option.isSome_eq_false_iff, Option.isNone_iff_eq_none,
      State.hookedElsewhere_eq_none]
    push Not
    rfl
  unfold State.heldElsewhere
  rw [Bool.or_eq_true, Bool.or_eq_true, or_assoc, hhooked]
  refine or_congr hstow (or_congr_right ?_)
  simp

/-- The entry of LOT_RENUMBERED after the placement, the alarm list having room (R99, R153, R154). -/
theorem State.placeLot_renumbered {s : State} {c : Crane} {n : Nat} {origin : LiftEnd}
    (hroom : s.als.lowerCount + 3 ≤ Config.lowerAlarms) :
    (s.heldElsewhere c n origin = true →
      (s.placeLot c n origin).als.find ⟨.lotRenumbered, .crane c⟩ =
        some ⟨⟨.lotRenumbered, .crane c⟩, .clearedUnack, s.seconds⟩) ∧
    (s.heldElsewhere c n origin = false →
      (s.placeLot c n origin).als.find ⟨.lotRenumbered, .crane c⟩ = s.als.find ⟨.lotRenumbered, .crane c⟩) ∧
    (s.placeLot c n origin).als.lowerCount ≤ s.als.lowerCount + 3 := by
  rw [State.placeLot_eq]
  have hremoved := State.spares_removals (s := s.toldElsewhere c n origin) (c := c) (n := n)
    (j := ⟨.lotRenumbered, .crane c⟩) rfl
  unfold State.toldElsewhere at hremoved ⊢
  by_cases h : s.heldElsewhere c n origin = true
  · rw [if_pos h] at hremoved ⊢
    have hevent : (s.event ⟨.lotRenumbered, .crane c⟩).als = (s.als.event ⟨.lotRenumbered, .crane c⟩ s.seconds).1 :=
      State.alarm_als s _
    obtain ⟨hfind, hcount⟩ := Als.event_find (a := s.als) (k := ⟨.lotRenumbered, .crane c⟩) (now := s.seconds)
      (by omega)
    rw [← hevent] at hfind hcount
    obtain ⟨hkept, hcount'⟩ := hremoved (by omega)
    exact ⟨fun _ => hkept.trans hfind, fun hno => absurd h (by simp [hno]), by omega⟩
  · rw [if_neg h] at hremoved ⊢
    obtain ⟨hkept, hcount⟩ := hremoved (by omega)
    exact ⟨fun hyes => absurd hyes h, fun _ => hkept, by omega⟩

end Sys2Proof.Machine
end

section
/-!
The end of a lift-off's operation (R21, R23, R99): the serial, and the waiting load that a freed record files.
-/

namespace Sys2Proof.Machine

set_option Elab.async false

/-! ### The waiting load that a lift-off files (R21, R23) -/

/-- The entry of the filing list that the lift-off of a lot files: the head, when the lot leaves a stow list. -/
def State.filedBy (s : State) (n : Nat) : Option Filing := if s.freesRecord n then s.ct.filing.head? else none

theorem State.freesRecord_iff (s : State) (n : Nat) : s.freesRecord n = true ↔ ∃ l ∈ s.ct.lots, l.num = n := by
  unfold State.freesRecord
  rw [← not_iff_not, Bool.not_eq_true, Option.isSome_eq_false_iff, Option.isNone_iff_eq_none, CondTable.lot_eq_none]
  push Not
  rfl

/-- Whether a record that the lift-off frees files a load, as the statements have it. -/
theorem State.filedBy_isSome (s : State) (n : Nat) :
    ((s.ct.lots.any fun l => l.num == n) && !s.ct.filing.isEmpty) = (s.filedBy n).isSome := by
  have hany : (s.ct.lots.any fun l => l.num == n) = s.freesRecord n := by
    rw [Bool.eq_iff_iff, State.freesRecord_iff, any_num_iff]
  unfold State.filedBy
  rw [hany]
  cases s.freesRecord n <;> cases s.ct.filing <;> rfl

theorem State.filedBy_eq_some {s : State} {n : Nat} {f : Filing} (h : s.filedBy n = some f) :
    (∃ l ∈ s.ct.lots, l.num = n) ∧ s.ct.filing = f :: s.ct.filing.tail := by
  unfold State.filedBy at h
  split at h
  next hfrees =>
    obtain ⟨rest, hrest⟩ := List.head?_eq_some_iff.1 h
    exact ⟨(s.freesRecord_iff n).1 hfrees, by rw [hrest]; rfl⟩
  next => cases h

/-- The head is filed into a free record, as one operation (R23). -/
theorem State.fileHead_eq {s : State} {f : Filing} {rest : List Filing} (hfiling : s.ct.filing = f :: rest)
    (hroom : s.ct.lots.length < Config.poolSize) : s.fileHead = (s.clear ⟨.landedUnfiled, .crane f.crane⟩).withCtLcu
      { s.ct with lots := s.ct.lots ++ [f.lot], filing := rest, serial := s.ct.serial + 1 }
      { s.lcu with recs := s.lcu.recs.set f.crane .idle } := by
  unfold State.fileHead
  rw [hfiling]
  dsimp only
  rw [if_pos hroom, ← State.clear_withCtLcu]
  rfl

/-- A load that goes from the filing list to the stow list of its space leaves the space's load as it was (R18). -/
theorem CondTable.load_filed {t u : CondTable} {f : Filing} {rest : List Filing} (hfiling : t.filing = f :: rest)
    (hlots : u.lots = t.lots ++ [f.lot]) (hrest : u.filing = rest) (a : Nat) : u.load a = t.load a := by
  unfold CondTable.load CondTable.total CondTable.stow filingWeight
  have hlot : f.lot.loc = f.dest ∧ f.lot.weight = f.weight := ⟨rfl, rfl⟩
  rw [hlots, hrest, hfiling, List.filter_append, List.map_append, sumOf_append]
  by_cases h : f.dest = a
  · simp only [List.filter_cons, hlot, h, beq_self_eq_true, if_true, List.filter_nil, List.map_cons, List.map_nil,
      sumOf_eq_sum, List.sum_cons, List.sum_nil]
    ring
  · simp [hlot, h, sumOf_eq_sum]

/-! ### The hooks of a lift-off -/

/-- `v` is `u` with the records, hooks and structures of some cranes set, and load alarms of those cranes raised. -/
structure State.Hung (u v : State) (own : Crane → Prop) : Prop where
  moved : u.LotMoved v
  table : v.ct = { u.ct with structs := v.ct.structs }
  other : ∀ k, ¬ own k → v.lift k = u.lift k ∧ v.hook k = u.hook k ∧ v.ct.structs.get k = u.ct.structs.get k
  keeps : ∀ j ∈ u.als.held, j ∈ v.als.held
  raised : ∀ j ∈ v.als.held, j ∈ u.als.held ∨
    ∃ k, own k ∧ (j = ⟨.unpermittedLift, .crane k⟩ ∨ j = ⟨.positionUnknown, .crane k⟩)
  nodup : u.als.held.Nodup → v.als.held.Nodup
  renumbered : ∀ j, j.kind = .lotRenumbered → u.als.Spares v.als j 1

/-- A condition that is no load alarm of those cranes is held as before. -/
theorem State.Hung.mem_held_iff {u v : State} {own : Crane → Prop} (h : u.Hung v own) {j : AlarmKey}
    (hj : ∀ k, own k → j ≠ ⟨.unpermittedLift, .crane k⟩ ∧ j ≠ ⟨.positionUnknown, .crane k⟩) :
    j ∈ v.als.held ↔ j ∈ u.als.held := by
  refine ⟨fun hv => (h.raised j hv).resolve_right ?_, h.keeps j⟩
  rintro ⟨k, hk, rfl | rfl⟩
  · exact (hj k hk).1 rfl
  · exact (hj k hk).2 rfl

/-! ### The end of the operation -/

/-- What the end of a lift-off's operation leaves of the state `v` that the lift-off of lot `n` made of `s`: its serial
is moved on, and the load that waited longest is filed when the lot freed a record. -/
structure State.LiftOffEnded (s v x : State) (n : Nat) : Prop where
  moved : v.LotMoved x
  lots : x.ct.lots = v.ct.lots ++ ((s.filedBy n).map Filing.lot).toList
  filing : x.ct.filing = if (s.filedBy n).isSome = true then s.ct.filing.tail else v.ct.filing
  serial : x.ct.serial = v.ct.serial + (if (s.filedBy n).isSome = true then 2 else 1)
  waiting : ∀ f, s.filedBy n = some f → v.ct.filing = f :: s.ct.filing.tail
  spaces : x.ct.spaces = v.ct.spaces
  structs : x.ct.structs = v.ct.structs
  hooks : x.lcu.hooks = v.lcu.hooks
  load : ∀ a, x.ct.load a = v.ct.load a
  lift : ∀ k, x.lift k = if (s.filedBy n).map Filing.crane = some k then .idle else v.lift k
  held : ∀ j, j ∈ x.als.held → j ∈ v.als.held
  kept : ∀ j, j.kind ≠ .landedUnfiled → j ∈ v.als.held → j ∈ x.als.held
  filed : v.als.held.Nodup → ∀ k, (s.filedBy n).map Filing.crane = some k →
    (⟨.landedUnfiled, .crane k⟩ : AlarmKey) ∉ x.als.held
  renumbered : ∀ j, j.kind = .lotRenumbered → v.als.Spares x.als j 0

theorem State.LiftOffEnded.of_none {s v : State} {n : Nat} (h : s.filedBy n = none) : s.LiftOffEnded v v.bump n where
  moved := State.LotMoved.bump v
  lots := by rw [h]; exact (List.append_nil _).symm
  filing := by rw [h]; rfl
  serial := by rw [h]; rfl
  waiting f hf := by rw [h] at hf; cases hf
  spaces := rfl
  structs := rfl
  hooks := rfl
  load _ := rfl
  lift k := by rw [h]; rfl
  held _ := id
  kept _ _ := id
  filed _ k hk := by rw [h] at hk; cases hk
  renumbered _ _ := Als.Spares.of_entries rfl

theorem State.bump_fileHead_eq {v : State} {f : Filing} {rest : List Filing} (hfiling : v.ct.filing = f :: rest)
    (hroom : v.ct.lots.length < Config.poolSize) :
    v.bump.fileHead = (v.clear ⟨.landedUnfiled, .crane f.crane⟩).withCtLcu
      { v.ct with lots := v.ct.lots ++ [f.lot], filing := rest, serial := v.ct.serial + 1 + 1 }
      { v.lcu with recs := v.lcu.recs.set f.crane .idle } := by
  have hclear : v.bump.clear ⟨.landedUnfiled, .crane f.crane⟩ =
      (v.clear ⟨.landedUnfiled, .crane f.crane⟩).withCtLcu v.bump.ct v.lcu := State.clear_withCtLcu v v.bump.ct v.lcu _
  rw [State.fileHead_eq (s := v.bump) hfiling hroom, hclear]
  rfl

theorem State.LiftOffEnded.of_some {s v : State} {n : Nat} {f : Filing} {rest : List Filing}
    (h : s.filedBy n = some f) (hs : s.ct.filing = f :: rest) (hv : v.ct.filing = f :: rest)
    (hroom : v.ct.lots.length < Config.poolSize) : s.LiftOffEnded v v.bump.fileHead n := by
  have hx := State.bump_fileHead_eq hv hroom
  have hals : v.bump.fileHead.als = (v.clear ⟨.landedUnfiled, .crane f.crane⟩).als :=
    (congrArg State.als hx).trans rfl
  have hct : v.bump.fileHead.ct =
      { v.ct with lots := v.ct.lots ++ [f.lot], filing := rest, serial := v.ct.serial + 1 + 1 } := congrArg State.ct hx
  have hlcu : v.bump.fileHead.lcu = { v.lcu with recs := v.lcu.recs.set f.crane .idle } := congrArg State.lcu hx
  exact {
    moved := by
      rw [hx]
      exact State.LotMoved.of_noted (State.Noted.clear v _) rfl rfl
    lots := by rw [hct, h]; rfl
    filing := by rw [hct, h, hs]; rfl
    serial := by
      rw [hct, h]
      exact BitVec.add_assoc _ _ _
    waiting := fun g hg => by
      rw [h] at hg
      obtain rfl := Option.some.inj hg
      rw [hs, hv]
      rfl
    spaces := by rw [hct]
    structs := by rw [hct]
    hooks := by rw [hlcu]
    load := CondTable.load_filed hv (by rw [hct]) (by rw [hct])
    lift := fun k => by
      unfold State.lift
      rw [hlcu, h]
      refine (PerCrane.get_set _ _ _ _).trans (if_congr ?_ rfl rfl)
      simp [eq_comm]
    held := fun j hj => by
      rw [hals, State.clear_held] at hj
      exact List.mem_of_mem_erase hj
    kept := fun j hj hv => by
      rw [hals]
      exact (State.mem_held_clear_of_ne fun he => hj (by rw [he])).2 hv
    filed := fun hn k hk => by
      rw [h] at hk
      obtain rfl := Option.some.inj hk
      rw [hals]
      exact State.not_mem_held_clear _ hn
    renumbered := fun j hj => by
      rw [hals]
      exact State.spares_clear fun he => by rw [← he] at hj; cases hj }

/-- The end of the operation after a lot has been taken and hung (R21, R23, R99). -/
theorem State.endLiftOff_ended {s u v : State} {c : Crane} {n : Nat} (h : s.Liftable c) (hu : s.LotTaken u n)
    {own : Crane → Prop} (hv : u.Hung v own) : s.LiftOffEnded v (v.endLiftOff (s.freesRecord n)) n := by
  have hfiling : v.ct.filing = u.ct.filing := by rw [hv.table]
  have hlots : v.ct.lots = u.ct.lots := by rw [hv.table]
  cases hf : s.filedBy n with
  | none =>
    have hend : v.endLiftOff (s.freesRecord n) = v.bump := by
      unfold State.endLiftOff
      split
      next hfrees =>
        have hempty : s.ct.filing = [] := by
          rw [State.filedBy, if_pos hfrees] at hf
          exact List.head?_eq_none_iff.1 hf
        have hnone : v.bump.ct.filing = [] := by
          show v.ct.filing = []
          rw [hfiling, hu.filing, hempty]
          rfl
        unfold State.fileHead
        rw [hnone]
      next => rfl
    rw [hend]
    exact State.LiftOffEnded.of_none hf
  | some f =>
    obtain ⟨⟨l, hl, hn⟩, hs⟩ := State.filedBy_eq_some hf
    have hend : v.endLiftOff (s.freesRecord n) = v.bump.fileHead := if_pos ((s.freesRecord_iff n).2 ⟨l, hl, hn⟩)
    have hkept : u.ct.filing = s.ct.filing := by
      rw [hu.filing]
      exact List.filter_eq_self.2 fun g hg => by simpa using ((State.onePlace h.lots n).stowed l hl hn).2 g hg
    have hfull := h.pool.2 (by rw [hs]; simp)
    have hroom : v.ct.lots.length < Config.poolSize := by
      rw [hlots, hu.lots, ← hfull, List.length_filter_lt_length_iff_exists]
      exact ⟨l, hl, by simpa using hn⟩
    rw [hend]
    exact State.LiftOffEnded.of_some hf hs (hfiling.trans (hkept.trans hs)) hroom

end Sys2Proof.Machine
end

section
/-!
What a lift-off takes and leaves, in the words of the statements (R21, R23, R99, R100, R111).
-/

namespace Sys2Proof.Machine

set_option Elab.async false

/-- The crane whose waiting load a lift-off files. -/
theorem State.filedBy_crane (s : State) (n : Nat) (k : Crane) :
    ((s.filedBy n).isSome = true ∧ s.ct.filing.head?.map Filing.crane = some k) ↔
      (s.filedBy n).map Filing.crane = some k := by
  unfold State.filedBy
  split
  · refine ⟨And.right, fun hk => ⟨?_, hk⟩⟩
    obtain ⟨f, hf, -⟩ := Option.map_eq_some_iff.1 hk
    rw [hf]
    rfl
  · simp

/-- A waiting load's record is not the one that the lot left. -/
theorem State.Liftable.filedBy_unfiled {s : State} {c : Crane} (h : s.Liftable c) {n : Nat} {f : Filing}
    (hf : s.filedBy n = some f) : (s.lift f.crane).unfiledLot = some f.num ∧ f.num ≠ n := by
  obtain ⟨⟨l, hl, hn⟩, hs⟩ := State.filedBy_eq_some hf
  have hmem : f ∈ s.ct.filing := by rw [hs]; exact List.mem_cons_self
  exact ⟨h.unfiled_of_filed hmem, ((State.onePlace h.lots n).stowed l hl hn).2 f hmem⟩

section
variable {s v x : State} {c : Crane} {n : Nat} {origin : LiftEnd} {own : Crane → Prop}

/-- The stow lists and the filing list after a lift-off (R21, R23). -/
theorem State.placed_lists (h : s.Liftable c) (hv : (s.placeLot c n origin).Hung v own)
    (hx : s.LiftOffEnded v x n) :
    x.ct.lots = s.ct.lots.filter (fun l => l.num != n) ++ (if (s.filedBy n).isSome = true then
      (s.ct.filing.take 1).map fun f => ⟨f.num, f.weight, f.pos, f.dest, .crane f.crane, f.landed⟩ else []) ∧
    x.ct.filing = if (s.filedBy n).isSome = true then s.ct.filing.tail else s.ct.filing.filter fun f => f.num != n := by
  have hu := State.placeLot_taken h n origin
  have hlots : v.ct.lots = s.ct.lots.filter fun l => l.num != n := by rw [hv.table]; exact hu.lots
  have hfiling : v.ct.filing = s.ct.filing.filter fun f => f.num != n := by rw [hv.table]; exact hu.filing
  rw [hx.lots, hx.filing, hlots, hfiling]
  cases hf : s.filedBy n with
  | none => exact ⟨rfl, rfl⟩
  | some f =>
    rw [(State.filedBy_eq_some hf).2]
    exact ⟨rfl, rfl⟩

/-- The records that a lift-off does not set itself (R23, R99, R100, R111). -/
theorem State.placed_records (h : s.Liftable c) (hv : (s.placeLot c n origin).Hung v own)
    (hx : s.LiftOffEnded v x n) {k : Crane} (hk : ¬ own k) :
    (((s.lift k).hangs n ∨ (s.lift k).unfiledLot = some n ∨ (s.filedBy n).map Filing.crane = some k) →
      x.lift k = .idle) ∧
    (¬ ((s.lift k).hangs n ∨ (s.lift k).unfiledLot = some n ∨ (s.filedBy n).map Filing.crane = some k) →
      x.lift k = s.lift k) := by
  have hu := State.placeLot_taken h n origin
  have hlift := hx.lift k
  rw [(hv.other k hk).1] at hlift
  by_cases hfiles : (s.filedBy n).map Filing.crane = some k
  · rw [if_pos hfiles] at hlift
    exact ⟨fun _ => hlift, fun hno => absurd (.inr (.inr hfiles)) hno⟩
  · rw [if_neg hfiles] at hlift
    refine ⟨fun hyes => hlift.trans (hu.ended k ?_), fun hno => hlift.trans (hu.kept k fun hyes => hno ?_)⟩
    · exact hyes.imp_right fun hright => hright.resolve_right hfiles
    · exact hyes.imp_right .inl

/-- The hooks and structures that a lift-off does not set itself (R100, R111). -/
theorem State.placed_hooks (hv : (s.placeLot c n origin).Hung v own) (hx : s.LiftOffEnded v x n) {k : Crane}
    (hk : ¬ own k) : x.hook k = (s.placeLot c n origin).hook k ∧
      x.ct.structs.get k = (s.placeLot c n origin).ct.structs.get k := by
  obtain ⟨-, hhook, hstruct⟩ := hv.other k hk
  refine ⟨?_, by rw [hx.structs, hstruct]⟩
  rw [← hhook]
  exact congrArg (PerCrane.get · k) hx.hooks

/-- The load alarms of the cranes that the lift-off does not set itself (R23, R100, R101). -/
theorem State.placed_alarms (h : s.Liftable c) (hv : (s.placeLot c n origin).Hung v own)
    (hx : s.LiftOffEnded v x n) (hnodup : s.als.held.Nodup) {k : Crane} (hk : ¬ own k) :
    ((s.lift k).hangs n → (⟨.unpermittedLift, .crane k⟩ : AlarmKey) ∉ x.als.held ∧
      (⟨.positionUnknown, .crane k⟩ : AlarmKey) ∉ x.als.held) ∧
    ((s.lift k).unfiledLot = some n ∨ (s.filedBy n).map Filing.crane = some k →
      (⟨.landedUnfiled, .crane k⟩ : AlarmKey) ∉ x.als.held) := by
  have hu := State.placeLot_taken h n origin
  have hgone {j : AlarmKey} (hj : ∀ i, own i → j ≠ ⟨.unpermittedLift, .crane i⟩ ∧ j ≠ ⟨.positionUnknown, .crane i⟩)
      (hno : j ∉ (s.placeLot c n origin).als.held) : j ∉ x.als.held :=
    fun hxj => hno ((hv.mem_held_iff hj).1 (hx.held j hxj))
  have hne {i : Crane} (hi : own i) : k ≠ i := fun he => hk (he ▸ hi)
  refine ⟨fun hhangs => ?_, fun hfiled => ?_⟩
  · obtain ⟨hlift, hpos⟩ := hu.quiet hnodup k hhangs
    exact ⟨hgone (fun i hi => ⟨by simpa using hne hi, by simp⟩) hlift,
      hgone (fun i hi => ⟨by simp, by simpa using hne hi⟩) hpos⟩
  · rcases hfiled with hunfiled | hfiles
    · exact hgone (fun i _ => ⟨by simp, by simp⟩) (hu.filed hnodup k hunfiled)
    · exact hx.filed (hv.nodup (hu.nodup hnodup)) k hfiles

/-- The capacity states after a lift-off (R18, R21). -/
theorem State.placed_spaces (h : s.Liftable c) (hv : (s.placeLot c n origin).Hung v own)
    (hx : s.LiftOffEnded v x n) (a : Nat) :
    (((∃ l ∈ s.ct.lots, l.num = n ∧ l.loc = a) ∨ ∃ f ∈ s.ct.filing, f.num = n ∧ f.dest = a) →
      s.capacityJudged x a) ∧
    (¬ ((∃ l ∈ s.ct.lots, l.num = n ∧ l.loc = a) ∨ ∃ f ∈ s.ct.filing, f.num = n ∧ f.dest = a) →
      lookup x.ct.spaces a = lookup s.ct.spaces a) := by
  have hu := State.placeLot_taken h n origin
  have hspaces : x.ct.spaces = (s.placeLot c n origin).ct.spaces := by rw [hx.spaces, hv.table]
  refine ⟨fun ha => (hu.judged a ha).of_same (by rw [hspaces]) ?_ ?_, fun ha => by rw [hspaces, hu.unjudged a ha]⟩
  · rw [hx.load, hv.table]
    rfl
  · rw [← hv.mem_held_iff fun k _ => ⟨by simp, by simp⟩]
    exact ⟨hx.held _, hx.kept _ (by simp)⟩

/-- What the placement, the hanging and the end of a lift-off's operation take, as the statements have it. -/
theorem State.placed_takesLot (h : s.Liftable c) (hv : (s.placeLot c n origin).Hung v own)
    (hx : s.LiftOffEnded v x n) : s.takesLot x c n origin own := by
  have hu := State.placeLot_taken h n origin
  unfold State.takesLot
  rw [State.filedBy_isSome]
  intro freed hangs files elsewhere renumbered
  have hfiles (k : Crane) : files k ↔ (s.filedBy n).map Filing.crane = some k := s.filedBy_crane n k
  obtain ⟨hlots, hfiling⟩ := State.placed_lists h hv hx
  refine ⟨hlots, hfiling, fun a => ?_, fun k hk => ?_, fun hroom => ?_, ?_⟩
  · obtain ⟨hjudged, hunjudged⟩ := State.placed_spaces h hv hx a
    split
    next ha => exact hjudged ha
    next ha => exact hunjudged ha
  · obtain ⟨hended, hkept⟩ := State.placed_records h hv hx hk
    obtain ⟨hhook, hstruct⟩ := State.placed_hooks hv hx hk
    rw [hfiles]
    refine ⟨hended, hkept, fun hhangs hunknown d hd => ?_, fun hstill => ?_,
      fun hnodup => (State.placed_alarms h hv hx hnodup hk).1, fun hnodup => (State.placed_alarms h hv hx hnodup hk).2⟩
    · rw [hhook, hstruct]
      exact hu.settled k hhangs hunknown d hd
    · rw [hhook, hstruct]
      exact hu.still k hstill
  · have helsewhere : s.heldElsewhere c n origin = true ↔ elsewhere :=
      State.heldElsewhere_iff (State.onePlace h.lots n).lots c n origin
    have hlimit : Config.lowerAlarms = 24 := rfl
    obtain ⟨htold, hquiet, hcount⟩ := State.placeLot_renumbered (s := s) (c := c) (n := n) (origin := origin) (by omega)
    have hspared := (hv.renumbered renumbered rfl).trans (hx.renumbered renumbered rfl)
    obtain ⟨hfind, -⟩ := hspared (by omega)
    rw [hfind]
    exact ⟨fun he => htold (helsewhere.2 he), fun he => hquiet (Bool.eq_false_iff.2 fun ht => he (helsewhere.1 ht))⟩
  · rw [hx.serial, hv.table]
    exact congrArg (· + _) hu.serial

/-- The lot is held by the lift-off's records alone. -/
theorem State.placed_alone (h : s.Liftable c) (hv : (s.placeLot c n origin).Hung v own) (hx : s.LiftOffEnded v x n) :
    (∀ l ∈ x.ct.lots, l.num ≠ n) ∧ (∀ f ∈ x.ct.filing, f.num ≠ n) ∧
      ∀ k l, ¬ own k → x.lift k = .hooked l → l.lot ≠ n := by
  have hu := State.placeLot_taken h n origin
  have hlots : v.ct.lots = (s.placeLot c n origin).ct.lots := by rw [hv.table]
  have hfiling : v.ct.filing = (s.placeLot c n origin).ct.filing := by rw [hv.table]
  refine ⟨fun l hl => ?_, fun f hf => ?_, fun k l hk hl hn => ?_⟩
  · rw [hx.lots, hlots, List.mem_append] at hl
    rcases hl with hl | hl
    · exact hu.not_stowed l hl
    · obtain ⟨f, hf, rfl⟩ := Option.map_eq_some_iff.1 (Option.mem_toList.1 hl)
      exact (h.filedBy_unfiled hf).2
  · rw [hx.filing] at hf
    split at hf
    next hsome =>
      obtain ⟨g, hg⟩ := Option.isSome_iff_exists.1 hsome
      obtain ⟨⟨l, hl, hn⟩, -⟩ := State.filedBy_eq_some hg
      exact ((State.onePlace h.lots n).stowed l hl hn).2 f (List.mem_of_mem_tail hf)
    next =>
      rw [hfiling] at hf
      exact hu.not_filed f hf
  · have hlift := hx.lift k
    rw [hl, (hv.other k hk).1] at hlift
    split at hlift
    · cases hlift
    · exact hu.not_hooked k (by rw [← hlift, ← hn]; rfl)

end

end Sys2Proof.Machine
end

section
/-!
The answer to a HOOK_LOADED, with the order that a standing stop places before it (R145, R146, R174, R175).
-/

namespace Sys2Proof.Machine

set_option Elab.async false

/-! ### A standing stop's order beside the answer (R145, R174) -/

/-- An order in its place, the transmitter left as it is (R175). -/
def Link.ordered (l : Link) (o : Order) : Link :=
  if l.sending = some .order then { l with waiting := some o } else { l with slot := some o }

/-- The transmitter may start before the reply is placed or with it: it takes the order first (R174, R175). -/
theorem Link.placeOrder_put (l : Link) (o : Order) (m : OutMsg) :
    (l.placeOrder o).release.put m = (l.ordered o).release.put m := by
  unfold Link.placeOrder Link.ordered
  by_cases h : l.sending = some .order
  · rw [if_pos h, if_pos h]
  · rw [if_neg h, if_neg h]
    cases hs : l.sending with
    | some x => simp [Link.start, Link.release, Link.put]
    | none => simp [Link.start, Link.release, Link.put]

/-- Whether a crane's port joins a standing stop when its record goes to HOOKED (R145). -/
def State.joinsStop (s : State) (c : Crane) : Option (Criterion × Serial) :=
  if (s.stopPort (portOf c)).state = .none ∨ (s.stopPort (portOf c)).state = .acked then s.lmn.stop else none

/-- The standing stop's order at a port that joins it, the transmitter left as it is. -/
def State.stopJoined (s : State) (c : Crane) : State :=
  match s.joinsStop c with
  | some (crit, serial) =>
    (s.setLink (portOf c) ((s.link (portOf c)).ordered (.stop crit serial))).setStopPort (portOf c)
      ⟨.sent, some (s.now + s.settings.ackWindow * 100)⟩
  | none => s

theorem State.stopHooked_eq (s : State) (c : Crane) : s.stopHooked c = match s.joinsStop c with
    | some (crit, serial) => s.sendStop (portOf c) crit serial
    | none => s := by
  unfold State.stopHooked State.joinsStop
  by_cases h : (s.stopPort (portOf c)).state = .none ∨ (s.stopPort (portOf c)).state = .acked
  · rw [if_pos h]
    cases s.lmn.stop with
    | none => rfl
    | some st => exact if_pos h
  · rw [if_neg h]
    cases s.lmn.stop with
    | none => rfl
    | some st => exact if_neg h

/-- A port's stop state is no part of its link. -/
theorem State.setStopPort_setLink (s : State) (q r : Port) (v : StopPort) (l : Link) :
    (s.setStopPort q v).setLink r l = (s.setLink r l).setStopPort q v := rfl

theorem State.stopHooked_answer (s : State) (c : Crane) (m : OutMsg) :
    (s.stopHooked c).answer (portOf c) (.say m) = (s.stopJoined c).answer (portOf c) (.say m) := by
  rw [State.stopHooked_eq]
  unfold State.stopJoined
  cases s.joinsStop c with
  | none => rfl
  | some st =>
    obtain ⟨crit, serial⟩ := st
    have hput := Link.placeOrder_put (s.link (portOf c)) (.stop crit serial) m
    unfold State.sendStop State.placeOrder State.answer
    dsimp only
    rw [State.link_setStopPort, State.link_setStopPort, State.link_setLink, if_pos rfl, State.link_setLink, if_pos rfl,
      hput, State.setStopPort_setLink, State.setStopPort_setLink, State.setLink_setLink, State.setLink_setLink]

theorem State.stopJoined_pull (s : State) (c : Crane) :
    (s.pull (portOf c)).stopJoined c = (s.stopJoined c).pull (portOf c) := by
  have hjoins : (s.pull (portOf c)).joinsStop c = s.joinsStop c := rfl
  unfold State.stopJoined
  rw [hjoins]
  cases s.joinsStop c with
  | none => rfl
  | some st =>
    obtain ⟨crit, serial⟩ := st
    have hlink : ((s.pull (portOf c)).link (portOf c)).ordered (.stop crit serial) =
        { (s.link (portOf c)).ordered (.stop crit serial) with
          inbound := (s.link (portOf c)).inbound.tail
          reserved := (s.link (portOf c)).reserved + 1 } := by
      rw [State.pull, State.link_setLink, if_pos rfl]
      unfold Link.ordered
      dsimp only
      split <;> rfl
    have hkept : ((s.link (portOf c)).ordered (.stop crit serial)).inbound = (s.link (portOf c)).inbound ∧
        ((s.link (portOf c)).ordered (.stop crit serial)).reserved = (s.link (portOf c)).reserved := by
      unfold Link.ordered
      split <;> exact ⟨rfl, rfl⟩
    dsimp only
    rw [hlink]
    unfold State.pull
    rw [State.link_setStopPort, State.link_setLink, if_pos rfl, hkept.1, hkept.2, State.setStopPort_setLink,
      State.setLink_setLink, State.setLink_setLink]
    rfl

theorem State.Noted.stopJoined {s t : State} (h : s.Noted t) (c : Crane) : (s.stopJoined c).Noted (t.stopJoined c) := by
  obtain ⟨ms, hms, ht⟩ := h
  have hjoins : t.joinsStop c = s.joinsStop c := by rw [ht]; rfl
  have hlink : t.link (portOf c) = s.link (portOf c) := by
    rw [ht]
    exact (s.link_setLink .p (portOf c) _).trans (if_neg (portOf_ne_p c))
  unfold State.stopJoined
  rw [hjoins, hlink]
  cases s.joinsStop c with
  | none => exact ⟨ms, hms, ht⟩
  | some st =>
    refine ⟨ms, hms, ?_⟩
    dsimp only
    rw [State.link_setStopPort, State.link_setLink, if_neg (portOf_ne_p c).symm, State.setStopPort_setLink,
      State.setLink_comm _ (portOf_ne_p c), ht]
    rfl

/-! ### What the answered state reads -/

section
variable (x t : State) {c : Crane} (m : OutMsg)

theorem State.framed_ct : (((x.noting t).replied (portOf c) m).takeJob).ct = x.ct := State.takeJob_ct _

theorem State.framed_recs : (((x.noting t).replied (portOf c) m).takeJob).lcu.recs = x.lcu.recs :=
  State.takeJob_lcu_recs _

theorem State.framed_hooks : (((x.noting t).replied (portOf c) m).takeJob).lcu.hooks = x.lcu.hooks :=
  State.takeJob_lcu_hooks _

theorem State.framed_lmn : (((x.noting t).replied (portOf c) m).takeJob).lmn = x.lmn := State.takeJob_lmn _

theorem State.framed_link : (((x.noting t).replied (portOf c) m).takeJob).link (portOf c) =
    { x.link (portOf c) with
      inbound := (x.link (portOf c)).inbound.tail, queue := (x.link (portOf c)).queue ++ [m] }.start := by
  have hlink : (x.noting t).link (portOf c) = x.link (portOf c) :=
    (x.link_setLink .p (portOf c) _).trans (if_neg (portOf_ne_p c))
  rw [State.takeJob_link, State.replied, State.link_setLink, if_pos rfl, hlink]

end

/-! ### The state after the answer -/

/-- The state with the stop's order joined, but for the port and its stop state. -/
theorem State.stopJoined_eq (s : State) (c : Crane) : s.stopJoined c =
    { s.setLink (portOf c) { s.link (portOf c) with
        slot := ((s.stopJoined c).link (portOf c)).slot
        waiting := ((s.stopJoined c).link (portOf c)).waiting } with
      lmn.ports := (s.stopJoined c).lmn.ports } := by
  unfold State.stopJoined
  cases s.joinsStop c with
  | none => exact (s.setLink_link (portOf c)).symm
  | some st =>
    dsimp only
    rw [State.link_setStopPort, State.link_setLink, if_pos rfl]
    unfold Link.ordered
    split <;> rfl

/-- STOP joins at the port (R145): read off the link and the stop states. -/
theorem State.stopJoins_of_joined {s t : State} {c : Crane} (hports : t.lmn.ports = (s.stopJoined c).lmn.ports)
    (hslot : (t.link (portOf c)).slot = ((s.stopJoined c).link (portOf c)).slot)
    (hwaiting : (t.link (portOf c)).waiting = ((s.stopJoined c).link (portOf c)).waiting) : s.stopJoins t c := by
  have hport (q : Port) : t.stopPort q = (s.stopJoined c).stopPort q := congrArg (PerPort.get · q) hports
  unfold State.stopJoins
  dsimp only
  rw [hslot, hwaiting]
  simp only [hport]
  unfold State.stopJoined State.joinsStop
  refine ⟨fun crit serial hstop hstate => ?_, fun hno => ?_, fun k hk => ?_⟩
  · rw [if_pos hstate, hstop]
    dsimp only
    rw [State.stopPort_setStopPort, if_pos rfl, State.link_setStopPort, State.link_setLink, if_pos rfl, Link.ordered]
    exact ⟨rfl, fun h => by rw [if_pos h]; exact ⟨rfl, rfl⟩, fun h => by rw [if_neg h]; exact ⟨rfl, rfl⟩⟩
  · have hnone : (if (s.stopPort (portOf c)).state = .none ∨ (s.stopPort (portOf c)).state = .acked then s.lmn.stop
        else none) = none := by
      rcases hno with h | h | h
      · rw [h]
        split <;> rfl
      · simp [h]
      · simp [h]
    rw [hnone]
    exact ⟨rfl, rfl, rfl⟩
  · split
    · rw [State.stopPort_setStopPort, if_neg hk]
      rfl
    · rfl

/-- The state `t` after HOOK_LOADED's handling has made `y` of a state `s`, the standing stop's order has joined, and
`m` has been said. -/
structure State.LiftAnswered (s y t : State) (c : Crane) (m : OutMsg) : Prop where
  table : t.ct = y.ct
  recs : t.lcu.recs = y.lcu.recs
  hooks : t.lcu.hooks = y.lcu.hooks
  list : t.als = y.als
  joins : s.stopJoins t c
  sends : ∀ crit serial, s.lmn.stop = some (crit, serial) → (s.stopPort (portOf c)).state = .none →
    (s.link (portOf c)).sending = none → (t.link (portOf c)).sending = some .order
  frame : t = (({ s.lifting t c with lcu.queue := y.lcu.queue, lcu.inHand := y.lcu.inHand }.noting t).replied (portOf c)
    m).takeJob

/-- A lift-off taken, handled and answered. -/
theorem exec_lifts {s y : State} {c : Crane} {p : List Byte} {m : OutMsg} (h : s.takesAt c kHookLoaded p)
    (hl : lengthOk kHookLoaded p = true) (hu : s.upperPaired c = false)
    (hm : hookLoadedReply c p (s.pull (portOf c)) = (y.stopHooked c, .say m))
    (hy : ((s.withCtLcu y.ct y.lcu).pull (portOf c)).Noted y) (hnotice : m.isNotice = false)
    (hct : y.ct = { s.ct with
      lots := y.ct.lots
      filing := y.ct.filing
      spaces := y.ct.spaces
      structs := y.ct.structs
      serial := y.ct.serial })
    (hlcu : y.lcu = { s.lcu with
      recs := y.lcu.recs, hooks := y.lcu.hooks, queue := y.lcu.queue, inHand := y.lcu.inHand }) :
    ∃ t, exec (.hookLoaded c) s = .next t ∧ s.LiftAnswered y t c m := by
  obtain ⟨x, hx⟩ : ∃ x, x = s.withCtLcu y.ct y.lcu := ⟨_, rfl⟩
  rw [← hx] at hy
  obtain ⟨w, hw, hwy⟩ := hy.of_pull
  obtain ⟨t, ht⟩ : ∃ t, t = ((w.stopJoined c).replied (portOf c) m).takeJob := ⟨_, rfl⟩
  have hexec : exec (.hookLoaded c) s = .next t := by
    have hserved : serveLift c kHookLoaded (hookLoadedReply c) s = (w.stopJoined c).replied (portOf c) m := by
      rw [serveLift_takes h hl hu, hm, State.stopHooked_answer, hwy, State.stopJoined_pull, State.answer_pull]
    rw [ht, ← hserved]
    rfl
  have hnoting : w.stopJoined c = (x.stopJoined c).noting t :=
    (hw.stopJoined c).eq_noting_replied (q := portOf c) hnotice (by rw [ht, State.takeJob_als]; rfl)
      (by rw [ht, State.takeJob_link])
  have hframe : t = (((x.stopJoined c).noting t).replied (portOf c) m).takeJob := by rw [← hnoting, ht]
  have hjoined := x.stopJoined_eq c
  have hxct : (x.stopJoined c).ct = y.ct := by rw [hjoined, hx]; rfl
  have hxlcu : (x.stopJoined c).lcu = y.lcu := by rw [hjoined, hx]; rfl
  have htable : t.ct = y.ct := by rw [hframe, State.framed_ct, hxct]
  have hrecs : t.lcu.recs = y.lcu.recs := by rw [hframe, State.framed_recs, hxlcu]
  have hhooks : t.lcu.hooks = y.lcu.hooks := by rw [hframe, State.framed_hooks, hxlcu]
  have hlmn : t.lmn = (x.stopJoined c).lmn := by rw [hframe, State.framed_lmn]
  have hlink := State.framed_link (x.stopJoined c) t (c := c) m
  rw [← hframe] at hlink
  have hslot : (t.link (portOf c)).slot = ((x.stopJoined c).link (portOf c)).slot := by rw [hlink, Link.start_slot]
  have hwaiting : (t.link (portOf c)).waiting = ((x.stopJoined c).link (portOf c)).waiting := by
    rw [hlink, Link.start_waiting]
  refine ⟨t, hexec, htable, hrecs, hhooks, ?_, ?_, fun crit serial hstop hstate hfree => ?_, ?_⟩
  · have hals : (w.stopJoined c).als = w.als := by rw [w.stopJoined_eq c]; rfl
    rw [ht, State.takeJob_als, hwy]
    exact hals
  · have hjoins := State.stopJoins_of_joined (s := x) (t := t) (by rw [hlmn]) hslot hwaiting
    rw [hx] at hjoins
    exact hjoins
  · have hjoins : x.joinsStop c = some (crit, serial) := by
      rw [hx, ← hstop]
      exact if_pos (.inl hstate)
    have hordered : (x.stopJoined c).link (portOf c) =
        { s.link (portOf c) with slot := some (.stop crit serial) } := by
      unfold State.stopJoined
      rw [hjoins, hx]
      dsimp only
      rw [State.link_setStopPort, State.link_setLink, if_pos rfl]
      exact if_neg (by rw [show (s.withCtLcu y.ct y.lcu).link (portOf c) = s.link (portOf c) from rfl, hfree]; simp)
    rw [hlink, hordered]
    simp [Link.start, hfree]
  · have hlifting : ({ s.lifting t c with lcu.queue := y.lcu.queue, lcu.inHand := y.lcu.inHand } : State) =
        x.stopJoined c := by
      refine Eq.trans ?_ hjoined.symm
      unfold State.lifting
      rw [hslot, hwaiting, htable, hrecs, hhooks, hlmn]
      generalize (x.stopJoined c).link (portOf c) = l
      generalize (x.stopJoined c).lmn.ports = ports
      rw [hx, hct, hlcu]
      rfl
    rw [hlifting]
    exact hframe

end Sys2Proof.Machine
end

section
/-!
The load hung at a lift-off (R97, R98, R110), and HOOK_LOADED without a live permit (R96, R98 to R100, R106).
-/

namespace Sys2Proof.Machine

set_option Elab.async false

/-! ### A crane's record and hook set (R97, R98) -/

/-- The structures with a crane's moved to match a hook at `q`; an undefined crane's stays (R31). -/
def State.structsAt (s : State) (c : Crane) (q : Pt) : PerCrane (Option Pos) :=
  match s.tables.crane c with
  | some d => s.ct.structs.set c (some (d.centroid q))
  | none => s.ct.structs

theorem State.structsAt_self {s : State} {c : Crane} {d : CraneDef} (h : s.tables.crane c = some d) (q : Pt) :
    (s.structsAt c q).get c = some (d.centroid q) := by
  unfold State.structsAt
  rw [h]
  simp

theorem State.structsAt_other (s : State) {c k : Crane} (h : k ≠ c) (q : Pt) :
    (s.structsAt c q).get k = s.ct.structs.get k := by
  unfold State.structsAt
  split
  · simp [h]
  · rfl

/-- The LCU with a crane's record and hook set, the source REPORTED. -/
def Lcu.hung (u : Lcu) (c : Crane) (r : LiftRec) (q : Pt) (h : Int) : Lcu :=
  { u with recs := u.recs.set c r, hooks := u.hooks.set c ⟨q.x, q.y, h, .reported⟩ }

theorem State.setLift_putHook (s : State) (c : Crane) (r : LiftRec) (q : Pt) (h : Int) :
    (s.setLift c r).putHook c q h =
      s.withCtLcu { s.ct with structs := s.structsAt c q } (s.lcu.hung c r q h) := by
  have htables : ((s.setLift c r).setHook c ⟨q.x, q.y, h, .reported⟩).tables.crane c = s.tables.crane c := rfl
  unfold State.putHook State.moveStructure State.structsAt
  rw [htables]
  cases s.tables.crane c <;> rfl

/-- The states that hanging makes: of a state `e`, equal to `u` or to `u` with one load alarm raised, other records,
hooks and structures of the cranes concerned. -/
theorem State.Hung.of_withCtLcu {u e : State} {ct : CondTable} {lcu : Lcu} {own : Crane → Prop}
    (he : e = u ∨ ∃ k j, own k ∧ (j = ⟨.unpermittedLift, .crane k⟩ ∨ j = ⟨.positionUnknown, .crane k⟩) ∧ e = u.raise j)
    (hct : ct = { u.ct with structs := ct.structs }) (hlcu : lcu = { u.lcu with recs := lcu.recs, hooks := lcu.hooks })
    (hother : ∀ k, ¬ own k → lcu.recs.get k = u.lcu.recs.get k ∧ lcu.hooks.get k = u.lcu.hooks.get k ∧
      ct.structs.get k = u.ct.structs.get k) : u.Hung (e.withCtLcu ct lcu) own := by
  have hnoted : u.Noted e := by
    rcases he with rfl | ⟨-, j, -, -, rfl⟩
    · exact State.Noted.refl e
    · exact State.Noted.raise u j
  refine ⟨State.LotMoved.of_noted hnoted (by rw [hct]) hlcu, hct, hother, fun j hj => ?_, fun j hj => ?_, fun hn => ?_,
    fun j hj => ?_⟩
  · rcases he with rfl | ⟨-, i, -, -, rfl⟩
    · exact hj
    · exact (State.mem_held_raise u i j).2 (.inl hj)
  · rcases he with rfl | ⟨k, i, hk, hi, rfl⟩
    · exact .inl hj
    · rcases (State.mem_held_raise u i j).1 hj with hold | rfl
      · exact .inl hold
      · exact .inr ⟨k, hk, hi⟩
  · rcases he with rfl | ⟨-, i, -, -, rfl⟩
    · exact hn
    · exact State.raise_held_nodup hn i
  · rcases he with rfl | ⟨_, i, -, hi, rfl⟩
    · exact (Als.Spares.of_entries rfl).mono (Nat.zero_le 1)
    · refine State.spares_raise fun hij => ?_
      rw [← hij] at hj
      rcases hi with hi | hi <;> rw [hi] at hj <;> cases hj

/-! ### A lift-off seen from the state before the frame was taken -/

/-- What a lift-off takes is read from the table, the hooks, the alarm list and the records of the other cranes. -/
theorem State.takesLot.transfer {x y s t : State} {c : Crane} {n : Nat} {origin : LiftEnd} {own : Crane → Prop}
    (h : x.takesLot y c n origin own) (hown : own c) (hct : s.ct = x.ct) (hhooks : s.lcu.hooks = x.lcu.hooks)
    (htables : s.tables = x.tables) (hals : s.als = x.als) (hseconds : s.seconds = x.seconds)
    (hlift : ∀ k, k ≠ c → s.lift k = x.lift k) (htct : t.ct = y.ct) (htrecs : t.lcu.recs = y.lcu.recs)
    (hthooks : t.lcu.hooks = y.lcu.hooks) (htals : t.als = y.als) : s.takesLot t c n origin own := by
  obtain ⟨hlots, hfiling, hspaces, hcranes, hfind, hserial⟩ := h
  unfold State.takesLot
  unfold State.capacityJudged State.hook at *
  rw [hct, hhooks, htables, hals, hseconds, htct, hthooks, htals]
  refine ⟨hlots, hfiling, hspaces, fun k hk => ?_, ?_, hserial⟩
  · have hkc : k ≠ c := fun he => hk (he ▸ hown)
    have htlift : t.lift k = y.lift k := congrArg (PerCrane.get · k) htrecs
    beta_reduce
    rw [hlift k hkc, htlift]
    exact hcranes k hk
  · have hhooked : (∃ k, k ≠ c ∧ (s.lift k).hookedLot = some n) ↔ ∃ k, k ≠ c ∧ (x.lift k).hookedLot = some n :=
      exists_congr fun k => and_congr_right fun hk => by rw [hlift k hk]
    rw [hhooked]
    exact hfind

/-! ### The payload (R96, R179) -/

theorem hookLoadedPayload_lengthOk (permit n : Nat) (w : Int) (origin : Nat) (q : Pt) (h : Int) :
    lengthOk kHookLoaded (hookLoadedPayload permit n w origin q h) = true := by
  simp [lengthOk, fixedLength, hookLoadedPayload]

/-- A HOOK_LOADED reads back what it carries, clamped as a physical report (R1, R96). -/
theorem liftOff_payload {permit n : Nat} {w : Int} {origin : Nat} {q : Pt} {h : Int} (hpermit : permit < 256)
    (hn : n < 65536) (hw : weightOnWire w) (horigin : origin < 256) (hq : q.onWire) (hh : weightOnWire h) :
    liftOff (hookLoadedPayload permit n w origin q h) =
      ⟨permit, n, max 1 (min 20000 w), origin, ⟨max 0 (min 250000 q.x), max (-25000) (min 25000 q.y)⟩,
        max 0 (min 80000 h)⟩ := by
  unfold liftOff hookLoadedPayload
  rw [← Pt.clampFrame_eq, ← clamp_eq_max_min (by decide), ← clamp_eq_max_min (by decide)]
  simp [field_append_right, fieldU_append_right, fieldPt_append_right, field_octetsN_append, hpermit, hn, horigin,
    fieldU_octets _ _ hw, fieldPt_ptOctets _ _ hq, fieldU_octets_end h hh]

/-! ### A lift-off as a whole (R97 to R100) -/

/-- The state before the placement: the frame taken, and the lift records, the permit queue and the evaluation in hand
as `lcu` has them. -/
def State.liftBase (s : State) (c : Crane) (lcu : Lcu) : State := (s.pull (portOf c)).withCtLcu s.ct lcu

/-- The state `t` after a lift-off of lot `n` whose hanging made `v`, answered with `m`. -/
structure State.LotLifted (s v t : State) (c : Crane) (n : Nat) (origin : LiftEnd) (own : Crane → Prop) (lcu : Lcu)
    (m : OutMsg) : Prop where
  taken : s.takesLot t c n origin own
  stowed : ∀ l ∈ t.ct.lots, l.num ≠ n
  filed : ∀ f ∈ t.ct.filing, f.num ≠ n
  hooked : ∀ k l, ¬ own k → t.lift k = .hooked l → l.lot ≠ n
  lift : ∀ k, own k → t.lift k = v.lift k
  hook : ∀ k, t.hook k = v.hook k
  structs : t.ct.structs = v.ct.structs
  held : ∀ j, j ∈ t.als.held → j ∈ v.als.held
  kept : ∀ j, j.kind ≠ .landedUnfiled → j ∈ v.als.held → j ∈ t.als.held
  ended : ∃ y, (s.liftBase c lcu).LiftOffEnded v y n ∧ t.ct = y.ct ∧ t.lcu.recs = y.lcu.recs
  joins : s.stopJoins t c
  sends : ∀ crit serial, s.lmn.stop = some (crit, serial) → (s.stopPort (portOf c)).state = .none →
    (s.link (portOf c)).sending = none → (t.link (portOf c)).sending = some .order
  frame : t = (({ s.lifting t c with lcu.queue := lcu.queue, lcu.inHand := lcu.inHand }.noting t).replied (portOf c)
    m).takeJob

/-- HOOK_LOADED's placement, hanging and end of operation, taken and answered. -/
theorem exec_lotLifted {s v : State} {c : Crane} {p : List Byte} {m : OutMsg} {n : Nat} {origin : LiftEnd}
    {own : Crane → Prop} {lcu : Lcu} (h : s.takesAt c kHookLoaded p) (hl : lengthOk kHookLoaded p = true)
    (hu : s.upperPaired c = false) (hnotice : m.isNotice = false)
    (hlcu : lcu = { s.lcu with recs := lcu.recs, queue := lcu.queue, inHand := lcu.inHand })
    (hrecs : ∀ k, k ≠ c → lcu.recs.get k = s.lift k) (hx : (s.liftBase c lcu).Liftable c)
    (hv : ((s.liftBase c lcu).placeLot c n origin).Hung v own) (hown : own c)
    (hfree : ∀ f, (s.liftBase c lcu).filedBy n = some f → ¬ own f.crane)
    (hm : hookLoadedReply c p (s.pull (portOf c)) =
      ((v.endLiftOff ((s.liftBase c lcu).freesRecord n)).stopHooked c, .say m)) :
    ∃ t, exec (.hookLoaded c) s = .next t ∧ s.LotLifted v t c n origin own lcu m := by
  have hplaced := State.placeLot_taken hx n origin
  have hended := State.endLiftOff_ended hx hplaced hv
  generalize v.endLiftOff ((s.liftBase c lcu).freesRecord n) = y at hended hm
  have hmoved := (hplaced.moved.trans hv.moved).trans hended.moved
  have hy : ((s.withCtLcu y.ct y.lcu).pull (portOf c)).Noted y := hmoved.noted
  obtain ⟨t, hexec, htable, htrecs, hthooks, htals, hjoins, hsends, hframe⟩ :=
    exec_lifts h hl hu hm hy hnotice hmoved.table (by rw [hmoved.unit]; exact congrArg (fun u : Lcu =>
      { u with recs := y.lcu.recs, hooks := y.lcu.hooks }) hlcu)
  have hqueue : y.lcu.queue = lcu.queue := by rw [hmoved.unit]; rfl
  have hinHand : y.lcu.inHand = lcu.inHand := by rw [hmoved.unit]; rfl
  rw [hqueue, hinHand] at hframe
  have hbhooks : (s.liftBase c lcu).lcu.hooks = s.lcu.hooks := by
    show lcu.hooks = s.lcu.hooks
    rw [hlcu]
  have htaken := State.placed_takesLot hx hv hended
  obtain ⟨hstowed, hfiled, hhooked⟩ := State.placed_alone hx hv hended
  have htlift (k : Crane) : t.lift k = y.lift k := congrArg (PerCrane.get · k) htrecs
  refine ⟨t, hexec, ?_, ?_, ?_, fun k l hk hkl => ?_, fun k hk => ?_, fun k => ?_, ?_, ?_, ?_,
    ⟨y, hended, htable, htrecs⟩, hjoins, hsends, hframe⟩
  · exact htaken.transfer hown rfl hbhooks.symm rfl rfl rfl (fun k hk => (hrecs k hk).symm) htable htrecs hthooks htals
  · rw [htable]
    exact hstowed
  · rw [htable]
    exact hfiled
  · exact hhooked k l hk ((htlift k).symm.trans hkl)
  · rw [htlift, hended.lift, if_neg fun he => ?_]
    obtain ⟨f, hf, rfl⟩ := Option.map_eq_some_iff.1 he
    exact hfree f hf hk
  · exact congrArg (PerCrane.get · k) (hthooks.trans hended.hooks)
  · rw [htable, hended.structs]
  · rw [htals]
    exact hended.held
  · rw [htals]
    exact hended.kept

/-! ### HOOK_LOADED without a live permit (R96, R98) -/

/-- The load of a lift-off without a live permit (R98). -/
def LiftOff.late (f : LiftOff) : Load := ⟨0, f.lot, f.weight, liftEnd f.origin, none, true, none⟩

/-- Whether the record lets a lift-off without a live permit be recorded (R96). -/
def LiftRec.liftsLate (r : LiftRec) (f : LiftOff) : Prop :=
  r.holdsLoad = false ∧ (∀ m, r.unfiledLot = some m → m = f.lot) ∧
    ¬ ∃ a slot deadline, r = .granted a f.permit slot deadline ∧ a.lot = f.lot

theorem hookLoadedReply_late {s : State} {c : Crane} {p : List Byte} (hn : (liftOff p).lot ≠ 0)
    (ho : notAddress (liftOff p).origin = false) (h : (s.lift c).liftsLate (liftOff p)) :
    hookLoadedReply c p s = (s.withCtLcu s.ct (s.lcu.dropped c)).lateLift c (liftOff p) := by
  have hkept (hpending : (s.lift c).isPending = false) (hpermit : (s.lift c).permit = none) :
      s.withCtLcu s.ct (s.lcu.dropped c) = s := by
    rw [Lcu.dropped_of_none hpending hpermit]
    rfl
  obtain ⟨hfree, hunfiled, hpermitted⟩ := h
  unfold hookLoadedReply
  dsimp only
  rw [if_neg (by simp [hn, ho])]
  cases hrec : s.lift c with
  | idle => rw [hkept (by rw [hrec]; rfl) (by rw [hrec]; rfl)]
  | pending r attempts => rw [← State.dropRequest_eq]
  | granted r k slot deadline =>
    dsimp only
    rw [if_neg, ← State.dropRequest_eq]
    rintro ⟨hk, hlot⟩
    exact hpermitted ⟨r, slot, deadline, by rw [hrec, hk], hlot.symm⟩
  | unfiled m v =>
    dsimp only
    rw [if_pos (hunfiled m (by rw [hrec]; rfl)).symm, hkept (by rw [hrec]; rfl) (by rw [hrec]; rfl)]
  | hooked l => simp [hrec, LiftRec.holdsLoad] at hfree
  | partner m k => simp [hrec, LiftRec.holdsLoad] at hfree

end Sys2Proof.Machine
end

section
/-!
HOOK_LOADED without a live permit is refused, or recorded and answered LATE (R96, R98 to R100, R106, R145).
-/

namespace Sys2Proof.Machine

set_option Elab.async false

/-! ### The load hung (R98) -/

/-- The load hung without a permit: the record, the hook and the structure, and UNPERMITTED_LIFT (R98). -/
def State.hungLate (s : State) (c : Crane) (f : LiftOff) : State :=
  (((s.placeLot c f.lot (liftEnd f.origin)).setLift c (.hooked f.late)).putHook c f.pt f.h).raise
    ⟨.unpermittedLift, .crane c⟩

theorem State.hungLate_eq (s : State) (c : Crane) (f : LiftOff) : s.hungLate c f =
    ((s.placeLot c f.lot (liftEnd f.origin)).raise ⟨.unpermittedLift, .crane c⟩).withCtLcu
      { (s.placeLot c f.lot (liftEnd f.origin)).ct with
        structs := (s.placeLot c f.lot (liftEnd f.origin)).structsAt c f.pt }
      ((s.placeLot c f.lot (liftEnd f.origin)).lcu.hung c (.hooked f.late) f.pt f.h) := by
  unfold State.hungLate
  rw [State.setLift_putHook, State.raise_withCtLcu]

theorem State.hungLate_hung (s : State) (c : Crane) (f : LiftOff) :
    (s.placeLot c f.lot (liftEnd f.origin)).Hung (s.hungLate c f) fun k => k = c := by
  rw [State.hungLate_eq]
  refine State.Hung.of_withCtLcu (.inr ⟨c, _, rfl, .inl rfl, rfl⟩) rfl rfl fun k hk => ?_
  exact ⟨by simp [Lcu.hung, hk], by simp [Lcu.hung, hk], State.structsAt_other _ hk f.pt⟩

/-! ### The record that ends, and the queue (R93, R96) -/

theorem Lcu.dropped_recs_other (u : Lcu) {c k : Crane} (h : k ≠ c) : (u.dropped c).recs.get k = u.recs.get k := by
  rw [Lcu.dropped_recs, if_neg h]

/-- The end of a request or permit leaves no load on the hook, and a LANDED_UNFILED record as it is. -/
theorem Lcu.dropped_recs_self {u : Lcu} {c : Crane} (h : (u.recs.get c).holdsLoad = false) :
    ((u.dropped c).recs.get c).holdsLoad = false ∧
      ((u.dropped c).recs.get c).unfiledLot = (u.recs.get c).unfiledLot := by
  rw [Lcu.dropped_recs, if_pos rfl]
  cases hrec : u.recs.get c <;> simp [hrec, LiftRec.holdsLoad, LiftRec.unfiledLot] at h ⊢

/-- A request that is not queued leaves the queue as it is (R85). -/
theorem State.dropped_queue_of_wf {s : State} (h : s.queueWf) (c : Crane) :
    (s.lcu.dropped c).queue = s.lcu.queue.erase c := by
  rw [Lcu.dropped_queue]
  split
  next => rfl
  next hpending => exact (List.erase_of_not_mem fun hmem => hpending ((h.2 c (mem_cranes c)).1 hmem)).symm

/-! ### The outcome -/

section
variable {s : State} {c : Crane} {p : List Byte}

/-- A refusal of HOOK_LOADED at a crane whose port is no paired upper one. -/
theorem exec_hookLoaded_refused (h : s.takesAt c kHookLoaded p) (hl : lengthOk kHookLoaded p = true)
    (hu : s.upperPaired c = false) {e : Code}
    (hm : hookLoadedReply c p (s.pull (portOf c)) = (s.pull (portOf c), refuse kHookLoaded e)) :
    exec (.hookLoaded c) s = .next (s.replied (portOf c) (.refused kHookLoaded e)).takeJob :=
  exec_answers rfl h.1 hl (liftHandled h.2 hu hm)

/-- PORT_PAIRED on a paired upper port (R106). -/
theorem exec_hookLoaded_paired (h : s.takesAt c kHookLoaded p) (hl : lengthOk kHookLoaded p = true)
    (hu : s.upperPaired c = true) :
    exec (.hookLoaded c) s = .next (s.replied (portOf c) (.refused kHookLoaded .portPaired)).takeJob := by
  have hpaired := serveLift_paired (handle := hookLoadedReply c) h hl hu
  rw [← hpaired]
  rfl

/-- A lift-off recorded LATE: what it took, and the load hung. -/
theorem exec_lateLift {f : LiftOff} (h : s.takesAt c kHookLoaded p) (hl : lengthOk kHookLoaded p = true)
    (hu : s.upperPaired c = false) (hf : liftOff p = f) (hn : f.lot ≠ 0) (ho : notAddress f.origin = false)
    (hlate : (s.lift c).liftsLate f) (hwf : s.liftsWf) :
    (s.liftBase c (s.lcu.dropped c)).Liftable c ∧ ∃ t, exec (.hookLoaded c) s = .next t ∧
      s.LotLifted ((s.liftBase c (s.lcu.dropped c)).hungLate c f) t c f.lot (liftEnd f.origin) (fun k => k = c)
        (s.lcu.dropped c) (.late f.lot f.permit) := by
  obtain ⟨hfree, hunfiled, -⟩ := id hlate
  have hself := Lcu.dropped_recs_self (u := s.lcu) (c := c) hfree
  have hx : (s.liftBase c (s.lcu.dropped c)).Liftable c :=
    (State.Liftable.of_liftsWf hwf h.1.1 hfree).of_request (x := s.liftBase c (s.lcu.dropped c)) rfl
      (fun k hk => s.lcu.dropped_recs_other hk) hself.1 hself.2
  have hlcu : s.lcu.dropped c = { s.lcu with
      recs := (s.lcu.dropped c).recs
      queue := (s.lcu.dropped c).queue
      inHand := (s.lcu.dropped c).inHand } := s.lcu.dropped_rest c
  have hm : hookLoadedReply c p (s.pull (portOf c)) = (s.liftBase c (s.lcu.dropped c)).lateLift c f := by
    subst hf
    exact hookLoadedReply_late (s := s.pull (portOf c)) hn ho hlate
  refine ⟨hx, exec_lotLifted h hl hu rfl hlcu (fun k hk => s.lcu.dropped_recs_other hk) hx (State.hungLate_hung _ c f)
    rfl (fun g hg hgc => ?_) hm⟩
  obtain ⟨hlot, hne⟩ := hx.filedBy_unfiled hg
  rw [hgc] at hlot
  exact hne (hunfiled g.num (hself.2.symm.trans hlot))

/-- The record, the hook, the structure and the conditions of a lift-off recorded LATE (R98, R100). -/
theorem State.LotLifted.late {x t : State} {f : LiftOff} {lcu : Lcu} {m : OutMsg} (hx : x.Liftable c)
    (ht : s.LotLifted (x.hungLate c f) t c f.lot (liftEnd f.origin) (fun k => k = c) lcu m) :
    t.lift c = .hooked f.late ∧ t.hook c = ⟨f.pt.x, f.pt.y, f.h, .reported⟩ ∧
      (∀ d, x.tables.crane c = some d → t.ct.structs.get c = some (d.centroid f.pt)) ∧
      (⟨.unpermittedLift, .crane c⟩ : AlarmKey) ∈ t.als.held ∧
      (x.als.held.Nodup → (x.lift c).unfiledLot = some f.lot →
        (⟨.landedUnfiled, .crane c⟩ : AlarmKey) ∉ t.als.held) := by
  have hplaced := State.placeLot_taken hx f.lot (liftEnd f.origin)
  have hhung := x.hungLate_hung c f
  have hv := x.hungLate_eq c f
  refine ⟨?_, ?_, fun d hd => ?_, ?_, fun hnodup hunfiled hheld => ?_⟩
  · rw [ht.lift c rfl, hv]
    exact (PerCrane.get_set _ c c _).trans (if_pos rfl)
  · rw [ht.hook c, hv]
    exact (PerCrane.get_set _ c c _).trans (if_pos rfl)
  · rw [ht.structs, hv]
    exact State.structsAt_self (by rw [hplaced.moved.tables]; exact hd) f.pt
  · refine ht.kept _ (by simp) ?_
    rw [hv]
    exact (State.mem_held_raise _ _ _).2 (.inr rfl)
  · exact hplaced.filed hnodup c hunfiled
      ((hhung.mem_held_iff fun k _ => ⟨by simp, by simp⟩).1 (ht.held _ hheld))

end

/-- A record that is not busy and whose permit is not the frame's lifts off late (R96). -/
theorem LiftRec.liftsLate_of_not_busy {r : LiftRec} {f : LiftOff}
    (hbusy : ¬ ((∃ l, r = .hooked l) ∨ (∃ m k, r = .partner m k) ∨ ∃ m v, r = .unfiled m v ∧ m ≠ f.lot))
    (hno : ¬ ∃ a slot deadline, r = .granted a f.permit slot deadline ∧ a.lot = f.lot) : r.liftsLate f := by
  refine ⟨?_, fun m hm => ?_, hno⟩
  · cases r with
    | hooked l => exact absurd (.inl ⟨l, rfl⟩) hbusy
    | partner m k => exact absurd (.inr (.inl ⟨m, k, rfl⟩)) hbusy
    | _ => rfl
  · cases r with
    | unfiled m' v =>
      obtain rfl := Option.some.inj hm
      by_contra hne
      exact hbusy (.inr (.inr ⟨_, v, rfl, hne⟩))
    | _ => cases hm

/-- Settles O46: the refusals in their order, and the lift-off of every other record. -/
theorem unpermittedLiftOffIsRecordedLate : Obligations.UnpermittedLiftOffIsRecordedLate := by
  intro s c permit n w origin q h d hw ho hq hh hpermit hn hd ht refused paired bad busy permitted
  have htakes : s.takesAt c kHookLoaded (hookLoadedPayload permit n w origin q h) := ⟨ht, by rw [hd]; rfl⟩
  have hl := hookLoadedPayload_lengthOk permit n w origin q h
  have hread := liftOff_payload hpermit hn hw ho hq hh
  have hbad : ((liftOff (hookLoadedPayload permit n w origin q h)).lot = 0 ∨
      notAddress (liftOff (hookLoadedPayload permit n w origin q h)).origin = true) ↔ bad := by
    rw [hread, notAddress_eq ho, decide_eq_true_iff]
  refine ⟨exec_hookLoaded_paired htakes hl, fun hp hb => ?_, fun hp hb hbusy => ?_, fun hp hb hbusy hno hwf => ?_⟩
  · refine exec_hookLoaded_refused htakes hl (Bool.eq_false_iff.2 hp) ?_
    exact if_pos (hbad.2 hb)
  · refine exec_hookLoaded_refused htakes hl (Bool.eq_false_iff.2 hp) ((if_neg (mt hbad.1 hb)).trans ?_)
    have hlift : (s.pull (portOf c)).lift c = s.lift c := rfl
    rw [hlift]
    rcases hbusy with ⟨l, hrec⟩ | ⟨m, k, hrec⟩ | ⟨m, v, hrec, hm⟩
    · rw [hrec]
    · rw [hrec]
    · rw [hrec]
      refine if_neg fun he => hm ?_
      rw [← he, hread]
  · intro pt from'
    have hlate : (s.lift c).liftsLate ⟨permit, n, max 1 (min 20000 w), origin, pt, max 0 (min 80000 h)⟩ :=
      LiftRec.liftsLate_of_not_busy hbusy hno
    have hfields := mt hbad.1 hb
    rw [hread] at hfields
    push Not at hfields
    obtain ⟨hx, t, hexec, hlifted⟩ := exec_lateLift htakes hl (Bool.eq_false_iff.2 hp) hread hfields.1
      (Bool.eq_false_iff.2 hfields.2) hlate hwf
    obtain ⟨hlift, hhook, hstructs, hraised, hcleared⟩ := hlifted.late hx
    refine ⟨t, hexec, hlift, hhook, hstructs d hd, hlifted.taken, hlifted.stowed, hlifted.filed, fun k l hkl hl => ?_,
      hraised, fun hnodup hunfiled => hcleared hnodup ?_, hlifted.joins, ?_, hlifted.sends⟩
    · by_contra hk
      exact hlifted.hooked k l hk hkl hl
    · obtain ⟨v, hrec⟩ := hunfiled
      refine (Lcu.dropped_recs_self (u := s.lcu) (c := c) hlate.1).2.trans ?_
      rw [show s.lcu.recs.get c = .unfiled n v from hrec]
      rfl
    · have hframe := hlifted.frame
      rwa [State.dropped_queue_of_wf hwf.2.2.1, Lcu.dropped_inHand] at hframe

end Sys2Proof.Machine
end

section
/-!
HOOK_LOADED under a permit (R97, R99, R100, R110): the load hung, with the upper crane of a tandem lift, and the worst
point of an upper hook whose port is not ACTIVE (R116, R117).
-/

namespace Sys2Proof.Machine

set_option Elab.async false

/-! ### The worst point while a load is filed (R117) -/

/-- The weight on a hook is read from the records that hold a load. -/
theorem onHook_congr {recs recs' : PerCrane LiftRec}
    (h : ∀ k, recs'.get k = recs.get k ∨ ((recs'.get k).holdsLoad = false ∧ (recs.get k).holdsLoad = false))
    (c : Crane) :
    onHook recs' c = onHook recs c := by
  have hnone {rs : PerCrane LiftRec} {k : Crane} (hk : (rs.get k).holdsLoad = false) : onHook rs k = none := by
    unfold onHook
    cases hrec : rs.get k <;> simp [hrec, LiftRec.holdsLoad] at hk ⊢
  rcases h c with hc | ⟨hc', hc⟩
  · unfold onHook
    rw [hc]
    cases recs.get c with
    | partner n k =>
      dsimp only
      rcases h k with hk | ⟨hk', hk⟩
      · rw [hk]
      · have hnot {rs : PerCrane LiftRec} (hfree : (rs.get k).holdsLoad = false) (l : Load) : rs.get k ≠ .hooked l :=
          fun hl => by rw [hl] at hfree; cases hfree
        split
        next l hl => exact absurd hl (hnot hk' l)
        next =>
          split
          next l hl => exact absurd hl (hnot hk l)
          next => rfl
    | _ => rfl
  · rw [hnone hc', hnone hc]

/-- The side of the worst points is read from the fixed items' moment, the weights on the hooks, and the hooks and
structures of the cranes that do not stray (R117). -/
theorem Scene.worstSide_eq {sc sc' : Scene} {t : Tables} {recs recs' : PerCrane LiftRec} (hooks : PerCrane Hook)
    (structs : PerCrane (Option Pos)) (hplace : sc'.place = sc.place)
    (hfixed : sc'.countFixed t (fun it => it.w * it.pos.y) = sc.countFixed t fun it => it.w * it.pos.y)
    (hon : ∀ c, onHook recs' c = onHook recs c) :
    sc'.worstSide t recs' hooks structs = sc.worstSide t recs hooks structs := by
  unfold Scene.worstSide Scene.countCrane strays
  simp only [hon, hplace, hfixed]

/-- A load keeps its moment as it goes from the filing list to a stow list (R23, R52). -/
theorem State.LiftOffEnded.countFixed {s v x : State} {n : Nat} (h : s.LiftOffEnded v x n) (t : Tables) :
    x.ct.scene.countFixed t (fun it => it.w * it.pos.y) = v.ct.scene.countFixed t fun it => it.w * it.pos.y := by
  have htanks : x.ct.tanks = v.ct.tanks := by rw [h.moved.table]
  have hconsts : x.ct.consts = v.ct.consts := by rw [h.moved.table]
  have hlots := h.lots
  have hfiling := h.filing
  unfold Scene.countFixed CondTable.scene
  dsimp only
  rw [htanks, hconsts, hlots, hfiling]
  cases hf : s.filedBy n with
  | none => simp
  | some f =>
    rw [h.waiting f hf]
    simp only [Option.map_some, Option.toList_some, List.map_append, sumOf_eq_sum, List.sum_append, List.map_cons,
      List.map_nil, List.sum_cons, List.sum_nil, Filing.lot, Option.isSome_some, if_true]
    ring

/-- The worst point after a lift-off is that after the hanging: the filing of a waiting load does not move it. -/
theorem State.worstCentroid_ended {x u v y t : State} {n : Nat} {own : Crane → Prop} (h : x.LiftOffEnded v y n)
    (hv : u.Hung v own) (hfiled : ∀ f, x.filedBy n = some f → ¬ own f.crane ∧ (u.lift f.crane).holdsLoad = false)
    (htables : t.tables = v.tables) (hct : t.ct = y.ct) (hrecs : t.lcu.recs = y.lcu.recs)
    (hhooks : t.lcu.hooks = v.lcu.hooks) (d : CraneDef) :
    t.worstCentroid t.lcu.hooks d = v.worstCentroid v.lcu.hooks d := by
  have hon (c : Crane) : onHook y.lcu.recs c = onHook v.lcu.recs c := by
    refine onHook_congr (fun k => ?_) c
    have hlift := h.lift k
    split at hlift
    next hk =>
      obtain ⟨f, hf, rfl⟩ := Option.map_eq_some_iff.1 hk
      obtain ⟨hown, hfree⟩ := hfiled f hf
      refine .inr ⟨congrArg LiftRec.holdsLoad hlift, ?_⟩
      rw [← (hv.other _ hown).1] at hfree
      exact hfree
    next => exact .inl hlift
  unfold State.worstCentroid
  rw [htables, hct, hrecs, hhooks, h.structs,
    Scene.worstSide_eq (sc := v.ct.scene) (sc' := y.ct.scene) v.lcu.hooks v.ct.structs rfl (h.countFixed v.tables) hon]

/-! ### The load hung under a permit (R97, R110) -/

/-- The upper crane's port is ACTIVE, so that its hook is REPORTED (R110). -/
def State.upperReported (s : State) (c : Crane) : Bool := (s.link (portOf (mate c))).state == .active

/-- The upper crane's part, UNKNOWN when its port is not ACTIVE (R110, R116). -/
theorem State.hangUpper_eq (s : State) (c : Crane) (n : Nat) (q : Pt) (h : Int) :
    let set := s.withCtLcu { s.ct with structs := s.structsAt (mate c) q } (s.lcu.hung (mate c) (.partner n c) q h)
    s.hangUpper c n q h = if s.upperReported c = true then set
      else (s.raise ⟨.positionUnknown, .crane (mate c)⟩).withCtLcu { s.ct with structs := set.structsGone (mate c) }
        (set.lcu.hookGone (mate c)) := by
  intro set
  unfold State.hangUpper State.upperReported
  dsimp only
  rw [State.setLift_putHook]
  split
  next hactive => rw [if_pos (by simpa using hactive)]
  next hactive =>
    rw [if_neg (by simpa using hactive), State.losePosition_toWorst, State.raise_withCtLcu]
    rfl

/-- A load hung on a crane under a permit. -/
def State.hungOwn (s : State) (c : Crane) (l : Load) (q : Pt) (h : Int) : State :=
  (s.setLift c (.hooked l)).putHook c q h

/-- The load of a permitted lift-off hung, with the upper crane of a tandem lift. -/
def State.hungPermitted (s : State) (c : Crane) (l : Load) (q : Pt) (upper : Option Pt) (h : Int) : State :=
  match upper with
  | some q' => (s.hungOwn c l q h).hangUpper c l.lot q' h
  | none => s.hungOwn c l q h

section
variable {s : State} {c : Crane} {l : Load} {q : Pt} {upper : Option Pt} {h : Int}

theorem State.hungOwn_eq (s : State) (c : Crane) (l : Load) (q : Pt) (h : Int) : s.hungOwn c l q h =
    s.withCtLcu { s.ct with structs := s.structsAt c q } (s.lcu.hung c (.hooked l) q h) :=
  State.setLift_putHook _ _ _ _ _

theorem State.hungOwn_tables (s : State) (c : Crane) (l : Load) (q : Pt) (h : Int) :
    (s.hungOwn c l q h).tables = s.tables := by
  rw [State.hungOwn_eq]
  rfl

theorem State.hungOwn_self {d : CraneDef} (hd : s.tables.crane c = some d) :
    (s.hungOwn c l q h).lift c = .hooked l ∧ (s.hungOwn c l q h).hook c = ⟨q.x, q.y, h, .reported⟩ ∧
      (s.hungOwn c l q h).ct.structs.get c = some (d.centroid q) := by
  rw [State.hungOwn_eq]
  exact ⟨(PerCrane.get_set _ c c _).trans (if_pos rfl), (PerCrane.get_set _ c c _).trans (if_pos rfl),
    State.structsAt_self hd q⟩

theorem State.hungOwn_other (s : State) {c k : Crane} (hk : k ≠ c) (l : Load) (q : Pt) (h : Int) :
    (s.hungOwn c l q h).lift k = s.lift k ∧ (s.hungOwn c l q h).hook k = s.hook k ∧
      (s.hungOwn c l q h).ct.structs.get k = s.ct.structs.get k := by
  rw [State.hungOwn_eq]
  exact ⟨(PerCrane.get_set _ _ _ _).trans (if_neg hk), (PerCrane.get_set _ _ _ _).trans (if_neg hk),
    State.structsAt_other _ hk q⟩

/-- What the hanging of the upper crane sets, and that it leaves every other crane as it was. -/
structure State.UpperHung (s v : State) (c : Crane) (n : Nat) (q : Pt) (h : Int) : Prop where
  lift : v.lift (mate c) = .partner n c
  hook : v.hook (mate c) = ⟨q.x, q.y, h, if s.upperReported c = true then .reported else .unknown⟩
  reported : s.upperReported c = true → ∀ d, s.tables.crane (mate c) = some d →
    v.ct.structs.get (mate c) = some (d.centroid q)
  worst : s.upperReported c = false → ∀ d, s.tables.crane (mate c) = some d →
    v.ct.structs.get (mate c) = some (v.worstCentroid v.lcu.hooks d)
  unknown : s.upperReported c = false → (⟨.positionUnknown, .crane (mate c)⟩ : AlarmKey) ∈ v.als.held
  other : ∀ k, k ≠ mate c → v.lift k = s.lift k ∧ v.hook k = s.hook k ∧ v.ct.structs.get k = s.ct.structs.get k

/-- The upper hook of a tandem lift strays when its source is UNKNOWN (R54, R117). -/
theorem strays_of_partner {recs : PerCrane LiftRec} {hooks : PerCrane Hook} {c k : Crane} {n : Nat} {l : Load}
    (hpartner : recs.get c = .partner n k) (hlower : recs.get k = .hooked l) (ht : l.tandem.isSome = true)
    (hunknown : (hooks.get c).source = .unknown) : strays recs hooks c = true := by
  unfold strays onHook
  rw [hpartner]
  dsimp only
  rw [hlower, hunknown]
  simpa using ht

theorem State.hangUpper_hung {l : Load} (hlower : s.lift c = .hooked l) (ht : l.tandem.isSome = true) (n : Nat) (q : Pt)
    (h : Int) : s.UpperHung (s.hangUpper c n q h) c n q h := by
  have heq := s.hangUpper_eq c n q h
  dsimp only at heq
  obtain ⟨w, hw⟩ : ∃ w, w = s.withCtLcu { s.ct with structs := s.structsAt (mate c) q }
    (s.lcu.hung (mate c) (.partner n c) q h) := ⟨_, rfl⟩
  rw [← hw] at heq
  have hlift : w.lift (mate c) = .partner n c := by
    rw [hw]
    exact (PerCrane.get_set _ _ _ _).trans (if_pos rfl)
  have hhook : w.hook (mate c) = ⟨q.x, q.y, h, .reported⟩ := by
    rw [hw]
    exact (PerCrane.get_set _ _ _ _).trans (if_pos rfl)
  have hother (k : Crane) (hk : k ≠ mate c) :
      w.lift k = s.lift k ∧ w.hook k = s.hook k ∧ w.ct.structs.get k = s.ct.structs.get k := by
    rw [hw]
    exact ⟨(PerCrane.get_set _ _ _ _).trans (if_neg hk), (PerCrane.get_set _ _ _ _).trans (if_neg hk),
      s.structsAt_other hk q⟩
  rw [heq]
  by_cases hreported : s.upperReported c = true
  · rw [if_pos hreported]
    refine ⟨hlift, by rw [hhook, if_pos hreported], fun _ d hd => ?_, fun hno => by simp [hno] at hreported,
      fun hno => by simp [hno] at hreported, hother⟩
    rw [hw]
    exact State.structsAt_self hd q
  · rw [if_neg hreported]
    obtain ⟨g, hg⟩ : ∃ g, g = w.withCtLcu w.ct (w.lcu.hookGone (mate c)) := ⟨_, rfl⟩
    have hgone : w.structsGone (mate c) = g.structsToWorst (mate c) := by rw [hg]; rfl
    have hunknown : (g.lcu.hooks.get (mate c)) = { w.hook (mate c) with source := .unknown } := by
      rw [hg]
      exact (PerCrane.get_set _ _ _ _).trans (if_pos rfl)
    have hgtables : g.tables = s.tables := by rw [hg, hw]; rfl
    have hstrays : strays g.lcu.recs g.lcu.hooks (mate c) = true := by
      refine strays_of_partner (n := n) (k := c) (l := l) ?_ ?_ ht (by rw [hunknown])
      · rw [hg]
        exact hlift
      · rw [hg]
        exact ((hother c (mate_ne c).symm).1).trans hlower
    obtain ⟨v, hv⟩ : ∃ v, v = (s.raise ⟨.positionUnknown, .crane (mate c)⟩).withCtLcu
      { s.ct with structs := w.structsGone (mate c) } (w.lcu.hookGone (mate c)) := ⟨_, rfl⟩
    have hvct : v.ct = { s.ct with structs := g.structsToWorst (mate c) } := by rw [hv, hgone]; rfl
    have hvlcu : v.lcu = g.lcu := by rw [hv, hg]; rfl
    have hvtables : v.tables = g.tables := by
      rw [hgtables, hv]
      exact State.raise_tables s _
    have hvals : v.als = (s.raise ⟨.positionUnknown, .crane (mate c)⟩).als := by rw [hv]; rfl
    have hglift (k : Crane) : v.lift k = w.lift k := by
      unfold State.lift
      rw [hvlcu, hg]
      rfl
    have hghook (k : Crane) : v.hook k =
        if k = mate c then { w.hook (mate c) with source := .unknown } else w.hook k := by
      unfold State.hook
      rw [hvlcu, hg]
      exact PerCrane.get_set _ _ _ _
    rw [← hv]
    refine ⟨(hglift _).trans hlift, by rw [hghook, if_pos rfl, hhook, if_neg hreported],
      fun hyes => absurd hyes hreported, fun _ d hd => ?_, fun _ => ?_, fun k hk => ?_⟩
    · rw [hvct]
      refine (State.structsToWorst_self (by rw [hgtables]; exact hd)).trans (congrArg some (Eq.symm ?_))
      refine State.worstCentroid_congr hvtables (by rw [hvct, hg, hw]; rfl) hvlcu (fun k hk => ?_) d
      rw [hvct]
      exact g.structsToWorst_other fun he => by rw [he, hstrays] at hk; cases hk
    · rw [hvals]
      exact (State.mem_held_raise _ _ _).2 (.inr rfl)
    · obtain ⟨h1, h2, h3⟩ := hother k hk
      refine ⟨(hglift k).trans h1, by rw [hghook, if_neg hk, h2], ?_⟩
      rw [hvct]
      refine (g.structsToWorst_other hk).trans (Eq.trans ?_ h3)
      rw [hg]
      rfl

/-- The cranes that a permitted lift-off hangs the load on. -/
def hangsOn (c : Crane) (upper : Option Pt) (k : Crane) : Prop := k = c ∨ (upper.isSome = true ∧ k = mate c)

/-- A load hung on a crane under a permit, whatever it is hung on besides. -/
theorem State.hangUpper_shape (s : State) (c : Crane) (l : Load) (q q' : Pt) (h : Int) : ∃ e ct lcu,
    (e = s ∨ e = s.raise ⟨.positionUnknown, .crane (mate c)⟩) ∧
      (s.hungOwn c l q h).hangUpper c l.lot q' h = e.withCtLcu ct lcu ∧ ct = { s.ct with structs := ct.structs } ∧
      lcu = { s.lcu with recs := lcu.recs, hooks := lcu.hooks } := by
  have heq := (s.hungOwn c l q h).hangUpper_eq c l.lot q' h
  dsimp only at heq
  obtain ⟨w, hw⟩ : ∃ w, w = s.hungOwn c l q h := ⟨_, rfl⟩
  rw [← hw] at heq ⊢
  rw [heq]
  rw [State.hungOwn_eq] at hw
  by_cases hreported : w.upperReported c = true
  · rw [if_pos hreported, hw]
    exact ⟨s, _, _, .inl rfl, rfl, rfl, rfl⟩
  · rw [if_neg hreported, hw, State.raise_withCtLcu]
    exact ⟨_, _, _, .inr rfl, rfl, rfl, rfl⟩

/-- The upper crane's part of a load hung under a permit (R110). -/
theorem State.hungPermitted_upper (s : State) (c : Crane) {l : Load} (htandem : l.tandem.isSome = true) (q q' : Pt)
    (h : Int) : (s.hungOwn c l q h).UpperHung (s.hungPermitted c l q (some q') h) c l.lot q' h := by
  refine State.hangUpper_hung ?_ htandem l.lot q' h
  rw [State.hungOwn_eq]
  exact (PerCrane.get_set _ c c _).trans (if_pos rfl)

/-- The crane's own part of a load hung under a permit (R97). -/
theorem State.hungPermitted_self {d : CraneDef} (hd : s.tables.crane c = some d)
    (htandem : upper.isSome = true → l.tandem.isSome = true) :
    (s.hungPermitted c l q upper h).lift c = .hooked l ∧
      (s.hungPermitted c l q upper h).hook c = ⟨q.x, q.y, h, .reported⟩ ∧
      (s.hungPermitted c l q upper h).ct.structs.get c = some (d.centroid q) := by
  have hown := State.hungOwn_self (l := l) (q := q) (h := h) hd
  cases upper with
  | none => exact hown
  | some q' =>
    obtain ⟨hlift, hhook, hstructs⟩ := (s.hungPermitted_upper c (htandem rfl) q q' h).other c (mate_ne c).symm
    obtain ⟨hl, hk, hs⟩ := hown
    exact ⟨hlift.trans hl, hhook.trans hk, hstructs.trans hs⟩

/-- The hanging under a permit, of one crane or of two (R97, R110). -/
theorem State.hungPermitted_hung (s : State) (c : Crane) (l : Load) (q : Pt) (upper : Option Pt) (h : Int)
    (htandem : upper.isSome = true → l.tandem.isSome = true) :
    s.Hung (s.hungPermitted c l q upper h) (hangsOn c upper) := by
  cases upper with
  | none =>
    have hkept (k : Crane) (hk : ¬ hangsOn c none k) := s.hungOwn_other (fun he => hk (.inl he)) l q h
    show s.Hung (s.hungOwn c l q h) (hangsOn c none)
    rw [State.hungOwn_eq] at hkept ⊢
    exact State.Hung.of_withCtLcu (.inl rfl) rfl rfl hkept
  | some q' =>
    have hupper := s.hungPermitted_upper c (htandem rfl) q q' h
    obtain ⟨e, ct, lcu, he, heq, hct, hlcu⟩ := s.hangUpper_shape c l q q' h
    have hkept (k : Crane) (hk : ¬ hangsOn c (some q') k) :
        ((s.hungOwn c l q h).hangUpper c l.lot q' h).lift k = s.lift k ∧
          ((s.hungOwn c l q h).hangUpper c l.lot q' h).hook k = s.hook k ∧
          ((s.hungOwn c l q h).hangUpper c l.lot q' h).ct.structs.get k = s.ct.structs.get k := by
      obtain ⟨h1, h2, h3⟩ := hupper.other k fun hm => hk (.inr ⟨rfl, hm⟩)
      obtain ⟨h4, h5, h6⟩ := s.hungOwn_other (fun hc => hk (.inl hc)) l q h
      exact ⟨h1.trans h4, h2.trans h5, h3.trans h6⟩
    show s.Hung ((s.hungOwn c l q h).hangUpper c l.lot q' h) (hangsOn c (some q'))
    rw [heq] at hkept ⊢
    refine State.Hung.of_withCtLcu (he.imp_right fun he => ?_) hct hlcu hkept
    exact ⟨mate c, _, .inr ⟨rfl, rfl⟩, .inr rfl, he⟩

end

end Sys2Proof.Machine
end

section
/-!
HOOK_LOADED under a permit hangs the lot (R97, R99, R100, R110).
-/

namespace Sys2Proof.Machine

set_option Elab.async false

/-- The upper crane's pickup point of a tandem permit (R97, R110). -/
def Request.upper (r : Request) : Option Pt := r.tandem.bind fun _ => r.pickup.partner

theorem Request.tandem_of_upper {r : Request} (h : r.upper.isSome = true) : r.tandem.isSome = true := by
  unfold Request.upper at h
  cases ht : r.tandem with
  | none => simp [ht] at h
  | some sh => rfl

theorem Request.load_tandem_of_upper {r : Request} (permit : Nat) (f : LiftOff) (h : r.upper.isSome = true) :
    (r.load permit f).tandem.isSome = true := by
  unfold Request.load
  rw [Option.isSome_map]
  exact Request.tandem_of_upper h

/-! ### The records that agree with a permit (R106, R109) -/

/-- A permit's crane is no paired upper one, and the partner of a tandem permit is idle. -/
theorem State.granted_tandemOk {s : State} {c : Crane} {r : Request} {permit slot deadline : Nat} (hwf : s.liftsWf)
    (hrun : s.phase = .running) (hrec : s.lift c = .granted r permit slot deadline) :
    s.upperPaired c = false ∧ (r.tandem.isSome = true → s.lift (mate c) = .idle) := by
  have hok := s.tandemOk_of_liftsWf hwf hrun c
  unfold State.tandemOk at hok
  rw [hrec] at hok
  simp only [Bool.and_eq_true, Bool.not_eq_true', Bool.or_eq_true, decide_eq_true_eq,
    Option.isNone_iff_eq_none] at hok
  obtain ⟨hupper, htandem⟩ := hok
  exact ⟨hupper, fun ht => (htandem.resolve_left fun hnone => by simp [hnone] at ht).2⟩

/-- A record that the load is hung on holds no waiting load. -/
theorem State.unfiledLot_of_hangsOn {s : State} {c k : Crane} {r : Request} {permit slot deadline : Nat}
    (hrec : s.lift c = .granted r permit slot deadline)
    (hmate : r.tandem.isSome = true → s.lift (mate c) = .idle) (hk : hangsOn c r.upper k) :
    (s.lift k).unfiledLot = none := by
  rcases hk with rfl | ⟨hupper, rfl⟩
  · rw [hrec]
    rfl
  · rw [hmate (Request.tandem_of_upper hupper)]
    rfl

/-! ### The outcome -/

/-- The load of a permitted lift-off hung (R97, R110). -/
def State.hungUnder (s : State) (c : Crane) (r : Request) (permit : Nat) (f : LiftOff) : State :=
  (s.placeLot c f.lot (liftEnd f.origin)).hungPermitted c (r.load permit f) r.pickup.own r.upper r.susp

theorem State.liftPermitted_eq (s : State) (c : Crane) (r : Request) (permit : Nat) (f : LiftOff) :
    s.liftPermitted c r permit f = ((s.hungUnder c r permit f).endLiftOff (s.freesRecord f.lot)).stopHooked c := by
  unfold State.liftPermitted State.hungUnder State.hungPermitted State.hungOwn Request.upper
  cases r.tandem with
  | none => rfl
  | some sh => cases r.pickup.partner <;> rfl

theorem hookLoadedReply_permitted {s : State} {c : Crane} {p : List Byte} {r : Request} {slot deadline : Nat}
    (hn : (liftOff p).lot ≠ 0) (ho : notAddress (liftOff p).origin = false)
    (hrec : s.lift c = .granted r (liftOff p).permit slot deadline) (hlot : (liftOff p).lot = r.lot) :
    hookLoadedReply c p s =
      (s.liftPermitted c r (liftOff p).permit (liftOff p), .say (.done kHookLoaded (.permit (liftOff p).permit))) := by
  unfold hookLoadedReply
  dsimp only
  rw [if_neg (by simp [hn, ho]), hrec]
  exact if_pos ⟨rfl, hlot⟩

section
variable {s : State} {c : Crane} {p : List Byte} {r : Request} {f : LiftOff} {slot deadline : Nat}

theorem State.hungUnder_hung (s : State) (c : Crane) (r : Request) (permit : Nat) (f : LiftOff) :
    (s.placeLot c f.lot (liftEnd f.origin)).Hung (s.hungUnder c r permit f) (hangsOn c r.upper) := by
  exact State.hungPermitted_hung _ _ _ _ _ _ (Request.load_tandem_of_upper permit f)

/-- The state that a permitted lift-off starts from: the frame taken. -/
theorem State.liftBase_liftable (hwf : s.liftsWf) (hrun : s.phase = .running)
    {permit : Nat} (hrec : s.lift c = .granted r permit slot deadline) : (s.liftBase c s.lcu).Liftable c :=
  (State.Liftable.of_liftsWf hwf hrun (by rw [hrec]; rfl)).of_request rfl (fun _ _ => rfl)
    (by show (s.lift c).holdsLoad = false; rw [hrec]; rfl) rfl

/-- A permitted lift-off: what it took, and the load hung. -/
theorem exec_permittedLift (h : s.takesAt c kHookLoaded p) (hl : lengthOk kHookLoaded p = true) (hf : liftOff p = f)
    (hn : f.lot ≠ 0) (ho : notAddress f.origin = false) (hrec : s.lift c = .granted r f.permit slot deadline)
    (hlot : f.lot = r.lot) (hwf : s.liftsWf) :
    ∃ t, exec (.hookLoaded c) s = .next t ∧
      s.LotLifted ((s.liftBase c s.lcu).hungUnder c r f.permit f) t c f.lot (liftEnd f.origin) (hangsOn c r.upper) s.lcu
        (.done kHookLoaded (.permit f.permit)) := by
  obtain ⟨hu, hmate⟩ := State.granted_tandemOk hwf h.1.1 hrec
  have hx := State.liftBase_liftable hwf h.1.1 hrec
  have hm : hookLoadedReply c p (s.pull (portOf c)) =
      ((s.liftBase c s.lcu).liftPermitted c r f.permit f, .say (.done kHookLoaded (.permit f.permit))) := by
    subst hf
    exact hookLoadedReply_permitted (s := s.pull (portOf c)) hn ho hrec hlot
  rw [State.liftPermitted_eq] at hm
  refine exec_lotLifted h hl hu rfl rfl (fun _ _ => rfl) hx (State.hungUnder_hung _ c r f.permit f) (.inl rfl)
    (fun g hg hgc => ?_) hm
  have hunfiled := (hx.filedBy_unfiled hg).1.symm.trans (State.unfiledLot_of_hangsOn hrec hmate hgc)
  cases hunfiled

/-- The waiting load that a permitted lift-off files stands in the record of a crane that hangs nothing. -/
theorem State.filedBy_apart (hx : s.Liftable c)
    (hrec : s.lift c = .granted r f.permit slot deadline) (hmate : r.tandem.isSome = true → s.lift (mate c) = .idle)
    {g : Filing} (hg : s.filedBy f.lot = some g) : ¬ hangsOn c r.upper g.crane ∧
      ((s.placeLot c f.lot (liftEnd f.origin)).lift g.crane).holdsLoad = false := by
  obtain ⟨hunfiled, hne⟩ := hx.filedBy_unfiled hg
  have hplaced := State.placeLot_taken hx f.lot (liftEnd f.origin)
  refine ⟨fun hk => ?_, ?_⟩
  · cases hunfiled.symm.trans (State.unfiledLot_of_hangsOn hrec hmate hk)
  · by_cases hends : (s.lift g.crane).hangs f.lot ∨ (s.lift g.crane).unfiledLot = some f.lot
    · rw [hplaced.ended g.crane hends]
      rfl
    · rw [hplaced.kept g.crane hends]
      cases hl : s.lift g.crane <;> simp [hl, LiftRec.unfiledLot, LiftRec.holdsLoad] at hunfiled ⊢

/-- The own record, hook and structure of a permitted lift-off (R97). -/
theorem State.LotLifted.own {t : State} {m : OutMsg} {d : CraneDef} (hx : (s.liftBase c s.lcu).Liftable c)
    (ht : s.LotLifted ((s.liftBase c s.lcu).hungUnder c r f.permit f) t c f.lot (liftEnd f.origin) (hangsOn c r.upper)
      s.lcu m) (hd : s.tables.crane c = some d) :
    t.lift c = .hooked (r.load f.permit f) ∧
      t.hook c = ⟨r.pickup.own.x, r.pickup.own.y, r.susp, .reported⟩ ∧
      t.ct.structs.get c = some (d.centroid r.pickup.own) := by
  have htables := (State.placeLot_taken hx f.lot (liftEnd f.origin)).moved.tables
  obtain ⟨hlift, hhook, hstructs⟩ := State.hungPermitted_self
    (s := (s.liftBase c s.lcu).placeLot c f.lot (liftEnd f.origin)) (q := r.pickup.own) (h := r.susp)
    (by rw [htables]; exact hd) (Request.load_tandem_of_upper f.permit f)
  exact ⟨(ht.lift c (.inl rfl)).trans hlift, (ht.hook c).trans hhook, ht.structs ▸ hstructs⟩

/-- The placement and the hanging leave the upper crane's port as it was (R110). -/
theorem State.upperReported_hungOwn {lcu : Lcu} (hx : (s.liftBase c lcu).Liftable c) (n : Nat) (origin : LiftEnd)
    (l : Load) (q : Pt) (h : Int) :
    (((s.liftBase c lcu).placeLot c n origin).hungOwn c l q h).upperReported c = s.upperReported c := by
  have hmoved := (State.placeLot_taken hx n origin).moved
  have hplaced : ((s.liftBase c lcu).placeLot c n origin).link (portOf (mate c)) =
      (s.liftBase c lcu).link (portOf (mate c)) :=
    hmoved.keeps (·.link (portOf (mate c))) fun u l _ _ _ =>
      (u.link_setLink .p (portOf (mate c)) l).trans (if_neg (portOf_ne_p _))
  have hpulled : (s.liftBase c lcu).link (portOf (mate c)) = s.link (portOf (mate c)) :=
    (s.link_setLink (portOf c) _ _).trans (if_neg fun he => mate_ne c (portOf_injective he))
  unfold State.upperReported
  rw [State.hungOwn_eq, ← hpulled, ← hplaced]
  rfl

/-- The upper crane's part of a permitted lift-off (R110, R116). -/
theorem State.LotLifted.upper {t : State} {m : OutMsg} {q : Pt} (hx : (s.liftBase c s.lcu).Liftable c)
    (hrec : s.lift c = .granted r f.permit slot deadline) (hmate : r.tandem.isSome = true → s.lift (mate c) = .idle)
    (ht : s.LotLifted ((s.liftBase c s.lcu).hungUnder c r f.permit f) t c f.lot (liftEnd f.origin) (hangsOn c r.upper)
      s.lcu m) (hq : r.upper = some q) :
    t.lift (mate c) = .partner f.lot c ∧
      t.hook (mate c) = ⟨q.x, q.y, r.susp, if s.upperReported c = true then .reported else .unknown⟩ ∧
      (∀ d, s.tables.crane (mate c) = some d → t.ct.structs.get (mate c) =
        some (if s.upperReported c = true then d.centroid q else t.worstCentroid t.lcu.hooks d)) ∧
      (s.upperReported c = false → (⟨.positionUnknown, .crane (mate c)⟩ : AlarmKey) ∈ t.als.held) := by
  have hisSome : r.upper.isSome = true := by rw [hq]; rfl
  have hplaced := State.placeLot_taken hx f.lot (liftEnd f.origin)
  have hhung := (s.liftBase c s.lcu).hungUnder_hung c r f.permit f
  have hpart := ((s.liftBase c s.lcu).placeLot c f.lot (liftEnd f.origin)).hungPermitted_upper c
    (Request.load_tandem_of_upper f.permit f hisSome) r.pickup.own q r.susp
  rw [← hq] at hpart
  change State.UpperHung _ ((s.liftBase c s.lcu).hungUnder c r f.permit f) _ _ _ _ at hpart
  have hreported := State.upperReported_hungOwn hx f.lot (liftEnd f.origin) (r.load f.permit f) r.pickup.own r.susp
  obtain ⟨hlift, hhook, hset, hworst, hunknown, -⟩ := hpart
  rw [hreported] at hhook hset hworst hunknown
  obtain ⟨y, hended, hct, hrecs⟩ := ht.ended
  have hvtables : ((s.liftBase c s.lcu).hungUnder c r f.permit f).tables = s.tables :=
    (hplaced.moved.trans hhung.moved).tables
  have htables : t.tables = ((s.liftBase c s.lcu).hungUnder c r f.permit f).tables := by
    rw [hvtables, ht.frame, State.takeJob_tables]
    rfl
  refine ⟨(ht.lift _ (.inr ⟨hisSome, rfl⟩)).trans hlift, (ht.hook _).trans hhook, fun d hd => ?_,
    fun hno => ht.kept _ (by simp) (hunknown hno)⟩
  rw [State.hungOwn_tables, hplaced.moved.tables] at hset hworst
  rw [ht.structs]
  by_cases hactive : s.upperReported c = true
  · rw [if_pos hactive, hset hactive d hd]
  · rw [if_neg hactive, hworst (Bool.eq_false_iff.2 hactive) d hd]
    refine congrArg some (State.worstCentroid_ended hended hhung (fun g hg => State.filedBy_apart hx hrec hmate hg)
      htables hct hrecs (PerCrane.ext_get ht.hook) d).symm

end

/-- Settles O45: the permit's records let the lift-off hang the lot, on two cranes for a tandem permit. -/
theorem permittedLiftOffHangsTheLot : Obligations.PermittedLiftOffHangsTheLot := by
  intro s c r permit slot deadline w origin q h d hwf hw ho hq hh hpermit hlow hhigh hrec hd hcands ht weight from'
    pickup upper
  have horigin : origin < 256 := by omega
  have hplace : notAddress origin = false := by
    rw [notAddress_eq horigin]
    exact decide_eq_false (by omega)
  obtain ⟨-, hmate⟩ := State.granted_tandemOk hwf ht.1 hrec
  have hx := State.liftBase_liftable hwf ht.1 hrec
  obtain ⟨t, hexec, hlifted⟩ := exec_permittedLift ⟨ht, by rw [hd]; rfl⟩
    (hookLoadedPayload_lengthOk permit r.lot w origin q h) (liftOff_payload hpermit hhigh hw horigin hq hh)
    (Nat.one_le_iff_ne_zero.1 hlow) hplace hrec rfl hwf
  obtain ⟨hlift, hhook, hstructs⟩ := hlifted.own hx hd
  refine ⟨t, hexec, hlift, hhook, hstructs, hlifted.taken, hlifted.stowed, hlifted.filed, fun k l hkl hl => ?_,
    fun q' hq' => ?_, hlifted.joins, hlifted.frame⟩
  · by_contra hkc
    by_cases hmem : hangsOn c r.upper k
    · obtain ⟨hupper, rfl⟩ := hmem.resolve_left hkc
      obtain ⟨q', hq'⟩ := Option.isSome_iff_exists.1 hupper
      cases hkl.symm.trans (hlifted.upper hx hrec hmate hq').1
    · exact hlifted.hooked k l hmem hkl hl
  · intro reported
    have hreported : s.upperReported c = true ↔ reported := beq_iff_eq
    obtain ⟨hpartner, hupper, hset, hunknown⟩ := hlifted.upper hx hrec hmate hq'
    simp only [hreported] at hupper hset
    exact ⟨hpartner, hupper, hset, fun hno => hunknown (Bool.eq_false_iff.2 (mt hreported.1 hno))⟩

end Sys2Proof.Machine
end
